-- ==== Sys2Proof/Word.lean ====
section
/-! DEFINITION. The word types of the part: bytes of frames, 16-bit values sent in frames, and the
numbers of descriptors and cells. -/

namespace Sys2Proof

/-- A byte: a symbol of the line, of a header, of a payload and of the code (chapter 11, R54). -/
abbrev Byte := BitVec 8

/-- A 16-bit value: the generation (R41), the payload check (R178). -/
abbrev Half := BitVec 16

/-- The number of a frame descriptor, 0 to 39 (R22). -/
abbrev DescId := Fin 40

/-- The number of a cell of the frame store, 0 to 127 (R20). -/
abbrev CellId := Fin 128

end Sys2Proof
end

