-- ==== Sys2Proof/Syntax.lean ====
section
/-! DEFINITION. The commands of the part: one constructor of `Instr` for each row of
spec/opcode_table.json, and the types of their operands. The table gives a row no operand fields; the
operands are what the event brings from outside (DESIGN CHOICE, log entry 3). -/

namespace Sys2Proof

/-- The eight bytes of a frame header, in their order on the line (chapter 11.1). -/
structure HeaderBytes where
  destination : Byte
  source : Byte
  /-- The kind in bits 7 to 4, DAMAGED in bit 3, the carried flags in bits 2 to 0. -/
  kindFlags : Byte
  flow : Byte
  code : Byte
  length : Byte
  sequence : Byte
  check : Byte
  deriving DecidableEq, Repr

/-- A symbol of the upstream line (section 1.1). -/
inductive LineSymbol where
  | endDelimiter
  | abortDelimiter
  | idleSymbol
  | codeViolation
  | startDelimiter
  | dataByte
  deriving DecidableEq, Repr

/-- The twelve event classes, in the order of their numbers (R153). -/
inductive EventClass where
  | headerFault
  | poolShort
  | codeFailure
  | chainOverflow
  | deadlineExpired
  | holdForced
  | cadenceSlip
  | upstreamDown
  | upstreamUp
  | leaseEnded
  | addressTaken
  | requestShed
  deriving DecidableEq, Repr

/-- The two locator engines (R71). -/
inductive EngineId where
  | engine0
  | engine1
  deriving DecidableEq, Repr

/-- The commands: one constructor for each row of spec/opcode_table.json. A request row carries
`body`, the payload bytes of the REQUEST frame after its kind byte and before its payload check: the
manager sequence and the arguments (R125). -/
inductive Instr where
  /-- POWER_ON (R36): the level of the HOLD_IN pin is sampled (R116). -/
  | powerOn (holdIn : Bool)
  /-- HOLD_IN_ASSERTION (R116). -/
  | holdInAssertion
  /-- HOLD_IN_RELEASE (R116). -/
  | holdInRelease
  /-- ACQUISITION (R2). -/
  | acquisition
  /-- LOSS (R3), with the payload bytes that had arrived of the frame in the receive slot, if any. -/
  | loss (received : List Byte)
  /-- HEADER_ARRIVAL (R4), with the eight bytes received. -/
  | headerArrival (header : HeaderBytes)
  /-- FRAME_CUT_SHORT (R5), with the symbol that cuts the frame short. -/
  | frameCutShort (symbol : LineSymbol)
  /-- ABORT (R6), with the symbol that ends the frame and the payload bytes that had arrived. An
  `endDelimiter` comes after fewer than L bytes; a `dataByte` is the one beyond the L-th. -/
  | abort (symbol : LineSymbol) (received : List Byte)
  /-- FRAME_END (R15), with the payload bytes of the frame. -/
  | frameEnd (payload : List Byte)
  /-- PICKUP (R73), with the engine that takes the head of the correction queue. -/
  | pickup (engine : EngineId)
  /-- LOCATOR_COMPLETION_LIST (R75). -/
  | locatorCompletionList (engine : EngineId)
  /-- LOCATOR_COMPLETION_FAILED (R76). -/
  | locatorCompletionFailed (engine : EngineId)
  /-- DEADLINE_EXPIRY (R96), with the descriptor whose deadline expires. -/
  | deadlineExpiry (desc : DescId)
  /-- TRANSMISSION_START (R109). -/
  | transmissionStart
  /-- TRANSMISSION_COMPLETION (R106), with the payload bytes that had arrived of the frame in the receive
  slot, none unless given: a reset that takes effect in it frees that frame (R35). -/
  | transmissionCompletion (received : List Byte := [])
  /-- CADENCE_EXPIRY (R113). -/
  | cadenceExpiry
  /-- HOLD_WAIT_EXPIRY (R118). -/
  | holdWaitExpiry
  /-- LEASE_EXPIRY (R139). -/
  | leaseExpiry
  /-- RETRY_TIMER_EXPIRY (R161), with the class whose entry's timer expires. -/
  | retryTimerExpiry (cls : EventClass)
  /-- COPY_COMPLETION (R49). -/
  | copyCompletion
  /-- PROBE (R141). -/
  | probe (body : List Byte)
  /-- UNKNOWN_KIND (R134), with the kind byte. -/
  | unknownKind (kind : Byte) (body : List Byte)
  /-- CLAIM (R137). -/
  | claim (body : List Byte)
  /-- RELEASE (R138). -/
  | release (body : List Byte)
  /-- READ_ENTRY (R47). -/
  | readEntry (body : List Byte)
  /-- WRITE_ENTRY (R46). -/
  | writeEntry (body : List Byte)
  /-- COMMIT (R48). -/
  | commit (body : List Byte)
  /-- READ_FRAMES (R173). -/
  | readFrames (body : List Byte)
  /-- READ_COUNTERS (R172). -/
  | readCounters (body : List Byte)
  /-- READ_GLOBALS (R172). -/
  | readGlobals (body : List Byte)
  /-- CLEAR_COUNTERS (R143). -/
  | clearCounters (body : List Byte)
  /-- READ_STATUS (R174). -/
  | readStatus (body : List Byte)
  /-- SET_TIMING (R121). -/
  | setTiming (body : List Byte)
  /-- SET_EVENTS (R165). -/
  | setEvents (body : List Byte)
  /-- ACK_NOTICE (R163). -/
  | ackNotice (body : List Byte)
  /-- RESET_PART (R146). -/
  | resetPart (body : List Byte)
  /-- START_DELIMITER (R1), with the payload bytes that had arrived of the frame in the receive slot, none
  unless given, which it cuts short (R6). -/
  | startDelimiter (received : List Byte := [])
  /-- SKIP_END (R12), with the symbol that ends the skip. -/
  | skipEnd (symbol : LineSymbol)
  deriving DecidableEq, Repr

end Sys2Proof
end

