-- ==== Sys2Proof/WellFormed.lean ====
section
/-! DEFINITION. The checks on a command's operands that the line itself makes sure of: a payload has at
most 255 bytes, only a delimiter, an idle symbol or a code violation ends a frame or a skip, and an
unknown kind byte names no request kind. The machine gives every term a meaning; these are the terms
that stand for an event of the line. -/

namespace Sys2Proof

/-- The symbols that end a frame in reception or a skip (R1, R12): all but a data byte. -/
def LineSymbol.delimits : LineSymbol → Bool
  | .endDelimiter => true
  | .abortDelimiter => true
  | .idleSymbol => true
  | .codeViolation => true
  | .startDelimiter => true
  | .dataByte => false

/-- A payload holds 0 to 255 bytes (R7). -/
def payloadFits (p : List Byte) : Bool := decide (p.length ≤ 255)

/-- The body of a request, with its kind byte and two check bytes, is a payload (R179). -/
def bodyFits (b : List Byte) : Bool := decide (b.length ≤ 252)

/-- The kind bytes of the fifteen request kinds, 01h to 0Fh (chapter 11.2). -/
def isRequestKind (k : Byte) : Bool := decide (1 ≤ k.toNat ∧ k.toNat ≤ 15)

/-- The operands of a command are those of an event of the part. -/
def Instr.wellFormed : Instr → Bool
  | .powerOn _ => true
  | .holdInAssertion => true
  | .holdInRelease => true
  | .acquisition => true
  | .loss received => payloadFits received
  | .headerArrival _ => true
  | .frameCutShort symbol => symbol.delimits
  | .abort _ received => payloadFits received
  | .frameEnd payload => payloadFits payload
  | .pickup _ => true
  | .locatorCompletionList _ => true
  | .locatorCompletionFailed _ => true
  | .deadlineExpiry _ => true
  | .transmissionStart => true
  | .transmissionCompletion received => payloadFits received
  | .cadenceExpiry => true
  | .holdWaitExpiry => true
  | .leaseExpiry => true
  | .retryTimerExpiry _ => true
  | .copyCompletion => true
  | .probe body => bodyFits body
  | .unknownKind kind body => !isRequestKind kind && bodyFits body
  | .claim body => bodyFits body
  | .release body => bodyFits body
  | .readEntry body => bodyFits body
  | .writeEntry body => bodyFits body
  | .commit body => bodyFits body
  | .readFrames body => bodyFits body
  | .readCounters body => bodyFits body
  | .readGlobals body => bodyFits body
  | .clearCounters body => bodyFits body
  | .readStatus body => bodyFits body
  | .setTiming body => bodyFits body
  | .setEvents body => bodyFits body
  | .ackNotice body => bodyFits body
  | .resetPart body => bodyFits body
  | .startDelimiter received => payloadFits received
  | .skipEnd symbol => symbol.delimits

end Sys2Proof
end

