-- ==== Sys2Proof/Config.lean ====
section
/-! DEFINITION. What the KF-24 fixes: the sizes of its stores, its identification, its limits and the
unit of its clock. Nothing here is chosen by a manager. -/

namespace Sys2Proof.Config

/-- Bytes in one cell (R20). -/
def cellBytes : Nat := 64

/-- Bytes of a frame header (chapter 11.1). -/
def headerBytes : Nat := 8

/-- What a byte of a cell that nothing has written reads as. DESIGN CHOICE (log entry 1, unsafe):
R36 leaves the contents of the cells undefined after power-on. -/
def blankByte : Byte := 0#8

/-- The clock's units in one microsecond. DESIGN CHOICE (log entry 2, safe): the model counts time in
units of 10 ns, so that the line time of a byte, 0.08 µs (R104), is a whole number of units. -/
def unitsPerMicrosecond : Nat := 100

/-- A duration given in microseconds, in clock units. -/
def usec (n : Nat) : Nat := unitsPerMicrosecond * n

/-- A duration given in milliseconds, in clock units. -/
def msec (n : Nat) : Nat := usec (1000 * n)

/-- A duration given in seconds, in clock units. -/
def seconds (n : Nat) : Nat := msec (1000 * n)

/-- The line time of one byte or one delimiter, 0.08 µs (R104). -/
def byteTime : Nat := 8

/-- Vendor code, part code and revision (R141). -/
def vendorCode : Byte := 0x3C#8
/-- See `vendorCode`. -/
def partCode : Byte := 0x24#8
/-- See `vendorCode`. -/
def revision : Byte := 1#8

/-- The broadcast address (chapter 11.1). -/
def broadcast : Byte := 255#8

/-- The largest value of a counter, 2³² − 1 (R168). -/
def counterLimit : Nat := 4294967295

/-- The largest value of a raw count (R154). -/
def rawLimit : Nat := 65535

/-- Entries of the response queue (R128). -/
def responseSlots : Nat := 4

/-- The largest cadence debt (R113). -/
def debtLimit : Nat := 8

/-- HOLD_OUT is asserted with fewer free cells, or fewer free descriptors, than these (R33). -/
def assertCells : Nat := 16
/-- See `assertCells`. -/
def assertDescs : Nat := 4

/-- HOLD_OUT is released with at least this many free cells and free descriptors (R33). -/
def releaseCells : Nat := 24
/-- See `releaseCells`. -/
def releaseDescs : Nat := 8

/-- The resends of one notice after its first transmission (R161). -/
def maxResends : Nat := 3

end Sys2Proof.Config
end

