-- ==== Sys2Proof/Machine/State.lean ====
section
/-! DEFINITION. The state of the part, block by block as chapter 00 lists the blocks, with the queue of
waiting commands; the reasons a command can stop; and the state after power-on. Everything is plain
data. -/

namespace Sys2Proof.Machine

/-! ### Upstream receiver (chapter 01) -/

/-- The upstream link state (R2, R3). -/
inductive LinkState where
  | linkDown
  | linkUp
  deriving DecidableEq, Repr

/-- Where the receiver stands on the line (R1, R4, R12). -/
inductive Reception where
  /-- Between frames; in LINK_DOWN the receiver is always here. -/
  | between
  /-- A frame is in reception and its header has not arrived; it holds nothing (R5). -/
  | beforeHeader
  /-- The frame in reception holds the receive slot with this descriptor (R4). -/
  | receiving (desc : DescId)
  /-- The rest of a frame is being skipped (R12). -/
  | skipping
  deriving DecidableEq, Repr

/-- The last-token record: the source and the token sequence of the last TOKEN consumed (R11). -/
structure TokenRecord where
  source : Byte
  sequence : Byte
  deriving DecidableEq, Repr

/-- The upstream receiver. -/
structure Receiver where
  link : LinkState
  reception : Reception
  /-- The header of the frame in the receive slot, from header arrival to frame-end or abort (R4). -/
  currentHeader : Option HeaderBytes
  lastToken : Option TokenRecord
  deriving DecidableEq, Repr

/-! ### Flow table (chapter 03) -/

/-- What the part does with a flow (R38). -/
inductive Action where
  | forward
  | discard
  | check
  | correct
  | strip
  | encode
  deriving DecidableEq, Repr

/-- The strengths an entry may name (R38). -/
inductive Strength where
  | t0
  | t1
  | t2
  | t4
  | t8
  deriving DecidableEq, Repr

/-- Whether frames of a flow are kept in order (R38). -/
inductive FlowOrder where
  | free
  | ordered
  deriving DecidableEq, Repr

/-- What becomes of a frame whose code has failed (R99). -/
inductive Policy where
  | drop
  | mark
  deriving DecidableEq, Repr

/-- A flow-table entry (R38). The hold limit is in microseconds. -/
structure FlowEntry where
  action : Action
  strength : Strength
  order : FlowOrder
  holdDepth : Nat
  holdLimit : Nat
  policy : Policy
  deriving DecidableEq, Repr

/-- The default entry (R38). -/
def FlowEntry.default : FlowEntry where
  action := .forward
  strength := .t0
  order := .free
  holdDepth := 4
  holdLimit := 1000
  policy := .drop

/-- The two banks (R40). -/
inductive BankId where
  | bankA
  | bankB
  deriving DecidableEq, Repr

/-- The flow table: two banks, the active-bank pointer, the generation and whether the COMMIT copy is in
flight (R40, R41, R49). -/
structure FlowTable where
  bankA : Vector FlowEntry 256
  bankB : Vector FlowEntry 256
  active : BankId
  generation : Half
  copyInFlight : Bool
  deriving DecidableEq, Repr

/-! ### Frame store (chapter 02) -/

/-- The bytes of the 128 cells: cell `c`, offset `o` has the address 64 `c` + `o` (R20). The list is kept
in one canonical form: addresses strictly rising, no entry equal to `Config.blankByte`. -/
abbrev Memory := List Host.Cell

/-- The copy of a flow entry, with the generation, taken at classification (R42). -/
structure Snapshot where
  entry : FlowEntry
  generation : Half
  deriving DecidableEq, Repr

/-- The role of a stored frame; a DATA frame carries its snapshot (R23). -/
inductive Role where
  | data (snapshot : Snapshot)
  | forwardedOther
  | request
  | enumeration
  deriving DecidableEq, Repr

/-- The place of a descriptor that is not FREE (R25). -/
inductive Place where
  | receiving
  | queued
  | locating
  | held
  | forward
  | sending
  deriving DecidableEq, Repr

/-- One entry of an error list: a payload position and the value added to its byte (R62). -/
structure ErrorEntry where
  position : Nat
  value : Byte
  deriving DecidableEq, Repr

/-- A descriptor that is not FREE (R23, R24). A FREE descriptor holds none of these. -/
structure Descriptor where
  role : Role
  /-- The header as received; MARK sets DAMAGED in it (R24). -/
  header : HeaderBytes
  storedLength : Nat
  cells : List CellId
  place : Place
  stamp : Option Nat
  syndromes : Option (List Byte)
  correction : Option (List ErrorEntry)
  /-- The time by which the frame must be resolved, in clock units (R92). -/
  deadline : Option Nat
  deriving DecidableEq, Repr

/-- The frame store. A descriptor number that maps to `none` is FREE (R25). -/
structure FrameStore where
  memory : Memory
  freeCells : List CellId
  freeDescs : List DescId
  descs : Vector (Option Descriptor) 40
  holdOut : Bool
  deriving DecidableEq, Repr

/-! ### Code unit, locator engines, order unit (chapters 04 to 06) -/

/-- The mode of the code unit and the state the mode holds (R56). Accumulators stand in the order of
their roots; remainder symbols stand highest degree first. -/
inductive CodeUnit where
  | idle
  | syndrome (accumulators : List Byte)
  | encoding (remainder : List Byte)
  | passing (faultFound : Bool)
  deriving DecidableEq, Repr

/-- The work of a RUNNING engine, taken at pickup (R72), with the time of the pickup. -/
structure Run where
  desc : DescId
  syndromes : List Byte
  strength : Strength
  length : Nat
  startedAt : Nat
  deriving DecidableEq, Repr

/-- The correction queue and the two engines; an engine that holds no run is IDLE (R69, R71). -/
structure Locator where
  queue : List DescId
  engine0 : Option Run
  engine1 : Option Run
  /-- The engine freed first of the two that one expiry has freed, until it has taken the head of the
  queue (R79). -/
  firstFreed : Option EngineId
  deriving DecidableEq, Repr

/-- The order unit: one chain per flow (R85), and the next arrival stamp (R24). The deadlines stand in
the descriptors. -/
structure OrderUnit where
  chains : Vector (List DescId) 256
  nextStamp : Nat
  deriving DecidableEq, Repr

/-! ### Egress scheduler (chapter 07) -/

/-- The five timing parameters (R120): P and the downstream hold limit in microseconds, the notice retry
interval in units of 10 ms. -/
structure Timing where
  period : Nat
  dueThreshold : Nat
  overdueThreshold : Nat
  holdLimit : Nat
  retryInterval : Nat
  deriving DecidableEq, Repr

/-- The defaults of R120. -/
def Timing.default : Timing where
  period := 1000
  dueThreshold := 2
  overdueThreshold := 6
  holdLimit := 500
  retryInterval := 10

/-- Where the frame in transmission comes from (R105). A notice is known by its class and sequence. -/
inductive TxSource where
  | response
  | token
  | notice (cls : EventClass) (sequence : Byte)
  | forward (desc : DescId)
  deriving DecidableEq, Repr

/-- The frame in transmission: its source, its bytes as they leave on the line, and the time at which
its end delimiter has been sent (R104, R105). -/
structure Transmission where
  source : TxSource
  header : HeaderBytes
  payload : List Byte
  endsAt : Nat
  deriving DecidableEq, Repr

/-- The egress scheduler. A transmitter that holds no transmission is IDLE (R104). -/
structure Egress where
  forwardQueue : List DescId
  transmitter : Option Transmission
  holdIn : Bool
  /-- The time at which the hold-wait timer expires, while it runs (R117). -/
  holdWait : Option Nat
  /-- The forced-start permission stands (R118). -/
  permission : Bool
  /-- The time of the cadence timer's next expiry (R112). -/
  cadenceDue : Nat
  debt : Nat
  overdue : Bool
  tokenSequence : Byte
  timing : Timing
  deriving DecidableEq, Repr

/-! ### Management unit (chapter 08) -/

/-- The statuses of a response (R127). -/
inductive Status where
  | ok
  | badArg
  | unknown
  | busy
  | held
  | unclaimed
  | stale
  deriving DecidableEq, Repr

/-- The content of a response: the request's kind byte and manager sequence, the status and the bytes
of the results (R127, R180). -/
structure Response where
  kind : Byte
  sequence : Byte
  status : Status
  results : List Byte
  deriving DecidableEq, Repr

/-- An entry of the response queue (R128). -/
structure QueuedResponse where
  destination : Byte
  response : Response
  resetMark : Bool
  deriving DecidableEq, Repr

/-- The record of the replay slot (R130). -/
structure ReplayRecord where
  requester : Byte
  sequence : Byte
  response : Response
  deriving DecidableEq, Repr

/-- The claim's holder and the time at which its lease runs out (R136). -/
structure Claim where
  holder : Byte
  leaseEnds : Nat
  deriving DecidableEq, Repr

/-- The scopes of RESET PART (R146). -/
inductive ResetScope where
  | flush
  | restart
  deriving DecidableEq, Repr

/-- The pending-reset record (R146). -/
structure PendingReset where
  scope : ResetScope
  responseOutstanding : Bool
  copyOutstanding : Option DescId
  deriving DecidableEq, Repr

/-- The management unit. -/
structure Management where
  replay : Option ReplayRecord
  claim : Option Claim
  responses : List QueuedResponse
  pendingReset : Option PendingReset
  deriving DecidableEq, Repr

/-! ### Event unit (chapter 09) -/

/-- The notice-table entry of a class (R156). `age` orders the entries that are PENDING_SEND by when they
entered that state (R108); the retry timer's expiry time stands beside a running timer. -/
inductive NoticeEntry where
  | idle
  | pendingSend (sequence : Byte) (sentCount : Option Nat) (resends : Nat) (age : Nat)
  | awaitingAck (sequence : Byte) (sentCount : Nat) (resends : Nat) (retryDue : Nat)
  | exhausted (sequence : Byte) (sentCount : Nat)
  deriving DecidableEq, Repr

/-- A class's raw count, enable and notice-table entry (R154 to R156). -/
structure ClassState where
  raw : Nat
  enabled : Bool
  entry : NoticeEntry
  deriving DecidableEq, Repr

/-- The event unit: the twelve classes in the order of their numbers, the sequence the next issued
notice takes (R158), and the age the next entry into PENDING_SEND takes (R108). -/
structure EventUnit where
  classes : Vector ClassState 12
  noticeSequence : Byte
  nextAge : Nat
  deriving DecidableEq, Repr

/-! ### Counter store (chapter 10) -/

/-- The eight counters of a flow (R169). -/
structure FlowCounters where
  arrived : Nat
  clean : Nat
  corrected : Nat
  symbolsFixed : Nat
  codeFailed : Nat
  expired : Nat
  dropped : Nat
  sent : Nat
  deriving DecidableEq, Repr

/-- The ten global counters (R170). -/
structure GlobalCounters where
  headerFaults : Nat
  loopStripped : Nat
  poolShort : Nat
  mgmtCheckFaults : Nat
  requestsShed : Nat
  tokensSent : Nat
  tokensReceived : Nat
  cadenceSlips : Nat
  holdForced : Nat
  upstreamAborts : Nat
  deriving DecidableEq, Repr

/-- All eight counters at 0. -/
def FlowCounters.zero : FlowCounters := ⟨0, 0, 0, 0, 0, 0, 0, 0⟩

/-- All ten counters at 0. -/
def GlobalCounters.zero : GlobalCounters := ⟨0, 0, 0, 0, 0, 0, 0, 0, 0, 0⟩

/-- The counter store (R168). -/
structure CounterStore where
  flows : Vector FlowCounters 256
  globals : GlobalCounters
  deriving DecidableEq, Repr

/-! ### The part -/

/-- The state of the part. `now` is the model's clock, in units of 10 ns (log entry 2); `pending` is the
queue of waiting commands. -/
structure State where
  receiver : Receiver
  nodeAddress : Byte
  store : FrameStore
  table : FlowTable
  codeUnit : CodeUnit
  locator : Locator
  order : OrderUnit
  egress : Egress
  management : Management
  events : EventUnit
  counters : CounterStore
  now : Nat
  pending : List Instr
  deriving DecidableEq, Repr

/-- The reasons a command stops the machine. -/
inductive Fault where
  /-- A block names a descriptor that is FREE: the receive slot, an engine, the head of the correction
  queue or of the forward queue, or the transmitter. Raised by a command that would act on that
  descriptor. R25 keeps the part out of every such state, so stopping there is safe. -/
  | descriptorMissing
  deriving DecidableEq, Repr

/-- The reasons a command has no meaning. -/
inductive Refusal where
  /-- The command has no meaning in the model yet. Raised by `exec` alone; safe. No arm raises it. -/
  | notModelled (mnemonic : String)
  deriving DecidableEq, Repr

/-! ### After power-on -/

/-- The receiver after power-on (R19). -/
def Receiver.reset : Receiver where
  link := .linkDown
  reception := .between
  currentHeader := none
  lastToken := none

/-- The flow table after power-on (R51). -/
def FlowTable.reset : FlowTable where
  bankA := Vector.replicate 256 FlowEntry.default
  bankB := Vector.replicate 256 FlowEntry.default
  active := .bankA
  generation := 0
  copyInFlight := false

/-- The frame store after power-on (R36). -/
def FrameStore.reset : FrameStore where
  memory := []
  freeCells := List.finRange 128
  freeDescs := List.finRange 40
  descs := Vector.replicate 40 none
  holdOut := false

/-- The correction queue and engines after power-on (R82). -/
def Locator.reset : Locator where
  queue := []
  engine0 := none
  engine1 := none
  firstFreed := none

/-- The order unit after power-on (R102). -/
def OrderUnit.reset : OrderUnit where
  chains := Vector.replicate 256 []
  nextStamp := 0

/-- The scheduler after power-on, at time 0, with the HOLD_IN pin at the level given (R116, R123). -/
def Egress.reset (holdIn : Bool) : Egress where
  forwardQueue := []
  transmitter := none
  holdIn := holdIn
  holdWait := none
  permission := false
  cadenceDue := Config.usec Timing.default.period
  debt := 0
  overdue := false
  tokenSequence := 0
  timing := Timing.default

/-- The management unit after power-on (R151). -/
def Management.reset : Management where
  replay := none
  claim := none
  responses := []
  pendingReset := none

/-- A class with nothing counted and no notice. -/
def ClassState.clear (enabled : Bool) : ClassState where
  raw := 0
  enabled := enabled
  entry := .idle

/-- The event unit after power-on: ADDRESS_TAKEN, class 10, alone is enabled (R166). -/
def EventUnit.reset : EventUnit where
  classes := (Vector.replicate 12 (ClassState.clear false)).set 10 (ClassState.clear true)
  noticeSequence := 0
  nextAge := 0

/-- The counter store after power-on (R168). -/
def CounterStore.reset : CounterStore where
  flows := Vector.replicate 256 FlowCounters.zero
  globals := GlobalCounters.zero

/-- The part right after power-on (R19, R36, R51, R56, R82, R102, R123, R151, R166, R168), with HOLD_IN
released (DESIGN CHOICE, log entry 5) and no command waiting. -/
def State.reset : State where
  receiver := Receiver.reset
  nodeAddress := 0
  store := FrameStore.reset
  table := FlowTable.reset
  codeUnit := .idle
  locator := Locator.reset
  order := OrderUnit.reset
  egress := Egress.reset false
  management := Management.reset
  events := EventUnit.reset
  counters := CounterStore.reset
  now := 0
  pending := []

end Sys2Proof.Machine
end

