-- ==== Sys2Proof/Machine/Operands.lean ====
section
/-! DEFINITION. The formats of chapter 11: fields of a header, multi-byte values, the two checks, the
encodings of entries, statuses, places and request kinds. -/

namespace Sys2Proof.Machine

/-! ### Multi-byte fields, most significant byte first -/

/-- The value of a 16-bit field. -/
def value16 (hi lo : Byte) : Nat := 256 * hi.toNat + lo.toNat

/-- A number as a byte. -/
def byteOf (n : Nat) : Byte := BitVec.ofNat 8 n

/-- The two bytes of a 16-bit field. -/
def bytes16 (n : Nat) : List Byte := [byteOf (n / 256), byteOf n]

/-- The four bytes of a counter (chapter 11.3). -/
def bytes32 (n : Nat) : List Byte :=
  [byteOf (n / 16777216), byteOf (n / 65536), byteOf (n / 256), byteOf n]

/-- 1 for true, 0 for false. -/
def flagByte (b : Bool) : Byte := if b then 1 else 0

/-! ### Checks (R178) -/

/-- The bits of a byte, most significant first. -/
def bitsOf (b : Byte) : List Bool := [7, 6, 5, 4, 3, 2, 1, 0].map b.getLsbD

/-- One bit through a check register of `w` bits with the polynomial `poly`. -/
def checkBit {w : Nat} (poly : BitVec w) (reg : BitVec w) (bit : Bool) : BitVec w :=
  if reg.msb ^^ bit then (reg <<< 1) ^^^ poly else reg <<< 1

/-- A check register after the bytes given. -/
def checkBytes {w : Nat} (poly init : BitVec w) (bytes : List Byte) : BitVec w :=
  bytes.foldl (fun reg b => (bitsOf b).foldl (checkBit poly) reg) init

/-- The header check of the seven bytes before it. -/
def headerCrc (bytes : List Byte) : Byte := checkBytes 0x07#8 0xFF#8 bytes

/-- The payload check of the payload bytes before it. -/
def payloadCrc (bytes : List Byte) : Half := checkBytes 0x1021#16 0xFFFF#16 bytes

/-- A payload with its payload check behind it. -/
def withPayloadCheck (bytes : List Byte) : List Byte := bytes ++ bytes16 (payloadCrc bytes).toNat

/-- The payload check of a REQUEST or ENUM payload passes; a payload of fewer than two bytes has none,
and the test counts as failed (R14). -/
def payloadCheckPasses (p : List Byte) : Bool :=
  decide (2 ≤ p.length ∧ p.drop (p.length - 2) = bytes16 (payloadCrc (p.take (p.length - 2))).toNat)

/-! ### The header (chapter 11.1, R7) -/

/-- The kinds of frame. -/
inductive FrameKind where
  | data
  | request
  | response
  | notice
  | token
  | enumeration
  | foreign
  deriving DecidableEq, Repr

/-- The kind that a kind nibble names. -/
def FrameKind.ofNibble (n : Nat) : FrameKind :=
  match n with
  | 1 => .data
  | 2 => .request
  | 3 => .response
  | 4 => .notice
  | 5 => .token
  | 6 => .enumeration
  | _ => .foreign

/-- The nibble of a kind the part sends. -/
def FrameKind.nibble : FrameKind → Nat
  | .data => 1
  | .request => 2
  | .response => 3
  | .notice => 4
  | .token => 5
  | .enumeration => 6
  | .foreign => 0

/-- The kind of a frame. -/
def frameKind (h : HeaderBytes) : FrameKind := FrameKind.ofNibble (h.kindFlags.toNat / 16)

/-- The DAMAGED flag. -/
def isDamaged (h : HeaderBytes) : Bool := h.kindFlags.getLsbD 3

/-- A header with DAMAGED set and nothing else changed. -/
def withDamaged (h : HeaderBytes) : HeaderBytes := { h with kindFlags := h.kindFlags ||| 0x08#8 }

/-- The header length L. -/
def headerLength (h : HeaderBytes) : Nat := h.length.toNat

/-- The seven bytes the header check runs over. -/
def checkedBytes (h : HeaderBytes) : List Byte :=
  [h.destination, h.source, h.kindFlags, h.flow, h.code, h.length, h.sequence]

/-- The eight bytes of a header. -/
def headerList (h : HeaderBytes) : List Byte := checkedBytes h ++ [h.check]

/-- The header check of a received header passes (R8). -/
def headerCheckPasses (h : HeaderBytes) : Bool := headerCrc (checkedBytes h) == h.check

/-- A header with its check computed afresh over the bytes sent (R105). -/
def withHeaderCheck (h : HeaderBytes) : HeaderBytes := { h with check := headerCrc (checkedBytes h) }

/-- The header of a frame the part originates: flags, flow and code all 0 (R105, R114). -/
def ownHeader (destination source : Byte) (kind : FrameKind) (length sequence : Byte) : HeaderBytes :=
  withHeaderCheck
    { destination := destination, source := source, kindFlags := byteOf (16 * kind.nibble),
      flow := 0, code := 0, length := length, sequence := sequence, check := 0 }

/-- An address from 1 to 254. -/
def isNodeAddress (a : Byte) : Bool := a != 0 && a != Config.broadcast

/-! ### Flow entries (chapter 11.2, R38) -/

/-- The number t of a strength. -/
def Strength.t : Strength → Nat
  | .t0 => 0
  | .t1 => 1
  | .t2 => 2
  | .t4 => 4
  | .t8 => 8

/-- The strength that a byte names, if any. -/
def decodeStrength (b : Byte) : Option Strength :=
  match b.toNat with
  | 0 => some .t0
  | 1 => some .t1
  | 2 => some .t2
  | 4 => some .t4
  | 8 => some .t8
  | _ => none

/-- The action that a byte names, if any. -/
def decodeAction (b : Byte) : Option Action :=
  match b.toNat with
  | 0 => some .forward
  | 1 => some .discard
  | 2 => some .check
  | 3 => some .correct
  | 4 => some .strip
  | 5 => some .encode
  | _ => none

/-- The encoding of an action. -/
def Action.code : Action → Byte
  | .forward => 0
  | .discard => 1
  | .check => 2
  | .correct => 3
  | .strip => 4
  | .encode => 5

/-- The ordering that a byte names, if any. -/
def decodeOrder (b : Byte) : Option FlowOrder :=
  match b.toNat with
  | 0 => some .free
  | 1 => some .ordered
  | _ => none

/-- The encoding of an ordering. -/
def FlowOrder.code : FlowOrder → Byte
  | .free => 0
  | .ordered => 1

/-- The failure policy that a byte names, if any. -/
def decodePolicy (b : Byte) : Option Policy :=
  match b.toNat with
  | 0 => some .drop
  | 1 => some .mark
  | _ => none

/-- The encoding of a failure policy. -/
def Policy.code : Policy → Byte
  | .drop => 0
  | .mark => 1

/-- The actions with which t is 0 (R39). -/
def Action.uncoded : Action → Bool
  | .forward => true
  | .discard => true
  | .check => false
  | .correct => false
  | .strip => false
  | .encode => false

/-- An entry is valid: its fields are in range and t agrees with the action (R39). -/
def FlowEntry.valid (e : FlowEntry) : Bool :=
  decide ((e.action.uncoded = true ↔ e.strength = .t0) ∧ 1 ≤ e.holdDepth ∧ e.holdDepth ≤ 16 ∧
    10 ≤ e.holdLimit ∧ e.holdLimit ≤ 65535)

/-- The entry that seven bytes hold, if it is valid (R39, R179). -/
def decodeEntry : List Byte → Option FlowEntry
  | [a, t, o, d, hi, lo, p] => do
    let action ← decodeAction a
    let strength ← decodeStrength t
    let order ← decodeOrder o
    let policy ← decodePolicy p
    let e : FlowEntry := ⟨action, strength, order, d.toNat, value16 hi lo, policy⟩
    if e.valid then some e else none
  | _ => none

/-- The seven bytes of an entry (chapter 11.2). -/
def encodeEntry (e : FlowEntry) : List Byte :=
  [e.action.code, byteOf e.strength.t, e.order.code, byteOf e.holdDepth] ++ bytes16 e.holdLimit
    ++ [e.policy.code]

/-! ### Results (chapter 11.3) -/

/-- The status codes. -/
def Status.code : Status → Byte
  | .ok => 0
  | .badArg => 1
  | .unknown => 2
  | .busy => 3
  | .held => 4
  | .unclaimed => 5
  | .stale => 6

/-- The place codes of a READ FRAMES record. -/
def Place.code : Place → Byte
  | .receiving => 1
  | .queued => 2
  | .locating => 3
  | .held => 4
  | .forward => 5
  | .sending => 6

/-- The bytes of a response payload before its payload check (R180). -/
def responseBytes (r : Response) : List Byte := [r.kind, r.sequence, r.status.code] ++ r.results

/-- The reasons of a BUSY (chapter 11.3). -/
def busyReset : Byte := 1
/-- See `busyReset`. -/
def busyCopy : Byte := 2

/-- The scope that a byte names, if any (chapter 11.2). -/
def decodeScope (b : Byte) : Option ResetScope :=
  match b.toNat with
  | 1 => some .flush
  | 2 => some .restart
  | _ => none

/-- The five timing parameters in the argument layout of SET TIMING (chapter 11.2). -/
def encodeTiming (t : Timing) : List Byte :=
  bytes16 t.period ++ [byteOf t.dueThreshold, byteOf t.overdueThreshold] ++ bytes16 t.holdLimit
    ++ [byteOf t.retryInterval]

/-- The timing parameters are in the ranges of R120. -/
def Timing.valid (t : Timing) : Bool :=
  decide (50 ≤ t.period ∧ t.period ≤ 10000 ∧ t.period % 10 = 0 ∧ 1 ≤ t.dueThreshold ∧
    t.dueThreshold ≤ 7 ∧ t.dueThreshold + 1 ≤ t.overdueThreshold ∧ t.overdueThreshold ≤ 8 ∧
    10 ≤ t.holdLimit ∧ t.holdLimit ≤ 65535 ∧ 1 ≤ t.retryInterval ∧ t.retryInterval ≤ 255)

/-- The timing parameters that seven bytes hold, if they are in range (R120, R179). -/
def decodeTiming : List Byte → Option Timing
  | [p1, p0, dt, ot, h1, h0, r] =>
    let t : Timing := ⟨value16 p1 p0, dt.toNat, ot.toNat, value16 h1 h0, r.toNat⟩
    if t.valid then some t else none
  | _ => none

/-! ### Event classes (R153) -/

/-- The number of a class. -/
def classNumber : EventClass → Fin 12
  | .headerFault => 0
  | .poolShort => 1
  | .codeFailure => 2
  | .chainOverflow => 3
  | .deadlineExpired => 4
  | .holdForced => 5
  | .cadenceSlip => 6
  | .upstreamDown => 7
  | .upstreamUp => 8
  | .leaseEnded => 9
  | .addressTaken => 10
  | .requestShed => 11

/-- The twelve classes in ascending number. -/
def allClasses : List EventClass :=
  [.headerFault, .poolShort, .codeFailure, .chainOverflow, .deadlineExpired, .holdForced, .cadenceSlip,
    .upstreamDown, .upstreamUp, .leaseEnded, .addressTaken, .requestShed]

/-- The class that a byte names, if any (R145). -/
def decodeClass (b : Byte) : Option EventClass := allClasses[b.toNat]?

/-- The payload of a notice before its payload check (chapter 11.2). -/
def noticeBytes (c : EventClass) (sequence : Byte) (sent : Nat) : List Byte :=
  [byteOf (classNumber c).val, sequence] ++ bytes16 sent

/-! ### Request kinds (chapter 11.2) -/

/-- The payload of a REQUEST with this kind byte and body, its payload check behind it (R125). -/
def requestPayload (kind : Byte) (body : List Byte) : List Byte := withPayloadCheck (kind :: body)

end Sys2Proof.Machine
end

