-- ==== Sys2Proof/Machine/Code.lean ====
section
/-! DEFINITION. The code of chapter 04: the symbol field, syndromes, check bytes, the code-fault test and
the result of a locator run. -/

namespace Sys2Proof.Machine

/-! ### The symbol field (R54) -/

/-- A symbol times α, reduced modulo x⁸ + x⁴ + x³ + x² + 1. -/
def timesAlpha (a : Byte) : Byte := if a.msb then (a <<< 1) ^^^ 0x1D#8 else a <<< 1

/-- The product of two symbols: Horner's rule over the bits of the second. -/
def gfMul (a b : Byte) : Byte :=
  (bitsOf b).foldl (fun acc bit => if bit then timesAlpha acc ^^^ a else timesAlpha acc) 0

/-- A power of α. -/
def alphaPow : Nat → Byte
  | 0 => 1
  | n + 1 => timesAlpha (alphaPow n)

/-- The inverse of a non-zero symbol: its 254th power, for every non-zero symbol's 255th power is 01h. -/
def gfInv (a : Byte) : Byte :=
  let a2 := gfMul a a
  let a4 := gfMul a2 a2
  let a8 := gfMul a4 a4
  let a16 := gfMul a8 a8
  let a32 := gfMul a16 a16
  let a64 := gfMul a32 a32
  let a128 := gfMul a64 a64
  gfMul a128 (gfMul a64 (gfMul a32 (gfMul a16 (gfMul a8 (gfMul a4 a2)))))

/-- The first `n` powers of α, α⁰ first: the roots of the generator of degree `n` (R55). -/
def alphaPowers : Nat → List Byte
  | 0 => []
  | n + 1 => alphaPowers n ++ [alphaPow n]

/-! ### Polynomials over the field, constant coefficient first -/

/-- The sum of two polynomials. -/
def polyAdd : List Byte → List Byte → List Byte
  | [], q => q
  | p, [] => p
  | a :: p, b :: q => (a ^^^ b) :: polyAdd p q

/-- A polynomial times a symbol. -/
def polyScale (c : Byte) (p : List Byte) : List Byte := p.map (gfMul c)

/-- The product of two polynomials. -/
def polyMul : List Byte → List Byte → List Byte
  | [], _ => []
  | a :: p, q => polyAdd (polyScale a q) (0 :: polyMul p q)

/-- The value of a polynomial at a symbol. -/
def polyEval (p : List Byte) (x : Byte) : Byte := p.foldr (fun a acc => gfMul acc x ^^^ a) 0

/-- The generator of degree `n`, with the roots α⁰ to α^(n−1) (R55). -/
def generator : Nat → List Byte
  | 0 => [1]
  | n + 1 => polyMul [alphaPow n, 1] (generator n)

/-! ### Syndromes and check bytes (R58, R59) -/

/-- One payload byte through the syndrome accumulators: each is multiplied by its root and the byte is
added (R58). -/
def syndromeStep (acc : List Byte) (b : Byte) : List Byte :=
  List.zipWith (fun a root => gfMul a root ^^^ b) acc (alphaPowers acc.length)

/-- The 2t syndromes of a payload (R58). -/
def syndromesOf (t : Nat) (payload : List Byte) : List Byte :=
  payload.foldl syndromeStep (List.replicate (2 * t) 0)

/-- One payload byte through the remainder symbols, highest degree first (R59). -/
def encodeStep (rem : List Byte) (b : Byte) : List Byte :=
  let feedback := rem.headD 0 ^^^ b
  let lower := ((generator rem.length).take rem.length).reverse
  List.zipWith (fun r g => r ^^^ gfMul feedback g) (rem.drop 1 ++ [0]) lower

/-- The 2t check bytes of a payload (R59). -/
def checkBytesOf (t : Nat) (payload : List Byte) : List Byte :=
  payload.foldl encodeStep (List.replicate (2 * t) 0)

/-- Every syndrome is 00h (R58). -/
def isClean (syndromes : List Byte) : Bool := syndromes.all (· == 0)

/-! ### The code-fault test and the stored length (R27, R57) -/

/-- A classified DATA frame has a code fault (R57). FORWARD frames are never examined, and DISCARD
frames never reach the test. -/
def codeFault (e : FlowEntry) (h : HeaderBytes) : Bool :=
  match e.action with
  | .forward => false
  | .discard => false
  | .encode => decide (h.code ≠ 0 ∨ headerLength h = 0 ∨ headerLength h > 255 - 2 * e.strength.t)
  | .check => decide (h.code.toNat ≠ e.strength.t ∨ headerLength h < 2 * e.strength.t + 1)
  | .correct => decide (h.code.toNat ≠ e.strength.t ∨ headerLength h < 2 * e.strength.t + 1)
  | .strip => decide (h.code.toNat ≠ e.strength.t ∨ headerLength h < 2 * e.strength.t + 1)

/-- The stored length S of a frame (R27). -/
def storedLengthOf (role : Role) (h : HeaderBytes) : Nat :=
  match role with
  | .data snap =>
    if snap.entry.action = .encode ∧ codeFault snap.entry h = false then
      headerLength h + 2 * snap.entry.strength.t
    else headerLength h
  | .forwardedOther => headerLength h
  | .request => headerLength h
  | .enumeration => headerLength h

/-- The cells a frame of stored length `s` needs, ⌈(8 + s) / 64⌉ (R27). -/
def cellsNeeded (s : Nat) : Nat :=
  (Config.headerBytes + s + (Config.cellBytes - 1)) / Config.cellBytes

/-- The mode the code unit takes for a kept frame (R56). -/
def codeUnitFor (role : Role) (h : HeaderBytes) : CodeUnit :=
  match role with
  | .data snap =>
    let fresh := List.replicate (2 * snap.entry.strength.t) (0 : Byte)
    if codeFault snap.entry h then .passing true
    else
      match snap.entry.action with
      | .check => .syndrome fresh
      | .correct => .syndrome fresh
      | .strip => .syndrome fresh
      | .encode => .encoding fresh
      | .forward => .passing false
      | .discard => .passing false
  | .forwardedOther => .passing false
  | .request => .passing false
  | .enumeration => .passing false

/-- The code unit after the payload bytes given (R58, R59). -/
def CodeUnit.stream (u : CodeUnit) (payload : List Byte) : CodeUnit :=
  match u with
  | .idle => .idle
  | .syndrome acc => .syndrome (payload.foldl syndromeStep acc)
  | .encoding rem => .encoding (payload.foldl encodeStep rem)
  | .passing found => .passing found

/-! ### The result of a locator run (R62, R63)

R62 fixes the result and leaves the method open. The locator polynomial is found here by the
Berlekamp-Massey recursion and the values by Forney's formula; `accountsFor` then tests the list
against R62 itself, and only a list that passes is reported. -/

/-- The syndromes that an error list alone would give: entry (p, v) adds v·α^(j·(L−1−p)) to S_j. -/
def listSyndromes (count length : Nat) (entries : List ErrorEntry) : List Byte :=
  (List.range count).map fun j =>
    entries.foldl (fun acc e => acc ^^^ gfMul e.value (alphaPow (j * (length - 1 - e.position) % 255))) 0

/-- An error list is what R62 calls one: 1 to t entries, non-zero values, distinct positions below L, and
every syndrome accounted for. -/
def accountsFor (syndromes : List Byte) (t length : Nat) (entries : List ErrorEntry) : Bool :=
  decide (1 ≤ entries.length ∧ entries.length ≤ t ∧ (entries.map ErrorEntry.position).Nodup) &&
    entries.all (fun e => decide (e.position < length ∧ e.value ≠ 0)) &&
    listSyndromes syndromes.length length entries == syndromes

/-- The work of the recursion: the locator polynomial, the polynomial of the last length change, the
number of errors so far, the steps since that change, and its discrepancy. -/
structure LocatorWork where
  locator : List Byte
  previous : List Byte
  errors : Nat
  gap : Nat
  lastDiscrepancy : Byte
  deriving DecidableEq, Repr

/-- The discrepancy of step `n`: the sum of Λ_i·S_(n−i) for i from 0 to the number of errors so far. -/
def discrepancy (syndromes : List Byte) (w : LocatorWork) (n : Nat) : Byte :=
  (List.range (w.errors + 1)).foldl
    (fun acc i => acc ^^^ gfMul (w.locator.getD i 0) (if i ≤ n then syndromes.getD (n - i) 0 else 0)) 0

/-- One step of the recursion. -/
def locatorStep (syndromes : List Byte) (w : LocatorWork) (n : Nat) : LocatorWork :=
  let d := discrepancy syndromes w n
  if d = 0 then { w with gap := w.gap + 1 }
  else
    let c := gfMul d (gfInv w.lastDiscrepancy)
    let next := polyAdd w.locator (List.replicate w.gap 0 ++ polyScale c w.previous)
    if 2 * w.errors ≤ n then
      { locator := next, previous := w.locator, errors := n + 1 - w.errors, gap := 1,
        lastDiscrepancy := d }
    else { w with locator := next, gap := w.gap + 1 }

/-- The locator polynomial of the syndromes, with the number of errors it stands for. -/
def locatorPolynomial (syndromes : List Byte) : LocatorWork :=
  (List.range syndromes.length).foldl (locatorStep syndromes)
    { locator := [1], previous := [1], errors := 0, gap := 1, lastDiscrepancy := 1 }

/-- The formal derivative of a polynomial: its odd coefficients, each one degree lower. -/
def polyDerivative (p : List Byte) : List Byte :=
  (List.range (p.length - 1)).map fun i => if i % 2 = 0 then p.getD (i + 1) 0 else 0

/-- The value at degree `d`, by Forney's formula: X·Ω(X⁻¹)/Λ'(X⁻¹) with X = α^d. -/
def errorValue (syndromes locator : List Byte) (d : Nat) : Byte :=
  let omega := (polyMul syndromes locator).take syndromes.length
  let x := alphaPow d
  let xInv := alphaPow ((255 - d) % 255)
  gfMul x (gfMul (polyEval omega xInv) (gfInv (polyEval (polyDerivative locator) xInv)))

/-- The payload positions, in ascending order, whose degrees are locations of the polynomial. -/
def locatedPositions (locator : List Byte) (length : Nat) : List Nat :=
  (List.range length).filter fun p =>
    polyEval locator (alphaPow ((255 - (length - 1 - p)) % 255)) == 0

/-- The result of a locator run (R62, R63): an error list, in ascending order of position, or none for
FAILED. A location in the shortened part is at no payload position, so the positions found are then too
few to account for every syndrome. -/
def locate (syndromes : List Byte) (t length : Nat) : Option (List ErrorEntry) :=
  let w := locatorPolynomial syndromes
  let entries := (locatedPositions w.locator length).map fun p =>
    { position := p, value := errorValue syndromes w.locator (length - 1 - p) : ErrorEntry }
  if accountsFor syndromes t length entries then some entries else none

end Sys2Proof.Machine
end

