-- ==== Sys2Proof/Machine/Flags.lean ====
section
/-! DEFINITION. The conditions the part computes from its state: HOLD_OUT, OVERDUE, whether a non-token
candidate waits, and the run of the hold-wait timer. -/

namespace Sys2Proof.Machine

/-- The HOLD_OUT state after an evaluation (R33). -/
def nextHoldOut (asserted : Bool) (freeCells freeDescs : Nat) : Bool :=
  if asserted then
    !decide (Config.releaseCells ≤ freeCells ∧ Config.releaseDescs ≤ freeDescs)
  else decide (freeCells < Config.assertCells ∨ freeDescs < Config.assertDescs)

/-- The frame store with HOLD_OUT evaluated (R33). -/
def FrameStore.evaluated (st : FrameStore) : FrameStore :=
  { st with holdOut := nextHoldOut st.holdOut st.freeCells.length st.freeDescs.length }

/-- The part with HOLD_OUT evaluated (R33). -/
def State.evaluateHoldOut (s : State) : State := { s with store := s.store.evaluated }

/-- The source of the frame in transmission, if any. -/
def State.sending (s : State) : Option TxSource := s.egress.transmitter.map Transmission.source

/-- The response queue holds an entry that is not being sent (R108). -/
def State.responseWaits (s : State) : Bool :=
  if s.sending = some .response then decide (2 ≤ s.management.responses.length)
  else decide (1 ≤ s.management.responses.length)

/-- The state of a class. -/
def State.classState (s : State) (c : EventClass) : ClassState := s.events.classes[classNumber c]

/-- The entry of a class is PENDING_SEND and its notice is not the one being sent (R108). -/
def State.noticeOfClassWaits (s : State) (c : EventClass) : Bool :=
  match (s.classState c).entry with
  | .pendingSend q _ _ _ => decide (s.sending ≠ some (.notice c q))
  | .idle => false
  | .awaitingAck _ _ _ _ => false
  | .exhausted _ _ => false

/-- Some notice waits (R108). -/
def State.noticeWaits (s : State) : Bool := allClasses.any s.noticeOfClassWaits

/-- A non-token candidate waits: a response, a notice or a frame of the forward queue (R108). -/
def State.nonTokenWaits (s : State) : Bool :=
  s.responseWaits || s.noticeWaits || !s.egress.forwardQueue.isEmpty

/-- The three conditions under which the hold-wait timer runs (R117). -/
def State.holdWaitRuns (s : State) : Bool :=
  s.egress.holdIn && s.nonTokenWaits && !s.egress.permission

/-- The part at the end of an event: the hold-wait timer is stopped where its conditions do not hold, is
left running where it runs, and is started from zero, with the downstream hold limit in force, where
they have come to hold (R117). -/
def State.settle (s : State) : State :=
  { s with egress := { s.egress with
      holdWait :=
        if s.holdWaitRuns then
          some (s.egress.holdWait.getD (s.now + Config.usec s.egress.timing.holdLimit))
        else none } }

/-- The outcome of a command whose event ends here. -/
def State.done (s : State) : Host.Outcome State Fault Refusal := .next s.settle

/-- Time does not run back: the clock at the time given, or later (log entry 2). -/
def State.advanceTo (s : State) (time : Nat) : State := { s with now := max s.now time }

/-- The lease remaining in whole seconds, rounded up, 1 to 255 (R127). -/
def Claim.remaining (c : Claim) (now : Nat) : Nat :=
  max 1 (min 255 ((c.leaseEnds - now + (Config.seconds 1 - 1)) / Config.seconds 1))

/-- OVERDUE after the debt or OT has changed: it is set by a debt of OT or more and is not left here
(R115). -/
def overdueAfterRise (overdue : Bool) (debt overdueThreshold : Nat) : Bool :=
  overdue || decide (overdueThreshold ≤ debt)

/-- OVERDUE after a token completion: left at a debt of 1 or less (R115). -/
def overdueAfterToken (overdue : Bool) (debt : Nat) : Bool := overdue && decide (2 ≤ debt)

end Sys2Proof.Machine
end

