-- ==== Sys2Proof/Machine/Ops.lean ====
section
/-! DEFINITION. The operations the commands share: tables by flow, the cells' memory, the frame store's
allocation and release, counting, raising events and the forward queue. -/

namespace Sys2Proof.Machine

/-! ### Tables indexed by flow -/

/-- The item of a flow. -/
def atFlow {α : Type} (v : Vector α 256) (f : Byte) : α := v[f.toNat]'(f.isLt)

/-- A table with the item of one flow replaced. -/
def setFlow {α : Type} (v : Vector α 256) (f : Byte) (a : α) : Vector α 256 :=
  v.set f.toNat a f.isLt

/-! ### The cells' memory (R20) -/

/-- The byte at an address; an address with no entry reads as `Config.blankByte`. -/
def readByte (m : Memory) (a : Nat) : Byte :=
  match m with
  | [] => Config.blankByte
  | c :: rest => if c.1 = a then c.2 else readByte rest a

/-- A memory with the byte at one address replaced, in the canonical form. -/
def writeByte (m : Memory) (a : Nat) (b : Byte) : Memory :=
  match m with
  | [] => if b = Config.blankByte then [] else [(a, b)]
  | c :: rest =>
    if a < c.1 then (if b = Config.blankByte then c :: rest else (a, b) :: c :: rest)
    else if a = c.1 then (if b = Config.blankByte then rest else (a, b) :: rest)
    else c :: writeByte rest a b

/-- The canonical form: addresses strictly rising and no entry equal to `Config.blankByte`. -/
def memoryWf (m : Memory) : Bool :=
  decide (m.Pairwise (fun x y => x.1 < y.1)) && m.all (fun c => c.2 != Config.blankByte)

/-- The address of frame byte `k` in a frame's cells: entry ⌊k/64⌋, offset k modulo 64 (R20). -/
def frameAddress (cells : List CellId) (k : Nat) : Option Nat :=
  (cells[k / Config.cellBytes]?).map fun c => c.val * Config.cellBytes + k % Config.cellBytes

/-- Frame byte `k` as the cells hold it. -/
def readFrameByte (m : Memory) (cells : List CellId) (k : Nat) : Byte :=
  match frameAddress cells k with
  | some a => readByte m a
  | none => Config.blankByte

/-- A memory with frame byte `k` replaced. -/
def writeFrameByte (m : Memory) (cells : List CellId) (k : Nat) (b : Byte) : Memory :=
  match frameAddress cells k with
  | some a => writeByte m a b
  | none => m

/-- A memory with the frame bytes from `k` on replaced. -/
def writeFrameBytes (m : Memory) (cells : List CellId) (k : Nat) (bytes : List Byte) : Memory :=
  match bytes with
  | [] => m
  | b :: rest => writeFrameBytes (writeFrameByte m cells k b) cells (k + 1) rest

/-- The first `n` payload bytes of a frame as its cells hold them (R20). -/
def readPayload (m : Memory) (cells : List CellId) (n : Nat) : List Byte :=
  (List.range n).map fun p => readFrameByte m cells (Config.headerBytes + p)

/-! ### Descriptors -/

/-- The descriptor of a number, unless it is FREE. -/
def State.desc? (s : State) (d : DescId) : Option Descriptor := s.store.descs[d]

/-- The part with one descriptor replaced. -/
def State.putDesc (s : State) (d : DescId) (fr : Option Descriptor) : State :=
  { s with store := { s.store with descs := s.store.descs.set d.val fr d.isLt } }

/-- The part with one descriptor changed, if it is not FREE. -/
def State.modDesc (s : State) (d : DescId) (f : Descriptor → Descriptor) : State :=
  s.putDesc d ((s.desc? d).map f)

/-- The part with the cells' memory replaced. -/
def State.putMemory (s : State) (m : Memory) : State := { s with store := { s.store with memory := m } }

/-- The flow field of a frame's header. -/
def Descriptor.flow (fr : Descriptor) : Byte := fr.header.flow

/-- The frame is a DATA frame. -/
def Descriptor.isData (fr : Descriptor) : Bool :=
  match fr.role with
  | .data _ => true
  | .forwardedOther => false
  | .request => false
  | .enumeration => false

/-- The entry a DATA frame was classified under. A frame of another role has no snapshot and reaches
neither the code nor the order unit (R86); it reads here as the default entry. -/
def Descriptor.entry (fr : Descriptor) : FlowEntry :=
  match fr.role with
  | .data snap => snap.entry
  | .forwardedOther => FlowEntry.default
  | .request => FlowEntry.default
  | .enumeration => FlowEntry.default

/-- The part with a descriptor's place changed (R25). -/
def State.setPlace (s : State) (d : DescId) (p : Place) : State :=
  s.modDesc d fun fr => { fr with place := p }

/-- The part with a descriptor's DAMAGED flag set (R67). -/
def State.setDamaged (s : State) (d : DescId) : State :=
  s.modDesc d fun fr => { fr with header := withDamaged fr.header }

/-- The part with a descriptor's deadline set: now plus the snapshot hold limit (R92). -/
def State.startDeadline (s : State) (d : DescId) : State :=
  s.modDesc d fun fr => { fr with deadline := some (s.now + Config.usec fr.entry.holdLimit) }

/-! ### Counters (R168 to R170) -/

/-- The counters of a flow, by name. -/
inductive FlowCounter where
  | arrived
  | clean
  | corrected
  | symbolsFixed
  | codeFailed
  | expired
  | dropped
  | sent
  deriving DecidableEq, Repr

/-- The global counters, by name. -/
inductive GlobalCounter where
  | headerFaults
  | loopStripped
  | poolShort
  | mgmtCheckFaults
  | requestsShed
  | tokensSent
  | tokensReceived
  | cadenceSlips
  | holdForced
  | upstreamAborts
  deriving DecidableEq, Repr

/-- A counter after a count by `n`: it stops at its limit (R168). -/
def counted (value n : Nat) : Nat := min Config.counterLimit (value + n)

/-- A flow's counters after a count by `n`. -/
def FlowCounters.count (k : FlowCounters) (c : FlowCounter) (n : Nat) : FlowCounters :=
  match c with
  | .arrived => { k with arrived := counted k.arrived n }
  | .clean => { k with clean := counted k.clean n }
  | .corrected => { k with corrected := counted k.corrected n }
  | .symbolsFixed => { k with symbolsFixed := counted k.symbolsFixed n }
  | .codeFailed => { k with codeFailed := counted k.codeFailed n }
  | .expired => { k with expired := counted k.expired n }
  | .dropped => { k with dropped := counted k.dropped n }
  | .sent => { k with sent := counted k.sent n }

/-- The global counters after a count by 1. -/
def GlobalCounters.count (k : GlobalCounters) (c : GlobalCounter) : GlobalCounters :=
  match c with
  | .headerFaults => { k with headerFaults := counted k.headerFaults 1 }
  | .loopStripped => { k with loopStripped := counted k.loopStripped 1 }
  | .poolShort => { k with poolShort := counted k.poolShort 1 }
  | .mgmtCheckFaults => { k with mgmtCheckFaults := counted k.mgmtCheckFaults 1 }
  | .requestsShed => { k with requestsShed := counted k.requestsShed 1 }
  | .tokensSent => { k with tokensSent := counted k.tokensSent 1 }
  | .tokensReceived => { k with tokensReceived := counted k.tokensReceived 1 }
  | .cadenceSlips => { k with cadenceSlips := counted k.cadenceSlips 1 }
  | .holdForced => { k with holdForced := counted k.holdForced 1 }
  | .upstreamAborts => { k with upstreamAborts := counted k.upstreamAborts 1 }

/-- The eight counters of a flow. -/
def State.flowCounters (s : State) (f : Byte) : FlowCounters := atFlow s.counters.flows f

/-- The part with one count by `n` against a flow. -/
def State.countFlow (s : State) (f : Byte) (c : FlowCounter) (n : Nat) : State :=
  { s with counters := { s.counters with
      flows := setFlow s.counters.flows f ((s.flowCounters f).count c n) } }

/-- The part with one global count. -/
def State.countGlobal (s : State) (c : GlobalCounter) : State :=
  { s with counters := { s.counters with globals := s.counters.globals.count c } }

/-! ### Raises and notices (R154, R157, R158) -/

/-- The part with the state of one class replaced. -/
def State.putClass (s : State) (c : EventClass) (k : ClassState) : State :=
  { s with events := { s.events with
      classes := s.events.classes.set (classNumber c).val k (classNumber c).isLt } }

/-- The part with the entry of one class replaced. -/
def State.putEntry (s : State) (c : EventClass) (e : NoticeEntry) : State :=
  s.putClass c { s.classState c with entry := e }

/-- A notice is issued: the entry becomes PENDING_SEND with the next notice sequence, no sent count and
no resends used (R157, R158), and it is the youngest of the entries that wait (R108). -/
def State.issueNotice (s : State) (c : EventClass) : State :=
  let t := s.putEntry c (.pendingSend s.events.noticeSequence none 0 s.events.nextAge)
  { t with events := { t.events with
      noticeSequence := t.events.noticeSequence + 1, nextAge := t.events.nextAge + 1 } }

/-- The entry takes a notice at a raise: it is IDLE or EXHAUSTED (R157). -/
def NoticeEntry.takesNotice : NoticeEntry → Bool
  | .idle => true
  | .exhausted _ _ => true
  | .pendingSend _ _ _ _ => false
  | .awaitingAck _ _ _ _ => false

/-- A class is raised once (R154, R157). Every event that raises two classes raises them in ascending
class number, which is the order R158 gives their sequences in. -/
def State.raise (s : State) (c : EventClass) : State :=
  let k := s.classState c
  let t := s.putClass c { k with raw := min Config.rawLimit (k.raw + 1) }
  if k.enabled && k.entry.takesNotice then t.issueNotice c else t

/-! ### Allocation and release (R28, R31) -/

/-- A descriptor as an allocation fills it in (R23). -/
def freshDescriptor (role : Role) (h : HeaderBytes) (cells : List CellId) : Descriptor where
  role := role
  header := h
  storedLength := storedLengthOf role h
  cells := cells
  place := .receiving
  stamp := none
  syndromes := none
  correction := none
  deadline := none

/-- The store grants a descriptor and `n` cells (R28). -/
def FrameStore.grants (st : FrameStore) (n : Nat) : Bool :=
  !st.freeDescs.isEmpty && decide (n ≤ st.freeCells.length)

/-- The frame store after the grant of descriptor `d`, the head of the free descriptor list (R28); the
header is written to the first eight bytes of the cells (R20). -/
def FrameStore.granted (st : FrameStore) (d : DescId) (role : Role) (h : HeaderBytes) : FrameStore :=
  let n := cellsNeeded (storedLengthOf role h)
  let cells := st.freeCells.take n
  FrameStore.evaluated
    { memory := writeFrameBytes st.memory cells 0 (headerList h)
      freeCells := st.freeCells.drop n
      freeDescs := st.freeDescs.tail
      descs := st.descs.set d.val (some (freshDescriptor role h cells)) d.isLt
      holdOut := st.holdOut }

/-- The frame store after the release of descriptor `d`, without the count (R31). -/
def FrameStore.released (st : FrameStore) (d : DescId) (fr : Descriptor) : FrameStore :=
  FrameStore.evaluated
    { st with
      freeCells := st.freeCells ++ fr.cells
      descs := st.descs.set d.val none d.isLt
      freeDescs := st.freeDescs ++ [d] }

/-- The release of a descriptor (R31): DROPPED is counted for a DATA frame, and the descriptor and its
cells go to the tails of the free lists. A descriptor that is FREE is left as it is (R30). -/
def State.releaseDropped (s : State) (d : DescId) : State :=
  match s.desc? d with
  | none => s
  | some fr =>
    let t := if fr.isData then s.countFlow fr.flow .dropped 1 else s
    { t with store := t.store.released d fr }

/-- The release of a descriptor at its transmission completion, which counts SENT for a DATA frame and
not DROPPED (R31, R106). -/
def State.releaseSent (s : State) (d : DescId) : State :=
  match s.desc? d with
  | none => s
  | some fr =>
    let t := if fr.isData then s.countFlow fr.flow .sent 1 else s
    { t with store := t.store.released d fr }

/-! ### The forward queue (R107) -/

/-- A frame goes to the forward queue: it is appended at the tail, its place becomes FORWARD and its
deadline, if it has one, is stopped and removed (R92, R107). -/
def State.toForward (s : State) (d : DescId) : State :=
  let t := s.modDesc d fun fr => { fr with place := .forward, deadline := none }
  { t with egress := { t.egress with forwardQueue := t.egress.forwardQueue ++ [d] } }

end Sys2Proof.Machine
end

