-- ==== Sys2Proof/Machine/Order.lean ====
section
/-! DEFINITION. The order unit of chapter 06: the chains, the routing of frames at frame-end and after a
locator run, release from the head, and the expiry of a deadline. -/

namespace Sys2Proof.Machine

/-! ### Chains (R85) -/

/-- The order chain of a flow. -/
def State.chain (s : State) (f : Byte) : List DescId := atFlow s.order.chains f

/-- The part with the chain of a flow replaced. -/
def State.setChain (s : State) (f : Byte) (l : List DescId) : State :=
  { s with order := { s.order with chains := setFlow s.order.chains f l } }

/-- The part with the next arrival stamp given to a descriptor (R15, R24). -/
def State.giveStamp (s : State) (d : DescId) : State :=
  let t := s.modDesc d fun fr => { fr with stamp := some s.order.nextStamp }
  { t with order := { t.order with nextStamp := t.order.nextStamp + 1 } }

/-! ### The correction path (R69, R78, R79) -/

/-- The part with a descriptor appended to the correction queue (R69). -/
def State.joinCorrectionQueue (s : State) (d : DescId) : State :=
  { s with locator := { s.locator with queue := s.locator.queue ++ [d] } }

/-- The run of an engine, unless the run is on this descriptor. -/
def runUnless (r : Option Run) (d : DescId) : Option Run :=
  match r with
  | none => none
  | some run => if run.desc = d then none else some run

/-- The part with a descriptor taken back from the correction queue or from the engine that holds it,
whose run is cancelled (R78, R79). -/
def State.withdrawFromLocator (s : State) (d : DescId) : State :=
  { s with locator := { s.locator with
      queue := s.locator.queue.filter (· ≠ d)
      engine0 := runUnless s.locator.engine0 d
      engine1 := runUnless s.locator.engine1 d } }

/-- The engines whose runs are on a descriptor; a LOCATING descriptor is held by exactly one (R71). -/
def Locator.enginesOn (l : Locator) (d : DescId) : List EngineId :=
  (if l.engine0.map Run.desc = some d then [.engine0] else []) ++
    (if l.engine1.map Run.desc = some d then [.engine1] else [])

/-- The engine freed first when the members given are abandoned in order, if both engines are freed by
them (R79). -/
def Locator.freedFirstBy (l : Locator) (members : List DescId) : Option EngineId :=
  match members.flatMap l.enginesOn with
  | e :: _ :: _ => some e
  | [_] => none
  | [] => none

/-- The part after an expiry that has freed both engines, the one given first: while frames are queued,
the head goes to that engine (R79). With an empty queue either engine may take the next frame (R73). -/
def State.giveHeadTo (s : State) (first : Option EngineId) : State :=
  { s with locator := { s.locator with
      firstFreed := if s.locator.queue.isEmpty then none else first.or s.locator.firstFreed } }

/-! ### Routing at frame-end (R86 to R92) -/

/-- A frame that would join its chain overflows (R90). -/
def State.overflows (s : State) (fr : Descriptor) : Bool :=
  decide (fr.entry.holdDepth < (s.chain fr.flow).length + 1)

/-- The frame that overflows is freed and CHAIN_OVERFLOW is raised (R90). -/
def State.dropOverflow (s : State) (d : DescId) : State := (s.releaseDropped d).raise .chainOverflow

/-- The frame joins the tail of its flow's chain (R86). -/
def State.joinChain (s : State) (d : DescId) (fr : Descriptor) : State :=
  s.setChain fr.flow (s.chain fr.flow ++ [d])

/-- A frame that needs no more of the code goes to the forward queue, or waits HELD behind the members
of its chain (R87, R89, R91). -/
def State.routeReady (s : State) (d : DescId) (fr : Descriptor) : State :=
  match fr.entry.order with
  | .free => s.toForward d
  | .ordered =>
    if (s.chain fr.flow).isEmpty then s.toForward d
    else if s.overflows fr then s.dropOverflow d
    else ((s.setPlace d .held).startDeadline d).joinChain d fr

/-- A frame to locate enters the correction queue with its syndromes, and its chain if its flow is
ORDERED (R88, R91). -/
def State.routeLocate (s : State) (d : DescId) (fr : Descriptor) (syndromes : List Byte) : State :=
  let enter (t : State) : State :=
    (((t.modDesc d fun x => { x with syndromes := some syndromes }).setPlace d .queued).startDeadline
      d).joinCorrectionQueue d
  match fr.entry.order with
  | .free => enter s
  | .ordered => if s.overflows fr then s.dropOverflow d else (enter s).joinChain d fr

/-- A frame failed at frame-end: freed under DROP, sent on as DAMAGED under MARK (R89, R91, R99). -/
def State.routeFailed (s : State) (d : DescId) (fr : Descriptor) : State :=
  match fr.entry.policy with
  | .drop => s.releaseDropped d
  | .mark => (s.setDamaged d).routeReady d fr

/-! ### After a locator run (R91, R93, R94) -/

/-- The descriptor is in place HELD. -/
def State.isHeld (s : State) (d : DescId) : Bool :=
  match s.desc? d with
  | none => false
  | some fr => decide (fr.place = .held)

/-- Several frames go to the forward queue, in order. -/
def State.allToForward (s : State) (l : List DescId) : State := l.foldl State.toForward s

/-- Release goes on through a chain: its leading HELD members go to the forward queue, and the first
member that is QUEUED or LOCATING becomes the head (R93). -/
def State.releaseOnward (s : State) (f : Byte) : State :=
  let ch := s.chain f
  (s.allToForward (ch.takeWhile s.isHeld)).setChain f (ch.dropWhile s.isHeld)

/-- The failure policy of a frame that has failed: freed under DROP; under MARK its DAMAGED flag is set
and it goes on as `goOn` says (R99). -/
def State.failedOr (s : State) (d : DescId) (fr : Descriptor) (failed : Bool) (goOn : State → State) :
    State :=
  if failed then
    match fr.entry.policy with
    | .drop => s.releaseDropped d
    | .mark => goOn (s.setDamaged d)
  else goOn s

/-- A frame handed back by the locator as corrected or failed: the head of its chain is resolved and
release goes on (R93); a member behind the head becomes HELD or is removed (R94); a frame with no chain
goes on alone (R91). -/
def State.handBack (s : State) (d : DescId) (fr : Descriptor) (failed : Bool) : State :=
  let ch := s.chain fr.flow
  if d ∈ ch then
    if ch.head? = some d then
      ((s.setChain fr.flow ch.tail).failedOr d fr failed (State.toForward · d)).releaseOnward fr.flow
    else if failed && decide (fr.entry.policy = .drop) then
      (s.setChain fr.flow (ch.filter (· ≠ d))).releaseDropped d
    else s.failedOr d fr failed (State.setPlace · d .held)
  else s.failedOr d fr failed (State.toForward · d)

/-! ### Expiry (R96 to R98) -/

/-- A frame handed back as abandoned: EXPIRED and CODE_FAILED are counted, CODE_FAILURE is raised and the
failure policy is applied (R97). -/
def State.abandon (s : State) (d : DescId) (fr : Descriptor) : State :=
  let t := (((s.withdrawFromLocator d).countFlow fr.flow .expired 1).countFlow fr.flow .codeFailed
    1).raise .codeFailure
  t.failedOr d fr true (State.toForward · d)

/-- A member is resolved at an expiry by its place: QUEUED and LOCATING members are abandoned, HELD
members go to the forward queue (R96). -/
def State.resolveMember (s : State) (d : DescId) : State :=
  match s.desc? d with
  | none => s
  | some fr =>
    match fr.place with
    | .queued => s.abandon d fr
    | .locating => s.abandon d fr
    | .held => s.toForward d
    | .receiving => s
    | .forward => s
    | .sending => s

/-- The members of a chain up to a descriptor and with it. -/
def upTo (l : List DescId) (d : DescId) : List DescId := l.takeWhile (· ≠ d) ++ [d]

/-- The members of a chain behind a descriptor. -/
def behind (l : List DescId) (d : DescId) : List DescId := (l.dropWhile (· ≠ d)).tail

/-- The expiry of a frame's deadline: the frame and every member ahead of it are resolved in chain
order, release goes on past it, and DEADLINE_EXPIRED is raised once (R96); a frame with no chain is
abandoned alone (R98). -/
def State.expireFrame (s : State) (d : DescId) (fr : Descriptor) : State :=
  let ch := s.chain fr.flow
  if d ∈ ch then
    let members := upTo ch d
    let resolved := members.foldl State.resolveMember (s.setChain fr.flow (behind ch d))
    let ranked := resolved.giveHeadTo (s.locator.freedFirstBy members)
    (ranked.releaseOnward fr.flow).raise .deadlineExpired
  else ((s.resolveMember d).giveHeadTo none).raise .deadlineExpired

/-- DEADLINE_EXPIRY (R96, R98). The clock is brought to the deadline. A descriptor with no running
deadline timer has no expiry, and nothing changes (R92). -/
def execDeadlineExpiry (d : DescId) (s : State) : Host.Outcome State Fault Refusal :=
  match s.desc? d with
  | none => .next s
  | some fr =>
    match fr.deadline with
    | none => .next s
    | some due => ((s.advanceTo due).expireFrame d fr).done

end Sys2Proof.Machine
end

