-- ==== Sys2Proof/Machine/Locator.lean ====
section
/-! DEFINITION. The locator engines of chapter 05: pickup and the two completions of a run. -/

namespace Sys2Proof.Machine

/-- The run an engine holds; none while it is IDLE (R71). -/
def State.engineRun (s : State) (e : EngineId) : Option Run :=
  match e with
  | .engine0 => s.locator.engine0
  | .engine1 => s.locator.engine1

/-- The part with the run of an engine replaced. -/
def State.setEngine (s : State) (e : EngineId) (r : Option Run) : State :=
  match e with
  | .engine0 => { s with locator := { s.locator with engine0 := r } }
  | .engine1 => { s with locator := { s.locator with engine1 := r } }

/-- The run started on a frame at its pickup (R72). -/
def startRun (d : DescId) (fr : Descriptor) (now : Nat) : Run where
  desc := d
  syndromes := fr.syndromes.getD []
  strength := fr.entry.strength
  length := headerLength fr.header
  startedAt := now

/-- The other engine. -/
def otherEngine : EngineId → EngineId
  | .engine0 => .engine1
  | .engine1 => .engine0

/-- PICKUP (R73): an IDLE engine takes the head of the correction queue, which becomes LOCATING, and its
run starts. A RUNNING engine takes nothing, and an empty queue leaves the engine IDLE (R80). After an
expiry that freed both engines the head goes to the one freed first, and the other takes nothing before it
(R79). -/
def execPickup (e : EngineId) (s : State) : Host.Outcome State Fault Refusal :=
  match s.engineRun e with
  | some _ => .next s
  | none =>
    match s.locator.queue with
    | [] => .next s
    | d :: rest =>
      if s.locator.firstFreed = some (otherEngine e) then .next s
      else
        match s.desc? d with
        | none => .fault .descriptorMissing
        | some fr =>
          let t := { s with locator := { s.locator with queue := rest, firstFreed := none } }
          ((t.setPlace d .locating).setEngine e (some (startRun d fr s.now))).done

/-- The result of a run (R62, R72). -/
def Run.result (r : Run) : Option (List ErrorEntry) := locate r.syndromes r.strength.t r.length

/-- The least time in which a run of strength t ends in a list: t µs (R72). -/
def Run.listTime (r : Run) : Nat := r.startedAt + Config.usec r.strength.t

/-- The time in which a run of strength t ends FAILED: 3t µs (R72). -/
def Run.failedTime (r : Run) : Nat := r.startedAt + Config.usec (3 * r.strength.t)

/-- The memory with an error list added to a frame's payload bytes (R75). -/
def applyList (m : Memory) (cells : List CellId) (entries : List ErrorEntry) : Memory :=
  match entries with
  | [] => m
  | e :: rest =>
    let k := Config.headerBytes + e.position
    applyList (writeFrameByte m cells k (readFrameByte m cells k ^^^ e.value)) cells rest

/-- The completion of a run with an error list, steps 1 to 5 of R75. -/
def State.completeWithList (s : State) (e : EngineId) (d : DescId) (fr : Descriptor)
    (entries : List ErrorEntry) : State :=
  let recorded := s.modDesc d fun x => { x with correction := some entries }
  let applied := recorded.putMemory (applyList recorded.store.memory fr.cells entries)
  let counts := (applied.countFlow fr.flow .corrected 1).countFlow fr.flow .symbolsFixed entries.length
  (counts.setEngine e none).handBack d fr false

/-- LOCATOR_COMPLETION_LIST (R75): the run's result, which the frame's syndromes decide (R62), is an error
list, and it is applied, counted and handed on. An IDLE engine has no run to complete (R71), and a run
whose result is FAILED has no completion with a list; nothing changes then. -/
def execLocatorCompletionList (e : EngineId) (s : State) : Host.Outcome State Fault Refusal :=
  match s.engineRun e with
  | none => .next s
  | some r =>
    match s.desc? r.desc with
    | none => .fault .descriptorMissing
    | some fr =>
      match r.result with
      | none => .next s
      | some entries => ((s.advanceTo r.listTime).completeWithList e r.desc fr entries).done

/-- LOCATOR_COMPLETION_FAILED (R76): CODE_FAILED is counted, CODE_FAILURE is raised and the frame is handed
on under its failure policy. An IDLE engine has no run to complete, and a run whose result is an error
list does not end FAILED; nothing changes then. -/
def execLocatorCompletionFailed (e : EngineId) (s : State) : Host.Outcome State Fault Refusal :=
  match s.engineRun e with
  | none => .next s
  | some r =>
    match s.desc? r.desc with
    | none => .fault .descriptorMissing
    | some fr =>
      match r.result with
      | some _ => .next s
      | none =>
        let t := (s.advanceTo r.failedTime).countFlow fr.flow .codeFailed 1
        (((t.raise .codeFailure).setEngine e none).handBack r.desc fr true).done

end Sys2Proof.Machine
end

