-- ==== Sys2Proof/Machine/Events.lean ====
section
/-! DEFINITION. The event unit of chapter 09: what a transmission does to a notice's entry, retries,
acknowledgement and the change of the enables. -/

namespace Sys2Proof.Machine

/-- The age of an entry that waits in PENDING_SEND (R108). -/
def NoticeEntry.waitingAge : NoticeEntry → Option Nat
  | .pendingSend _ _ _ a => some a
  | .idle => none
  | .awaitingAck _ _ _ _ => none
  | .exhausted _ _ => none

/-- The notice sequence an entry holds (R156). -/
def NoticeEntry.sequence? : NoticeEntry → Option Byte
  | .idle => none
  | .pendingSend q _ _ _ => some q
  | .awaitingAck q _ _ _ => some q
  | .exhausted q _ => some q

/-- The sent count an entry holds, 0 while none has been taken (R163). -/
def NoticeEntry.sentOrZero : NoticeEntry → Nat
  | .idle => 0
  | .pendingSend _ n _ _ => n.getD 0
  | .awaitingAck _ n _ _ => n
  | .exhausted _ n => n

/-- The older of two waiting classes; the first where neither or only the first waits. -/
def olderClass (s : State) (best : Option EventClass) (c : EventClass) : Option EventClass :=
  match (s.classState c).entry.waitingAge with
  | none => best
  | some a =>
    match best with
    | none => some c
    | some b =>
      match (s.classState b).entry.waitingAge with
      | none => some c
      | some ab => if a < ab then some c else some b

/-- The notice candidate of an IDLE transmitter: the entry that entered PENDING_SEND longest ago (R108). -/
def State.noticeCandidate (s : State) : Option EventClass := allClasses.foldl (olderClass s) none

/-- An entry at its notice's transmission start: the sent count is taken at the first start and kept at
a resend (R159). -/
def NoticeEntry.started (e : NoticeEntry) (raw : Nat) : NoticeEntry :=
  match e with
  | .pendingSend q n r a => .pendingSend q (some (n.getD raw)) r a
  | .idle => .idle
  | .awaitingAck q n r due => .awaitingAck q n r due
  | .exhausted q n => .exhausted q n

/-- An entry at the transmission completion of the notice with sequence `q`: PENDING_SEND with that
sequence becomes AWAITING_ACK, and any other entry stays as it stands (R160). -/
def NoticeEntry.completed (e : NoticeEntry) (q : Byte) (retryDue : Nat) : NoticeEntry :=
  match e with
  | .pendingSend q' n r a => if q' = q then .awaitingAck q' (n.getD 0) r retryDue else .pendingSend q' n r a
  | .idle => .idle
  | .awaitingAck q' n r due => .awaitingAck q' n r due
  | .exhausted q' n => .exhausted q' n

/-- RETRY_TIMER_EXPIRY (R161): the AWAITING_ACK entry goes back to PENDING_SEND with the same sequence and
sent count, or becomes EXHAUSTED with three resends used. The clock is brought to the timer's time. An
entry in another state has no running timer, and nothing changes. -/
def execRetryTimerExpiry (c : EventClass) (s : State) : Host.Outcome State Fault Refusal :=
  match (s.classState c).entry with
  | .awaitingAck q n r due =>
    let t := s.advanceTo due
    if r < Config.maxResends then
      let u := t.putEntry c (.pendingSend q (some n) (r + 1) t.events.nextAge)
      { u with events := { u.events with nextAge := u.events.nextAge + 1 } }.done
    else (t.putEntry c (.exhausted q n)).done
  | .idle => .next s
  | .pendingSend _ _ _ _ => .next s
  | .exhausted _ _ => .next s

/-- The part after a matching acknowledgement of a class, with the raw count remaining (R163). -/
def State.acknowledge (s : State) (c : EventClass) : State × Nat :=
  let k := s.classState c
  let left := k.raw - k.entry.sentOrZero
  let t := s.putClass c { k with raw := left, entry := .idle }
  (if left = 0 then t else t.issueNotice c, left)

/-- One class at a SET EVENTS: a class newly disabled has its entry withdrawn, and a class newly enabled
with a raw count above 0 has a notice issued (R165). -/
def State.setEnable (s : State) (c : EventClass) (enable : Bool) : State :=
  let k := s.classState c
  if k.enabled = enable then s
  else if enable then
    let t := s.putClass c { k with enabled := true }
    if 0 < k.raw then t.issueNotice c else t
  else s.putClass c { k with enabled := false, entry := .idle }

/-- All twelve enables replaced, in ascending class number (R165); bit n of the set is class n. -/
def State.setEnables (s : State) (set : Half) : State :=
  allClasses.foldl (fun t c => t.setEnable c (set.getLsbD (classNumber c).val)) s

/-- The enable set in force, bit n for class n (R144). -/
def State.enableSet (s : State) : Nat :=
  allClasses.foldl (fun n c => if (s.classState c).enabled then n + 2 ^ (classNumber c).val else n) 0

end Sys2Proof.Machine
end

