-- ==== Sys2Proof/Machine/Table.lean ====
section
/-! DEFINITION. The flow table of chapter 03: the banks and their roles, classification, the swap, the
copy and the older-frames count. -/

namespace Sys2Proof.Machine

/-- The entries of a bank. -/
def FlowTable.bank (t : FlowTable) (b : BankId) : Vector FlowEntry 256 :=
  match b with
  | .bankA => t.bankA
  | .bankB => t.bankB

/-- The other bank. -/
def BankId.other : BankId → BankId
  | .bankA => .bankB
  | .bankB => .bankA

/-- The bank that holds the staged entries (R40). -/
def FlowTable.staged (t : FlowTable) : BankId := t.active.other

/-- The table with the entries of a bank replaced. -/
def FlowTable.putBank (t : FlowTable) (b : BankId) (v : Vector FlowEntry 256) : FlowTable :=
  match b with
  | .bankA => { t with bankA := v }
  | .bankB => { t with bankB := v }

/-- The entry of a flow in the active bank (R42). -/
def FlowTable.activeEntry (t : FlowTable) (f : Byte) : FlowEntry := atFlow (t.bank t.active) f

/-- The entry of a flow in the staged bank (R47). -/
def FlowTable.stagedEntry (t : FlowTable) (f : Byte) : FlowEntry := atFlow (t.bank t.staged) f

/-- The table with the entry of a flow in the staged bank replaced (R46). -/
def FlowTable.writeStaged (t : FlowTable) (f : Byte) (e : FlowEntry) : FlowTable :=
  t.putBank t.staged (setFlow (t.bank t.staged) f e)

/-- The table after the swap of a COMMIT, with the copy begun (R48). -/
def FlowTable.swapped (t : FlowTable) : FlowTable :=
  { t with active := t.active.other, generation := t.generation + 1, copyInFlight := true }

/-- The table after the completion of the copy: the staged bank equals the active bank (R49). Until then
the model leaves in the staged bank what the swap retired (log entry 6). -/
def FlowTable.copied (t : FlowTable) : FlowTable :=
  { t.putBank t.staged (t.bank t.active) with copyInFlight := false }

/-- The snapshot of a flow as classification takes it (R42). -/
def State.snapshotOf (s : State) (f : Byte) : Snapshot := ⟨s.table.activeEntry f, s.table.generation⟩

/-- A descriptor is a DATA frame of the flow, classified under another generation than the current
(R47). -/
def Descriptor.olderThan (fr : Descriptor) (f : Byte) (generation : Half) : Bool :=
  match fr.role with
  | .data snap => decide (fr.flow = f ∧ snap.generation ≠ generation)
  | .forwardedOther => false
  | .request => false
  | .enumeration => false

/-- The descriptors that are not FREE, in ascending order of their numbers. -/
def State.liveDescs (s : State) : List (Nat × Descriptor) :=
  s.store.descs.toList.zipIdx.filterMap fun p => p.1.map fun fr => (p.2, fr)

/-- The older-frames count of a flow (R47). -/
def State.olderFrames (s : State) (f : Byte) : Nat :=
  (s.liveDescs.filter fun p => p.2.olderThan f s.table.generation).length

/-- COPY_COMPLETION (R49): the staged bank equals the active bank and the copy is no longer in flight. With
no copy in flight there is no completion (R50), and nothing changes. -/
def execCopyCompletion (s : State) : Host.Outcome State Fault Refusal :=
  if s.table.copyInFlight then { s with table := s.table.copied }.done else .next s

end Sys2Proof.Machine
end

