-- ==== Sys2Proof/Machine/Management.lean ====
section
/-! DEFINITION. The management unit of chapter 08: acceptance, the replay slot, the claim check and the
handling of a taken request; and the expiry of the lease. -/

namespace Sys2Proof.Machine

/-- What a request's frame says of its sender: the requester's address, the descriptor of the frame,
and whether it was taken as a broadcast (R125, R146). -/
structure Requester where
  address : Byte
  desc : DescId
  broadcast : Bool
  deriving DecidableEq, Repr

/-- What the execution of a request answers (R127). The reset mark is set by RESET PART alone (R128). -/
structure Answer where
  status : Status
  results : List Byte
  resetMark : Bool
  deriving DecidableEq, Repr

/-- An answer without results. -/
def Answer.bare (st : Status) : Answer := ⟨st, [], false⟩

/-- An answer with results. -/
def Answer.with (st : Status) (results : List Byte) : Answer := ⟨st, results, false⟩

/-- Which requests the claim check lets through (R135). -/
inductive ClaimNeed where
  /-- CLAIM, RELEASE and the reading kinds pass whatever the claim. -/
  | notNeeded
  /-- The changing kinds need the claim. -/
  | needed
  /-- ACK NOTICE needs the claim while there is a holder. -/
  | whileClaimed
  deriving DecidableEq, Repr

/-- How a request kind is executed: the number of its argument bytes, the claim it needs, and its
execution by the owning block (R134, R140). -/
structure Handler where
  argCount : Nat
  need : ClaimNeed
  run : Requester → List Byte → State → State × Answer

/-- The HELD answer: the holder and the lease remaining (R127). -/
def heldAnswer (c : Claim) (now : Nat) : Answer :=
  Answer.with .held [c.holder, byteOf (c.remaining now)]

/-- The claim check: the refusal, if there is one (R135). A SET TIMING or SET EVENTS refused HELD carries the
holder and the lease remaining, as R127, R135 and R180 give every HELD, although R144 says that it carries
no results (DESIGN CHOICE, log entry 22). -/
def claimRefusal (need : ClaimNeed) (requester : Byte) (s : State) : Option Answer :=
  match need with
  | .notNeeded => none
  | .needed =>
    match s.management.claim with
    | none => some (Answer.bare .unclaimed)
    | some c => if c.holder = requester then none else some (heldAnswer c s.now)
  | .whileClaimed =>
    match s.management.claim with
    | none => none
    | some c => if c.holder = requester then none else some (heldAnswer c s.now)

/-- The execution of a taken request: kind, argument count, claim, then the owning block (R134). -/
def State.execute (s : State) (rq : Requester) (h : Option Handler) (args : List Byte) : State × Answer :=
  match h with
  | none => (s, Answer.bare .unknown)
  | some h =>
    if args.length = h.argCount then
      match claimRefusal h.need rq.address s with
      | some a => (s, a)
      | none => h.run rq args s
    else (s, Answer.bare .badArg)

/-- The part with an entry appended to the response queue (R128). -/
def State.queueResponse (s : State) (q : QueuedResponse) : State :=
  { s with management := { s.management with responses := s.management.responses ++ [q] } }

/-- The distance of R132: the stored sequence minus the request's, modulo 256. -/
def sequenceDistance (stored requested : Byte) : Nat := (stored - requested).toNat

/-- The courses of an acceptance (R126). -/
inductive Course where
  | shed
  | replayed (stored : Response)
  | stale
  | refusedForReset
  | taken
  deriving DecidableEq, Repr

/-- The course of a request: the first test of R126 that holds. -/
def State.course (s : State) (address sequence : Byte) : Course :=
  if Config.responseSlots ≤ s.management.responses.length then .shed
  else
    let onward : Course := if s.management.pendingReset.isSome then .refusedForReset else .taken
    match s.management.replay with
    | none => onward
    | some r =>
      if r.requester = address then
        if r.sequence = sequence then .replayed r.response
        else if sequenceDistance r.sequence sequence ≤ 127 then .stale
        else onward
      else onward

/-- A taken request: it is executed, and its response is stored in the replay slot and queued (R130,
R134). -/
def State.take (s : State) (rq : Requester) (kind sequence : Byte) (h : Option Handler)
    (args : List Byte) : State :=
  let (t, a) := s.execute rq h args
  let r : Response := ⟨kind, sequence, a.status, a.results⟩
  let u := { t with management := { t.management with replay := some ⟨rq.address, sequence, r⟩ } }
  u.queueResponse ⟨rq.address, r, a.resetMark⟩

/-- The acceptance of a request (R126, R129 to R134). -/
def State.accept (s : State) (rq : Requester) (kind sequence : Byte) (h : Option Handler)
    (args : List Byte) : State :=
  match s.course rq.address sequence with
  | .shed => (s.countGlobal .requestsShed).raise .requestShed
  | .replayed stored => s.queueResponse ⟨rq.address, stored, false⟩
  | .stale => s.queueResponse ⟨rq.address, ⟨kind, sequence, .stale, []⟩, false⟩
  | .refusedForReset => s.queueResponse ⟨rq.address, ⟨kind, sequence, .busy, [busyReset]⟩, false⟩
  | .taken => s.take rq kind sequence h args

/-- What the management unit does with a REQUEST payload whose payload check has passed. A payload of
fewer than four bytes is not a request (R125). -/
def State.manage (s : State) (rq : Requester) (h : Option Handler) (payload : List Byte) : State :=
  match payload with
  | kind :: sequence :: rest =>
    if 4 ≤ payload.length then s.accept rq kind sequence h (rest.take (rest.length - 2))
    else s.countGlobal .mgmtCheckFaults
  | _ => s.countGlobal .mgmtCheckFaults

/-- The frame-end of a REQUEST whose payload check has passed: the management unit decides, and then the
frame is freed, or appended to the forward queue if it was a broadcast (R14). -/
def State.endRequest (s : State) (d : DescId) (fr : Descriptor) (h : Option Handler)
    (payload : List Byte) : State :=
  let broadcast := decide (fr.header.destination = Config.broadcast)
  let t := s.manage ⟨fr.header.source, d, broadcast⟩ h payload
  if broadcast then t.toForward d else t.releaseDropped d

/-- The part with the holder none and the lease timer stopped. -/
def State.dropClaim (s : State) : State := { s with management := { s.management with claim := none } }

/-- LEASE_EXPIRY (R139): the holder becomes none and LEASE_ENDED is raised. The clock is brought to the end
of the lease. With no holder the timer is stopped, and nothing changes. -/
def execLeaseExpiry (s : State) : Host.Outcome State Fault Refusal :=
  match s.management.claim with
  | none => .next s
  | some c => (((s.advanceTo c.leaseEnds).dropClaim).raise .leaseEnded).done

end Sys2Proof.Machine
end

