-- ==== Sys2Proof/Machine/Handlers.lean ====
section
/-! DEFINITION. The execution of the fifteen request kinds by the blocks that own them (R140), and the
table that finds a kind's handler. -/

namespace Sys2Proof.Machine

/-- The generation as a number. -/
def State.generationNat (s : State) : Nat := s.table.generation.toNat

/-! ### PROBE, CLAIM, RELEASE -/

/-- PROBE (R141). -/
def runProbe (_ : Requester) (_ : List Byte) (s : State) : State × Answer :=
  (s, Answer.with .ok
    ([Config.vendorCode, Config.partCode, Config.revision, s.nodeAddress] ++ bytes16 s.generationNat))

/-- CLAIM (R137): the requester becomes the holder, or restarts its lease. -/
def runClaim (rq : Requester) (args : List Byte) (s : State) : State × Answer :=
  match args with
  | [lease] =>
    if lease = 0 ∨ isNodeAddress rq.address = false then (s, Answer.bare .badArg)
    else
      let given := { s with management := { s.management with
        claim := some ⟨rq.address, s.now + Config.seconds lease.toNat⟩ } }
      let ok := (given, Answer.with .ok [rq.address, lease])
      match s.management.claim with
      | none => ok
      | some c => if c.holder = rq.address then ok else (s, heldAnswer c s.now)
  | _ => (s, Answer.bare .badArg)

/-- RELEASE (R138). -/
def runRelease (rq : Requester) (_ : List Byte) (s : State) : State × Answer :=
  match s.management.claim with
  | none => (s, Answer.bare .unclaimed)
  | some c =>
    if c.holder = rq.address then (s.dropClaim, Answer.bare .ok) else (s, heldAnswer c s.now)

/-! ### The flow table -/

/-- The results of an OK READ ENTRY: the entry, the generation and the older-frames count (R47). -/
def entryResults (s : State) (f : Byte) (e : FlowEntry) : List Byte :=
  encodeEntry e ++ bytes16 s.generationNat ++ [byteOf (s.olderFrames f)]

/-- READ ENTRY (R47). -/
def runReadEntry (_ : Requester) (args : List Byte) (s : State) : State × Answer :=
  match args with
  | [bank, f] =>
    match bank.toNat with
    | 0 => (s, Answer.with .ok (entryResults s f (s.table.activeEntry f)))
    | 1 =>
      if s.table.copyInFlight then (s, Answer.with .busy [busyCopy])
      else (s, Answer.with .ok (entryResults s f (s.table.stagedEntry f)))
    | _ => (s, Answer.bare .badArg)
  | _ => (s, Answer.bare .badArg)

/-- WRITE ENTRY (R46): the copy in flight refuses it before the entry is checked. -/
def runWriteEntry (_ : Requester) (args : List Byte) (s : State) : State × Answer :=
  match args with
  | f :: entry =>
    if s.table.copyInFlight then (s, Answer.with .busy [busyCopy])
    else
      match decodeEntry entry with
      | none => (s, Answer.bare .badArg)
      | some e =>
        ({ s with table := s.table.writeStaged f e }, Answer.with .ok (f :: bytes16 s.generationNat))
  | [] => (s, Answer.bare .badArg)

/-- COMMIT (R48): the swap, unless the copy is in flight. -/
def runCommit (_ : Requester) (_ : List Byte) (s : State) : State × Answer :=
  if s.table.copyInFlight then (s, Answer.with .busy [busyCopy])
  else
    let t := { s with table := s.table.swapped }
    (t, Answer.with .ok (bytes16 t.generationNat))

/-! ### The listings and the counters -/

/-- The engine number of a descriptor in a READ FRAMES record, FFh when absent (R84). -/
def State.engineByte (s : State) (d : Nat) : Byte :=
  let holds (e : EngineId) : Bool :=
    match s.engineRun e with
    | none => false
    | some r => decide (r.desc.val = d)
  if holds .engine0 then 0 else if holds .engine1 then 1 else 255

/-- A READ FRAMES record (R173). -/
def State.frameRecord (s : State) (d : Nat) (fr : Descriptor) : List Byte :=
  [byteOf d, fr.place.code, if fr.place = .locating then s.engineByte d else 255, fr.flow,
    byteOf fr.storedLength, fr.header.length]

/-- READ FRAMES (R37, R173). -/
def runReadFrames (_ : Requester) (_ : List Byte) (s : State) : State × Answer :=
  let live := s.liveDescs
  (s, Answer.with .ok (byteOf live.length :: live.flatMap fun p => s.frameRecord p.1 p.2))

/-- The eight counters of a flow in the order of R169. -/
def FlowCounters.values (k : FlowCounters) : List Nat :=
  [k.arrived, k.clean, k.corrected, k.symbolsFixed, k.codeFailed, k.expired, k.dropped, k.sent]

/-- The ten global counters in the order of R170. -/
def GlobalCounters.values (k : GlobalCounters) : List Nat :=
  [k.headerFaults, k.loopStripped, k.poolShort, k.mgmtCheckFaults, k.requestsShed, k.tokensSent,
    k.tokensReceived, k.cadenceSlips, k.holdForced, k.upstreamAborts]

/-- READ COUNTERS (R172). -/
def runReadCounters (_ : Requester) (args : List Byte) (s : State) : State × Answer :=
  match args with
  | [f] => (s, Answer.with .ok (f :: (s.flowCounters f).values.flatMap bytes32))
  | _ => (s, Answer.bare .badArg)

/-- READ GLOBALS (R172). -/
def runReadGlobals (_ : Requester) (_ : List Byte) (s : State) : State × Answer :=
  (s, Answer.with .ok (s.counters.globals.values.flatMap bytes32))

/-- CLEAR COUNTERS (R143): one flow's eight counters, or every counter. -/
def runClearCounters (_ : Requester) (args : List Byte) (s : State) : State × Answer :=
  match args with
  | [selector, f] =>
    match selector.toNat with
    | 0 =>
      ({ s with counters := { s.counters with flows := setFlow s.counters.flows f FlowCounters.zero } },
        Answer.with .ok args)
    | 1 => ({ s with counters := CounterStore.reset }, Answer.with .ok args)
    | _ => (s, Answer.bare .badArg)
  | _ => (s, Answer.bare .badArg)

/-! ### The status snapshot (R174) -/

/-- The number of RUNNING engines (R73). -/
def State.enginesBusy (s : State) : Nat := s.locator.engine0.toList.length + s.locator.engine1.toList.length

/-- The code of the upstream link state. -/
def LinkState.code : LinkState → Byte
  | .linkDown => 0
  | .linkUp => 1

/-- The code of a bank. -/
def BankId.code : BankId → Byte
  | .bankA => 0
  | .bankB => 1

/-- The last token record in three bytes. -/
def tokenRecordBytes : Option TokenRecord → List Byte
  | none => [0, 0, 0]
  | some r => [1, r.source, r.sequence]

/-- The claim holder and the lease remaining in two bytes (R142). -/
def claimBytes (c : Option Claim) (now : Nat) : List Byte :=
  match c with
  | none => [0, 0]
  | some c => [c.holder, byteOf (c.remaining now)]

/-- The 46 bytes of the status snapshot (R174, chapter 11.3). -/
def State.statusSnapshot (s : State) : List Byte :=
  [s.nodeAddress, s.receiver.link.code] ++ tokenRecordBytes s.receiver.lastToken
    ++ claimBytes s.management.claim s.now ++ [s.table.active.code] ++ bytes16 s.generationNat
    ++ [flagByte s.table.copyInFlight, byteOf s.store.freeCells.length,
        byteOf s.store.freeDescs.length, flagByte s.store.holdOut, flagByte s.egress.holdIn,
        byteOf s.locator.queue.length, byteOf s.enginesBusy, byteOf s.egress.forwardQueue.length,
        byteOf s.egress.debt, flagByte s.egress.overdue, byteOf s.management.responses.length, 0]
    ++ allClasses.flatMap fun c => bytes16 (s.classState c).raw

/-- READ STATUS (R174). -/
def runReadStatus (_ : Requester) (_ : List Byte) (s : State) : State × Answer :=
  (s, Answer.with .ok s.statusSnapshot)

/-! ### Timing, events, acknowledgement -/

/-- The scheduler after a SET TIMING that passes its check (R121): a P that changes restarts the cadence
timer, and an OT no greater than the debt sets OVERDUE at once. -/
def Egress.retimed (e : Egress) (t : Timing) (now : Nat) : Egress :=
  { e with
    timing := t
    cadenceDue := if t.period = e.timing.period then e.cadenceDue else now + Config.usec t.period
    overdue := overdueAfterRise e.overdue e.debt t.overdueThreshold }

/-- SET TIMING (R120, R121): all five values together, or none; the response carries the values in force. -/
def runSetTiming (_ : Requester) (args : List Byte) (s : State) : State × Answer :=
  match decodeTiming args with
  | none => (s, Answer.with .badArg (encodeTiming s.egress.timing))
  | some t =>
    ({ s with egress := s.egress.retimed t s.now }, Answer.with .ok (encodeTiming t))

/-- SET EVENTS (R144, R165): bits 15 to 12 name no class. -/
def runSetEvents (_ : Requester) (args : List Byte) (s : State) : State × Answer :=
  match args with
  | [hi, lo] =>
    let set := value16 hi lo
    if 4096 ≤ set then (s, Answer.bare .badArg)
    else
      let t := s.setEnables (BitVec.ofNat 16 set)
      (t, Answer.with .ok (bytes16 t.enableSet))
  | _ => (s, Answer.bare .badArg)

/-- The last two results of an OK ACK NOTICE: whether a new notice was issued, and its sequence. -/
def newNoticeBytes (e : NoticeEntry) : List Byte :=
  match e.sequence? with
  | none => [0, 0]
  | some q => [1, q]

/-- ACK NOTICE (R145, R163): an acknowledgement that matches its class's entry is accepted. -/
def runAckNotice (_ : Requester) (args : List Byte) (s : State) : State × Answer :=
  match args with
  | [cb, q] =>
    match decodeClass cb with
    | none => (s, Answer.bare .badArg)
    | some c =>
      if (s.classState c).entry.sequence? = some q then
        let (t, left) := s.acknowledge c
        (t, Answer.with .ok ([cb] ++ bytes16 left ++ newNoticeBytes (t.classState c).entry))
      else (s, Answer.bare .stale)
  | _ => (s, Answer.bare .badArg)

/-! ### RESET PART -/

/-- RESET PART (R146): the pending-reset record is made, naming the request's own descriptor if it was a
broadcast, and the response carries the reset mark. -/
def runResetPart (rq : Requester) (args : List Byte) (s : State) : State × Answer :=
  match args with
  | [b] =>
    match decodeScope b with
    | none => (s, Answer.bare .badArg)
    | some scope =>
      let record : PendingReset :=
        { scope := scope, responseOutstanding := true
          copyOutstanding := if rq.broadcast then some rq.desc else none }
      ({ s with management := { s.management with pendingReset := some record } }, ⟨.ok, [b], true⟩)
  | _ => (s, Answer.bare .badArg)

/-! ### The kinds (R135, R140, chapter 11.2) -/

/-- PROBE. -/
def probeHandler : Handler := ⟨0, .notNeeded, runProbe⟩
/-- CLAIM. -/
def claimHandler : Handler := ⟨1, .notNeeded, runClaim⟩
/-- RELEASE. -/
def releaseHandler : Handler := ⟨0, .notNeeded, runRelease⟩
/-- READ ENTRY. -/
def readEntryHandler : Handler := ⟨2, .notNeeded, runReadEntry⟩
/-- WRITE ENTRY. -/
def writeEntryHandler : Handler := ⟨8, .needed, runWriteEntry⟩
/-- COMMIT. -/
def commitHandler : Handler := ⟨0, .needed, runCommit⟩
/-- READ FRAMES. -/
def readFramesHandler : Handler := ⟨0, .notNeeded, runReadFrames⟩
/-- READ COUNTERS. -/
def readCountersHandler : Handler := ⟨1, .notNeeded, runReadCounters⟩
/-- READ GLOBALS. -/
def readGlobalsHandler : Handler := ⟨0, .notNeeded, runReadGlobals⟩
/-- CLEAR COUNTERS. -/
def clearCountersHandler : Handler := ⟨2, .needed, runClearCounters⟩
/-- READ STATUS. -/
def readStatusHandler : Handler := ⟨0, .notNeeded, runReadStatus⟩
/-- SET TIMING. -/
def setTimingHandler : Handler := ⟨7, .needed, runSetTiming⟩
/-- SET EVENTS. -/
def setEventsHandler : Handler := ⟨2, .needed, runSetEvents⟩
/-- ACK NOTICE. -/
def ackNoticeHandler : Handler := ⟨2, .whileClaimed, runAckNotice⟩
/-- RESET PART. -/
def resetPartHandler : Handler := ⟨1, .needed, runResetPart⟩

/-- The handler of a kind byte; none for a byte that names no kind (R134). -/
def handlerFor (kind : Byte) : Option Handler :=
  match kind.toNat with
  | 1 => some probeHandler
  | 2 => some claimHandler
  | 3 => some releaseHandler
  | 4 => some readEntryHandler
  | 5 => some writeEntryHandler
  | 6 => some commitHandler
  | 7 => some readFramesHandler
  | 8 => some readCountersHandler
  | 9 => some readGlobalsHandler
  | 10 => some clearCountersHandler
  | 11 => some readStatusHandler
  | 12 => some setTimingHandler
  | 13 => some setEventsHandler
  | 14 => some ackNoticeHandler
  | 15 => some resetPartHandler
  | _ => none

end Sys2Proof.Machine
end

