-- ==== Sys2Proof/Machine/Receiver.lean ====
section
/-! DEFINITION. The upstream receiver and node identity of chapter 01: the link, header arrival, the ways
a frame ends, and the dispatch at frame-end. -/

namespace Sys2Proof.Machine

/-- The part with the receiver at another point of the line. -/
def State.setReception (s : State) (r : Reception) : State :=
  { s with receiver := { s.receiver with reception := r } }

/-- The part with the receive slot emptied: no current header, the code unit IDLE, and the receiver at
the point given (R4, R15, R56). -/
def State.endReception (s : State) (r : Reception) : State :=
  { s with
    receiver := { s.receiver with reception := r, currentHeader := none }
    codeUnit := .idle }

/-- Where a start delimiter leaves the receiver, and any other symbol that ends a frame or a skip: a
start delimiter begins a new frame (R1, R12). -/
def afterSymbol (symbol : LineSymbol) : Reception :=
  match symbol with
  | .startDelimiter => .beforeHeader
  | .endDelimiter => .between
  | .abortDelimiter => .between
  | .idleSymbol => .between
  | .codeViolation => .between
  | .dataByte => .skipping

/-- The payload bytes of a frame written to its cells behind the header (R20). -/
def State.storePayload (s : State) (fr : Descriptor) (payload : List Byte) : State :=
  s.putMemory (writeFrameBytes s.store.memory fr.cells Config.headerBytes payload)

/-- The payload bytes that had arrived of the frame in the receive slot, if there is one, written to its
cells; the slot takes L bytes at most (R4, R20). -/
def State.storeArrived (s : State) (received : List Byte) : State :=
  match s.receiver.reception with
  | .between => s
  | .beforeHeader => s
  | .skipping => s
  | .receiving d =>
    match s.desc? d with
    | none => s
    | some fr => s.storePayload fr (received.take (headerLength fr.header))

/-- The abort of the frame in the receive slot (R6): the payload bytes that had arrived stand in the cells
that are freed, and UPSTREAM_ABORTS is counted; DATA counts DROPPED by the release. -/
def State.abortFrame (s : State) (d : DescId) (fr : Descriptor) (received : List Byte)
    (next : Reception) : State :=
  (((s.storePayload fr (received.take (headerLength fr.header))).releaseDropped d).countGlobal
    .upstreamAborts).endReception next

/-! ### The link (R2, R3) -/

/-- ACQUISITION (R2): the link becomes LINK_UP and UPSTREAM_UP is raised. In LINK_UP there is no acquisition,
and nothing changes. -/
def execAcquisition (s : State) : Host.Outcome State Fault Refusal :=
  match s.receiver.link with
  | .linkUp => .next s
  | .linkDown => ({ s with receiver := { s.receiver with link := .linkUp } }.raise .upstreamUp).done

/-- The part at the loss of the link: LINK_DOWN, and UPSTREAM_DOWN raised (R3). -/
def State.loseLink (s : State) : State :=
  ({ s with receiver := { s.receiver with link := .linkDown } }.setReception .between).raise .upstreamDown

/-- LOSS (R3): the link becomes LINK_DOWN, UPSTREAM_DOWN is raised, and a frame in reception is aborted as
R5 or R6 states; a skip ends with nothing counted (R12). In LINK_DOWN there is no loss, and nothing
changes. -/
def execLoss (received : List Byte) (s : State) : Host.Outcome State Fault Refusal :=
  match s.receiver.link with
  | .linkDown => .next s
  | .linkUp =>
    match s.receiver.reception with
    | .between => s.loseLink.done
    | .skipping => s.loseLink.done
    | .beforeHeader => (s.countGlobal .upstreamAborts).loseLink.done
    | .receiving d =>
      match s.desc? d with
      | none => .fault .descriptorMissing
      | some fr => (s.abortFrame d fr received .between).loseLink.done

/-! ### The start of a frame, and frames that hold nothing (R1, R5, R12) -/

/-- START_DELIMITER (R1): in LINK_UP it begins a frame, cutting short the frame in reception, if there is
one, and ending a skip. In LINK_DOWN every symbol is ignored (R2). -/
def execStartDelimiter (s : State) (received : List Byte := []) : Host.Outcome State Fault Refusal :=
  match s.receiver.link with
  | .linkDown => .next s
  | .linkUp =>
    match s.receiver.reception with
    | .between => (s.setReception .beforeHeader).done
    | .skipping => (s.setReception .beforeHeader).done
    | .beforeHeader => (s.countGlobal .upstreamAborts).done
    | .receiving d =>
      match s.desc? d with
      | none => .fault .descriptorMissing
      | some fr => (s.abortFrame d fr received .beforeHeader).done

/-- FRAME_CUT_SHORT (R5): a frame before its header arrival ends with a header fault, at an end
delimiter, or with UPSTREAM_ABORTS counted; a start delimiter begins a new frame. A data byte cuts
nothing short, and with no such frame there is none to cut short; nothing changes then. -/
def execFrameCutShort (symbol : LineSymbol) (s : State) : Host.Outcome State Fault Refusal :=
  match s.receiver.reception with
  | .between => .next s
  | .receiving _ => .next s
  | .skipping => .next s
  | .beforeHeader =>
    match symbol with
    | .dataByte => .next s
    | .endDelimiter =>
      (((s.setReception .between).countGlobal .headerFaults).raise .headerFault).done
    | .abortDelimiter => ((s.setReception .between).countGlobal .upstreamAborts).done
    | .idleSymbol => ((s.setReception .between).countGlobal .upstreamAborts).done
    | .codeViolation => ((s.setReception .between).countGlobal .upstreamAborts).done
    | .startDelimiter => (s.countGlobal .upstreamAborts).done

/-- SKIP_END (R12): a skip ends and nothing is counted; a start delimiter begins a new frame. A data byte
ends no skip, and outside a skip nothing changes. -/
def execSkipEnd (symbol : LineSymbol) (s : State) : Host.Outcome State Fault Refusal :=
  match s.receiver.reception with
  | .between => .next s
  | .receiving _ => .next s
  | .beforeHeader => .next s
  | .skipping => (s.setReception (afterSymbol symbol)).done

/-! ### Header arrival (R4, R8 to R12, R42, R43) -/

/-- The fates of R9. -/
inductive Fate where
  | loopStripped
  | tokenConsumed
  | classified
  | kept (role : Role)
  deriving DecidableEq, Repr

/-- The fate of a frame whose header check passes: the first row of R9 whose condition holds. -/
def fateOf (address : Byte) (h : HeaderBytes) : Fate :=
  if isNodeAddress address ∧ h.source = address ∧ frameKind h ≠ .token then .loopStripped
  else
    match frameKind h with
    | .token => .tokenConsumed
    | .request =>
      if (isNodeAddress address ∧ h.destination = address) ∨ h.destination = Config.broadcast then
        .kept .request
      else .kept .forwardedOther
    | .enumeration =>
      if h.destination = Config.broadcast then .kept .enumeration else .kept .forwardedOther
    | .data => .classified
    | .response => .kept .forwardedOther
    | .notice => .kept .forwardedOther
    | .foreign => .kept .forwardedOther

/-- A frame refused by the store is dropped whole: POOL_SHORT is counted and raised, DATA counts DROPPED,
and the rest is skipped (R12). -/
def State.refuseFrame (s : State) (role : Role) (h : HeaderBytes) : State :=
  let t :=
    match role with
    | .data _ => s.countFlow h.flow .dropped 1
    | .forwardedOther => s
    | .request => s
    | .enumeration => s
  ((t.countGlobal .poolShort).raise .poolShort).setReception .skipping

/-- A frame whose fate keeps it asks the store for a descriptor and cells (R12, R28): granted, it holds
the receive slot and the code unit takes its mode (R56); refused, it is dropped. -/
def State.keepFrame (s : State) (role : Role) (h : HeaderBytes) : State :=
  match s.store.freeDescs with
  | [] => s.refuseFrame role h
  | d :: _ =>
    if s.store.grants (cellsNeeded (storedLengthOf role h)) then
      { s with
        store := s.store.granted d role h
        receiver := { s.receiver with reception := .receiving d, currentHeader := some h }
        codeUnit := codeUnitFor role h }
    else s.refuseFrame role h

/-- Classification (R42): ARRIVED is counted; a DISCARD snapshot drops the frame (R43), any other keeps
it. -/
def State.classify (s : State) (h : HeaderBytes) : State :=
  let snap := s.snapshotOf h.flow
  let t := s.countFlow h.flow .arrived 1
  if snap.entry.action = .discard then (t.countFlow h.flow .dropped 1).setReception .skipping
  else t.keepFrame (.data snap) h

/-- A TOKEN is consumed: its source and token sequence are recorded (R11). -/
def State.consumeToken (s : State) (h : HeaderBytes) : State :=
  let t := { s with receiver :=
    { s.receiver with lastToken := some ⟨h.source, h.sequence⟩, reception := .skipping } }
  t.countGlobal .tokensReceived

/-- The part after the header check and the fate of a header (R8 to R12). -/
def State.arriveHeader (s : State) (h : HeaderBytes) : State :=
  if headerCheckPasses h then
    match fateOf s.nodeAddress h with
    | .loopStripped => (s.countGlobal .loopStripped).setReception .skipping
    | .tokenConsumed => s.consumeToken h
    | .classified => s.classify h
    | .kept role => s.keepFrame role h
  else ((s.countGlobal .headerFaults).raise .headerFault).setReception .skipping

/-- HEADER_ARRIVAL (R4). Outside a frame in reception whose header is awaited there is no header arrival,
and nothing changes. -/
def execHeaderArrival (h : HeaderBytes) (s : State) : Host.Outcome State Fault Refusal :=
  match s.receiver.reception with
  | .between => .next s
  | .receiving _ => .next s
  | .skipping => .next s
  | .beforeHeader => (s.arriveHeader h).done

/-! ### Abort (R6) -/

/-- The symbol and the number of payload bytes before it are a case of R6: an end delimiter after fewer
than L bytes, a byte beyond the L-th, or another delimiter, an idle symbol or a code violation before
frame-end. -/
def abortFits (symbol : LineSymbol) (n length : Nat) : Bool :=
  match symbol with
  | .endDelimiter => decide (n < length)
  | .dataByte => decide (n = length)
  | .abortDelimiter => decide (n ≤ length)
  | .idleSymbol => decide (n ≤ length)
  | .codeViolation => decide (n ≤ length)
  | .startDelimiter => decide (n ≤ length)

/-- ABORT (R6). An excess byte leaves the rest of the frame to be skipped, and a start delimiter begins a
new frame. With no frame in the receive slot, or no case of R6, there is no abort, and nothing changes. -/
def execAbort (symbol : LineSymbol) (received : List Byte) (s : State) :
    Host.Outcome State Fault Refusal :=
  match s.receiver.reception with
  | .between => .next s
  | .beforeHeader => .next s
  | .skipping => .next s
  | .receiving d =>
    match s.desc? d with
    | none => .fault .descriptorMissing
    | some fr =>
      if abortFits symbol received.length (headerLength fr.header) then
        (s.abortFrame d fr received (afterSymbol symbol)).done
      else .next s

/-! ### Frame-end (R15) -/

/-- A frame failed at frame-end: CODE_FAILED is counted and CODE_FAILURE raised, and its failure policy is
applied (R61). -/
def State.failAtFrameEnd (s : State) (d : DescId) (fr : Descriptor) : State :=
  ((s.countFlow fr.flow .codeFailed 1).raise .codeFailure).routeFailed d fr

/-- A ready frame counts CLEAN before it is routed (R60). -/
def State.readyAtFrameEnd (s : State) (d : DescId) (fr : Descriptor) : State :=
  (s.countFlow fr.flow .clean 1).routeReady d fr

/-- The outcome of a DATA frame (R60, R61): from the code unit with the whole payload through it, and from
the snapshot action. -/
def State.endData (s : State) (d : DescId) (fr : Descriptor) : State :=
  match s.codeUnit with
  | .idle => s.readyAtFrameEnd d fr
  | .passing found => if found then s.failAtFrameEnd d fr else s.readyAtFrameEnd d fr
  | .encoding rem =>
    let written := s.putMemory
      (writeFrameBytes s.store.memory fr.cells (Config.headerBytes + headerLength fr.header) rem)
    written.readyAtFrameEnd d fr
  | .syndrome acc =>
    if isClean acc then s.readyAtFrameEnd d fr
    else if fr.entry.action = .check then s.failAtFrameEnd d fr
    else s.routeLocate d fr acc

/-- An ENUM frame is well-formed: L is 3 and its payload check passes (R17). -/
def enumWellFormed (payload : List Byte) : Bool := decide (payload.length = 3) && payloadCheckPasses payload

/-- The next address after the one taken: next + 1, or 255 after 254 (R18). -/
def nextAddressAfter (a : Byte) : Byte := a + 1

/-- An unassigned part takes the next address: the address changes, the payload is rewritten in the cells
with a fresh payload check, and ADDRESS_TAKEN is raised (R18). -/
def State.takeAddress (s : State) (fr : Descriptor) (a : Byte) : State :=
  let t := s.storePayload fr (withPayloadCheck [nextAddressAfter a])
  { t with nodeAddress := a }.raise .addressTaken

/-- The frame-end of a well-formed ENUM, before it is forwarded (R18). -/
def State.enumerate (s : State) (fr : Descriptor) (payload : List Byte) : State :=
  match payload with
  | [] => s
  | a :: _ => if s.nodeAddress = 0 ∧ isNodeAddress a = true then s.takeAddress fr a else s

/-- A REQUEST or ENUM that fails its test is freed and MGMT_CHECK_FAULTS is counted (R14, R17). -/
def State.dropCheckFault (s : State) (d : DescId) : State :=
  (s.releaseDropped d).countGlobal .mgmtCheckFaults

/-- The payload of the frame in the receive slot arrives: its bytes stand in the cells and have gone
through the code unit, and the frame takes its arrival stamp (R15, R20, R58, R59). -/
def State.arrivePayload (s : State) (d : DescId) (fr : Descriptor) (payload : List Byte) : State :=
  let t := s.storePayload fr payload
  { t with codeUnit := t.codeUnit.stream payload }.giveStamp d

/-- The dispatch of a kept frame by its role (R15). -/
def State.dispatch (s : State) (d : DescId) (fr : Descriptor) (payload : List Byte) : State :=
  match fr.role with
  | .data _ => s.endData d fr
  | .forwardedOther => s.toForward d
  | .request =>
    if payloadCheckPasses payload then s.endRequest d fr (handlerFor (payload.headD 0)) payload
    else s.dropCheckFault d
  | .enumeration =>
    if enumWellFormed payload then (s.enumerate fr payload).toForward d else s.dropCheckFault d

/-- FRAME_END (R15): the end delimiter after exactly L payload bytes. After fewer the frame is aborted at
the end delimiter, and after more it was aborted at the excess byte, its skip ending at the end
delimiter (R6). With no frame in the receive slot there is no frame-end, and nothing changes. -/
def execFrameEnd (payload : List Byte) (s : State) : Host.Outcome State Fault Refusal :=
  match s.receiver.reception with
  | .between => .next s
  | .beforeHeader => .next s
  | .skipping => .next s
  | .receiving d =>
    match s.desc? d with
    | none => .fault .descriptorMissing
    | some fr =>
      if payload.length = headerLength fr.header then
        (((s.arrivePayload d fr payload).dispatch d fr payload).endReception .between).done
      else (s.abortFrame d fr payload .between).done

end Sys2Proof.Machine
end

