-- ==== Sys2Proof/Machine/Reset.lean ====
section
/-! DEFINITION. Resets: power-on, and the effect of a RESET PART at the completion of the last departure
it waits for. -/

namespace Sys2Proof.Machine

/-- POWER_ON (R36, R151): every block takes its state after power-on at once, with the HOLD_IN pin at the
level given. No release is performed and nothing is counted, and a frame in transmission is cut off with
no completion (R104). -/
def execPowerOn (holdIn : Bool) (s : State) : Host.Outcome State Fault Refusal :=
  .next { State.reset with egress := Egress.reset holdIn, pending := s.pending }

/-! ### RESET PART takes effect (R35, R82, R102, R122, R148, R149) -/

/-- The DROPPED counts of the frames a reset frees: one for each DATA descriptor that is not FREE (R35). -/
def State.countFreed (s : State) : State :=
  (s.liveDescs.filter fun p => p.2.isData).foldl (fun t p => t.countFlow p.2.flow .dropped 1) s

/-- The frame store after a RESET PART has taken effect: everything free, in ascending order, and HOLD_OUT
released (R35). Freed cells keep their bytes (R20). -/
def FrameStore.flushed (st : FrameStore) : FrameStore := { FrameStore.reset with memory := st.memory }

/-- The receiver after a RESET PART has taken effect: a frame in the receive slot is skipped from here on,
and a frame whose header has not arrived goes on (R5, R15, R19). -/
def Receiver.flushed (r : Receiver) : Receiver :=
  { r with
    reception :=
      match r.reception with
      | .receiving _ => .skipping
      | .between => .between
      | .beforeHeader => .beforeHeader
      | .skipping => .skipping
    currentHeader := none }

/-- The scheduler after a RESET PART of scope FLUSH has taken effect at the time given (R122, R123). The
hold-wait timer, stopped here, starts again at the end of the event where its conditions hold. -/
def Egress.flushed (e : Egress) (now : Nat) : Egress :=
  { e with
    forwardQueue := []
    holdWait := none
    permission := false
    cadenceDue := now + Config.usec e.timing.period
    debt := 0
    overdue := false }

/-- FLUSH takes effect (R35, R82, R102, R122, R148). The payload bytes that had arrived of the frame in the
receive slot stand in the cells that are freed (R20). -/
def State.flush (s : State) (received : List Byte) : State :=
  let t := (s.storeArrived received).countFreed
  { t with
    receiver := t.receiver.flushed
    codeUnit := .idle
    store := t.store.flushed
    locator := Locator.reset
    order := { t.order with chains := Vector.replicate 256 [] }
    egress := t.egress.flushed t.now
    management := { t.management with responses := [], pendingReset := none } }

/-- RESTART takes effect: all that FLUSH does, and then the claim is released, the flow table, the timing
parameters and the event unit take their defaults, the counters are cleared and the token sequence is 0
(R149). -/
def State.restart (s : State) (received : List Byte) : State :=
  let t := s.flush received
  { t with
    table := FlowTable.reset
    egress := { t.egress with
      timing := Timing.default
      cadenceDue := t.now + Config.usec Timing.default.period
      tokenSequence := 0 }
    management := { t.management with claim := none }
    events := EventUnit.reset
    counters := CounterStore.reset }

/-- The reset of a scope takes effect. -/
def State.applyReset (s : State) (scope : ResetScope) (received : List Byte) : State :=
  match scope with
  | .flush => s.flush received
  | .restart => s.restart received

/-- The pending-reset record after the departure of a marked response (R147). -/
def PendingReset.responseLeft (p : PendingReset) : PendingReset := { p with responseOutstanding := false }

/-- The pending-reset record after the departure of a forwarded copy (R147). -/
def PendingReset.copyLeft (p : PendingReset) (d : DescId) : PendingReset :=
  { p with copyOutstanding := if p.copyOutstanding = some d then none else p.copyOutstanding }

/-- Nothing is outstanding any more. -/
def PendingReset.isDue (p : PendingReset) : Bool := !p.responseOutstanding && p.copyOutstanding.isNone

/-- A pending reset takes effect in the completion event that leaves nothing outstanding, after that
completion's own effect (R122, R147). The bytes given are those that had arrived of the frame in the
receive slot. -/
def State.resetIfDue (s : State) (received : List Byte) : State :=
  match s.management.pendingReset with
  | none => s
  | some p => if p.isDue then s.applyReset p.scope received else s

end Sys2Proof.Machine
end

