-- ==== Sys2Proof/Machine/Egress.lean ====
section
/-! DEFINITION. The egress scheduler of chapter 07: HOLD_IN, the cadence, the arbiter, and what a
transmission start and a transmission completion do. -/

namespace Sys2Proof.Machine

/-! ### HOLD_IN (R116, R118) -/

/-- The part with HOLD_IN at the level given. -/
def State.setHoldIn (s : State) (level : Bool) : State :=
  { s with egress := { s.egress with holdIn := level } }

/-- HOLD_IN_ASSERTION (R116): the hold-wait timer may start (R117). -/
def execHoldInAssertion (s : State) : Host.Outcome State Fault Refusal := (s.setHoldIn true).done

/-- HOLD_IN_RELEASE (R116): the hold-wait timer stops (R117). -/
def execHoldInRelease (s : State) : Host.Outcome State Fault Refusal := (s.setHoldIn false).done

/-- The forced-start permission is granted and the hold-wait timer no longer runs (R118). -/
def State.grantPermission (s : State) : State :=
  { s with egress := { s.egress with permission := true, holdWait := none } }

/-- HOLD_WAIT_EXPIRY (R118): HOLD_FORCED is counted and raised, and the permission is granted. The clock is
brought to the timer's time. A stopped timer has no expiry (R119), and nothing changes. -/
def execHoldWaitExpiry (s : State) : Host.Outcome State Fault Refusal :=
  match s.egress.holdWait with
  | none => .next s
  | some due =>
    ((((s.advanceTo due).grantPermission).countGlobal .holdForced).raise .holdForced).done

/-! ### Cadence (R112, R113, R115) -/

/-- The scheduler at a cadence expiry: the timer runs on for the next P, the debt rises unless it is 8, and
a debt of OT or more sets OVERDUE (R112, R113, R115). -/
def Egress.cadenceExpired (e : Egress) : Egress :=
  let debt := min Config.debtLimit (e.debt + 1)
  { e with
    cadenceDue := e.cadenceDue + Config.usec e.timing.period
    debt := debt
    overdue := overdueAfterRise e.overdue debt e.timing.overdueThreshold }

/-- CADENCE_EXPIRY (R113): the debt rises by 1; an expiry that finds it at 8 is a slip, counted and raised.
The clock is brought to the timer's time. -/
def execCadenceExpiry (s : State) : Host.Outcome State Fault Refusal :=
  let t := s.advanceTo s.egress.cadenceDue
  let u := { t with egress := t.egress.cadenceExpired }
  if Config.debtLimit ≤ s.egress.debt then ((u.countGlobal .cadenceSlips).raise .cadenceSlip).done
  else u.done

/-! ### The arbiter (R108, R109) -/

/-- The four candidates. -/
inductive Candidate where
  | response
  | token
  | notice (cls : EventClass)
  | forward (desc : DescId)
  deriving DecidableEq, Repr

/-- A non-token candidate may start: not OVERDUE, and HOLD_IN released or the permission standing. -/
def Egress.nonTokenMayStart (e : Egress) : Bool := !e.overdue && (!e.holdIn || e.permission)

/-- The candidate that starts with the transmitter IDLE: the first tier whose candidate may start (R109). -/
def State.chosen (s : State) : Option Candidate :=
  let open_ := s.egress.nonTokenMayStart
  if open_ && !s.management.responses.isEmpty then some .response
  else if s.egress.timing.dueThreshold ≤ s.egress.debt ∧ 1 ≤ s.egress.debt then some .token
  else
    match open_, s.noticeCandidate, s.egress.forwardQueue with
    | true, some c, _ => some (.notice c)
    | true, none, d :: _ => some (.forward d)
    | true, none, [] => if 1 ≤ s.egress.debt then some .token else none
    | false, _, _ => if 1 ≤ s.egress.debt then some .token else none

/-! ### What is sent (R65, R105, R114) -/

/-- A frame of the forward queue as it is sent: its header, before the header check is computed afresh, and
the number of its payload bytes. A STRIP frame with DAMAGED clear leaves without its trailer, an ENCODE
frame that was coded leaves as a codeword, and any other leaves as it is held (R65 to R67). -/
def outgoing (fr : Descriptor) : HeaderBytes × Nat :=
  let length := headerLength fr.header
  match fr.role with
  | .data snap =>
    let trailer := 2 * snap.entry.strength.t
    if snap.entry.action = .strip ∧ isDamaged fr.header = false then
      ({ fr.header with code := 0, length := byteOf (length - trailer) }, length - trailer)
    else if snap.entry.action = .encode ∧ fr.storedLength ≠ length then
      ({ fr.header with code := byteOf snap.entry.strength.t, length := byteOf (length + trailer) },
        length + trailer)
    else (fr.header, length)
  | .forwardedOther => (fr.header, length)
  | .request => (fr.header, length)
  | .enumeration => (fr.header, length)

/-- The time at which a frame of `n` header and payload bytes that starts now has been sent, with its two
delimiters (R104). -/
def State.lineEnd (s : State) (n : Nat) : Nat := s.now + (n + 2) * Config.byteTime

/-- The part with the transmitter SENDING the frame given. -/
def State.send (s : State) (source : TxSource) (h : HeaderBytes) (payload : List Byte) : State :=
  let tx : Transmission :=
    { source := source, header := h, payload := payload
      endsAt := s.lineEnd (Config.headerBytes + payload.length) }
  { s with egress := { s.egress with transmitter := some tx } }

/-- A non-token start consumes the forced-start permission (R109, R118). -/
def State.consumePermission (s : State) : State :=
  { s with egress := { s.egress with permission := false } }

/-- The destination of a notice: the claim holder now, or 255 (R105). -/
def State.noticeDestination (s : State) : Byte :=
  match s.management.claim with
  | none => Config.broadcast
  | some c => c.holder

/-- A cadence token starts (R114). -/
def State.startToken (s : State) : State :=
  s.send .token (ownHeader 0 s.nodeAddress .token 0 s.egress.tokenSequence) []

/-- The oldest response starts (R105). -/
def State.startResponse (s : State) (q : QueuedResponse) : State :=
  let payload := withPayloadCheck (responseBytes q.response)
  s.consumePermission.send .response
    (ownHeader q.destination s.nodeAddress .response (byteOf payload.length) q.response.sequence) payload

/-- The notice of a class starts; its sent count is fixed at its first start (R159). -/
def State.startNotice (s : State) (c : EventClass) : State :=
  let k := s.classState c
  let e := k.entry.started k.raw
  let q := e.sequence?.getD 0
  let payload := withPayloadCheck (noticeBytes c q e.sentOrZero)
  (s.consumePermission.putEntry c e).send (.notice c q)
    (ownHeader s.noticeDestination s.nodeAddress .notice (byteOf payload.length) q) payload

/-- The head of the forward queue starts: it leaves the queue and its place becomes SENDING (R107). -/
def State.startForward (s : State) (d : DescId) (fr : Descriptor) : State :=
  let (h, n) := outgoing fr
  let payload := readPayload s.store.memory fr.cells n
  let t := s.consumePermission
  let u := { t with egress := { t.egress with forwardQueue := t.egress.forwardQueue.tail } }
  (u.setPlace d .sending).send (.forward d) (withHeaderCheck h) payload

/-- TRANSMISSION_START (R109): with the transmitter IDLE, the arbiter starts one candidate. While the
transmitter is SENDING no start is taken (R110), and with no candidate that may start it stays IDLE;
nothing changes then. -/
def execTransmissionStart (s : State) : Host.Outcome State Fault Refusal :=
  match s.egress.transmitter with
  | some _ => .next s
  | none =>
    match s.chosen with
    | none => .next s
    | some .token => s.startToken.done
    | some (.notice c) => (s.startNotice c).done
    | some .response =>
      match s.management.responses with
      | [] => .next s
      | q :: _ => (s.startResponse q).done
    | some (.forward d) =>
      match s.desc? d with
      | none => .fault .descriptorMissing
      | some fr => (s.startForward d fr).done

/-! ### Transmission completion (R106) -/

/-- The part with the transmitter IDLE. -/
def State.idleTransmitter (s : State) : State := { s with egress := { s.egress with transmitter := none } }

/-- A token completes: the debt falls by 1, the token sequence rises by 1, TOKENS_SENT is counted, and
OVERDUE is left at a debt of 1 or less (R106, R115). -/
def State.completeToken (s : State) : State :=
  let debt := s.egress.debt - 1
  let t := { s with egress := { s.egress with
    debt := debt
    tokenSequence := s.egress.tokenSequence + 1
    overdue := overdueAfterToken s.egress.overdue debt } }
  t.countGlobal .tokensSent

/-- The pending-reset record, if there is one, changed. -/
def State.updatePending (s : State) (f : PendingReset → PendingReset) : State :=
  { s with management := { s.management with pendingReset := s.management.pendingReset.map f } }

/-- A response completes: it is removed from the head of the queue, and the departure of a marked response
is recorded (R106, R147). -/
def State.completeResponse (s : State) : State :=
  match s.management.responses with
  | [] => s
  | q :: rest =>
    let t := { s with management := { s.management with responses := rest } }
    if q.resetMark then t.updatePending PendingReset.responseLeft else t

/-- A notice completes: an entry that is PENDING_SEND with the sequence sent becomes AWAITING_ACK and its
retry timer starts with the interval in force (R160). -/
def State.completeNotice (s : State) (c : EventClass) (q : Byte) : State :=
  s.putEntry c ((s.classState c).entry.completed q
    (s.now + Config.msec (10 * s.egress.timing.retryInterval)))

/-- A frame of the forward queue completes: its descriptor is freed, SENT is counted for DATA, and the
departure of a request's forwarded copy is recorded (R106, R147). -/
def State.completeForward (s : State) (d : DescId) (fr : Descriptor) : State :=
  let t := s.releaseSent d
  if fr.role = .request then t.updatePending (PendingReset.copyLeft · d) else t

/-- TRANSMISSION_COMPLETION (R106): the completion's effect on its source, then the pending reset if this
was its last departure, with the bytes that had arrived of the frame in the receive slot. The clock is
brought to the end of the frame's line time. An IDLE transmitter has nothing to complete, and nothing
changes. -/
def execTransmissionCompletion (s : State) (received : List Byte := []) :
    Host.Outcome State Fault Refusal :=
  match s.egress.transmitter with
  | none => .next s
  | some tx =>
    let t := (s.advanceTo tx.endsAt).idleTransmitter
    match tx.source with
    | .token => (t.completeToken.resetIfDue received).done
    | .response => (t.completeResponse.resetIfDue received).done
    | .notice c q => ((t.completeNotice c q).resetIfDue received).done
    | .forward d =>
      match s.desc? d with
      | none => .fault .descriptorMissing
      | some fr => ((t.completeForward d fr).resetIfDue received).done

end Sys2Proof.Machine
end

