-- ==== Sys2Proof/Machine/Requests.lean ====
section
/-! DEFINITION. The request rows of the table. Each is the frame-end of a REQUEST frame in the receive
slot whose kind byte is the row's and whose payload check passes (R125); the whole handling of the
request happens in that event. -/

namespace Sys2Proof.Machine

/-- The frame-end of a REQUEST with the kind byte and body given, whose kind has the handler given. The
receive slot must hold a REQUEST frame whose length is that of the payload; otherwise no such frame ends,
and nothing changes. -/
def requestFrameEnd (kind : Byte) (body : List Byte) (h : Option Handler) (s : State) :
    Host.Outcome State Fault Refusal :=
  match s.receiver.reception with
  | .between => .next s
  | .beforeHeader => .next s
  | .skipping => .next s
  | .receiving d =>
    match s.desc? d with
    | none => .fault .descriptorMissing
    | some fr =>
      let payload := requestPayload kind body
      if fr.role = .request ∧ payload.length = headerLength fr.header then
        (((s.arrivePayload d fr payload).endRequest d fr h payload).endReception .between).done
      else .next s

/-- PROBE (R141). -/
def execProbe (body : List Byte) (s : State) : Host.Outcome State Fault Refusal :=
  requestFrameEnd 0x01#8 body (some probeHandler) s

/-- UNKNOWN_KIND (R134): a kind byte that names no kind has no handler. -/
def execUnknownKind (kind : Byte) (body : List Byte) (s : State) : Host.Outcome State Fault Refusal :=
  requestFrameEnd kind body (handlerFor kind) s

/-- CLAIM (R137). -/
def execClaim (body : List Byte) (s : State) : Host.Outcome State Fault Refusal :=
  requestFrameEnd 0x02#8 body (some claimHandler) s

/-- RELEASE (R138). -/
def execRelease (body : List Byte) (s : State) : Host.Outcome State Fault Refusal :=
  requestFrameEnd 0x03#8 body (some releaseHandler) s

/-- READ_ENTRY (R47). -/
def execReadEntry (body : List Byte) (s : State) : Host.Outcome State Fault Refusal :=
  requestFrameEnd 0x04#8 body (some readEntryHandler) s

/-- WRITE_ENTRY (R46). -/
def execWriteEntry (body : List Byte) (s : State) : Host.Outcome State Fault Refusal :=
  requestFrameEnd 0x05#8 body (some writeEntryHandler) s

/-- COMMIT (R48). -/
def execCommit (body : List Byte) (s : State) : Host.Outcome State Fault Refusal :=
  requestFrameEnd 0x06#8 body (some commitHandler) s

/-- READ_FRAMES (R173). -/
def execReadFrames (body : List Byte) (s : State) : Host.Outcome State Fault Refusal :=
  requestFrameEnd 0x07#8 body (some readFramesHandler) s

/-- READ_COUNTERS (R172). -/
def execReadCounters (body : List Byte) (s : State) : Host.Outcome State Fault Refusal :=
  requestFrameEnd 0x08#8 body (some readCountersHandler) s

/-- READ_GLOBALS (R172). -/
def execReadGlobals (body : List Byte) (s : State) : Host.Outcome State Fault Refusal :=
  requestFrameEnd 0x09#8 body (some readGlobalsHandler) s

/-- CLEAR_COUNTERS (R143). -/
def execClearCounters (body : List Byte) (s : State) : Host.Outcome State Fault Refusal :=
  requestFrameEnd 0x0A#8 body (some clearCountersHandler) s

/-- READ_STATUS (R174). -/
def execReadStatus (body : List Byte) (s : State) : Host.Outcome State Fault Refusal :=
  requestFrameEnd 0x0B#8 body (some readStatusHandler) s

/-- SET_TIMING (R121). -/
def execSetTiming (body : List Byte) (s : State) : Host.Outcome State Fault Refusal :=
  requestFrameEnd 0x0C#8 body (some setTimingHandler) s

/-- SET_EVENTS (R165). -/
def execSetEvents (body : List Byte) (s : State) : Host.Outcome State Fault Refusal :=
  requestFrameEnd 0x0D#8 body (some setEventsHandler) s

/-- ACK_NOTICE (R163). -/
def execAckNotice (body : List Byte) (s : State) : Host.Outcome State Fault Refusal :=
  requestFrameEnd 0x0E#8 body (some ackNoticeHandler) s

/-- RESET_PART (R146). -/
def execResetPart (body : List Byte) (s : State) : Host.Outcome State Fault Refusal :=
  requestFrameEnd 0x0F#8 body (some resetPartHandler) s

end Sys2Proof.Machine
end

