-- ==== Sys2Proof/Machine/Dispatch.lean ====
section
/-! DEFINITION. The meaning of every command: one arm per constructor of `Instr`. -/

namespace Sys2Proof.Machine

def exec (i : Instr) (s : State) : Host.Outcome State Fault Refusal :=
  match i with
  | .powerOn holdIn => Sys2Proof.Machine.execPowerOn holdIn s
  | .holdInAssertion => Sys2Proof.Machine.execHoldInAssertion s
  | .holdInRelease => Sys2Proof.Machine.execHoldInRelease s
  | .acquisition => Sys2Proof.Machine.execAcquisition s
  | .loss received => Sys2Proof.Machine.execLoss received s
  | .headerArrival header => Sys2Proof.Machine.execHeaderArrival header s
  | .frameCutShort symbol => Sys2Proof.Machine.execFrameCutShort symbol s
  | .abort symbol received => Sys2Proof.Machine.execAbort symbol received s
  | .frameEnd payload => Sys2Proof.Machine.execFrameEnd payload s
  | .pickup engine => Sys2Proof.Machine.execPickup engine s
  | .locatorCompletionList engine => Sys2Proof.Machine.execLocatorCompletionList engine s
  | .locatorCompletionFailed engine => Sys2Proof.Machine.execLocatorCompletionFailed engine s
  | .deadlineExpiry desc => Sys2Proof.Machine.execDeadlineExpiry desc s
  | .transmissionStart => Sys2Proof.Machine.execTransmissionStart s
  | .transmissionCompletion received => Sys2Proof.Machine.execTransmissionCompletion s received
  | .cadenceExpiry => Sys2Proof.Machine.execCadenceExpiry s
  | .holdWaitExpiry => Sys2Proof.Machine.execHoldWaitExpiry s
  | .leaseExpiry => Sys2Proof.Machine.execLeaseExpiry s
  | .retryTimerExpiry cls => Sys2Proof.Machine.execRetryTimerExpiry cls s
  | .copyCompletion => Sys2Proof.Machine.execCopyCompletion s
  | .probe body => Sys2Proof.Machine.execProbe body s
  | .unknownKind kind body => Sys2Proof.Machine.execUnknownKind kind body s
  | .claim body => Sys2Proof.Machine.execClaim body s
  | .release body => Sys2Proof.Machine.execRelease body s
  | .readEntry body => Sys2Proof.Machine.execReadEntry body s
  | .writeEntry body => Sys2Proof.Machine.execWriteEntry body s
  | .commit body => Sys2Proof.Machine.execCommit body s
  | .readFrames body => Sys2Proof.Machine.execReadFrames body s
  | .readCounters body => Sys2Proof.Machine.execReadCounters body s
  | .readGlobals body => Sys2Proof.Machine.execReadGlobals body s
  | .clearCounters body => Sys2Proof.Machine.execClearCounters body s
  | .readStatus body => Sys2Proof.Machine.execReadStatus body s
  | .setTiming body => Sys2Proof.Machine.execSetTiming body s
  | .setEvents body => Sys2Proof.Machine.execSetEvents body s
  | .ackNotice body => Sys2Proof.Machine.execAckNotice body s
  | .resetPart body => Sys2Proof.Machine.execResetPart body s
  | .startDelimiter received => Sys2Proof.Machine.execStartDelimiter s received
  | .skipEnd symbol => Sys2Proof.Machine.execSkipEnd symbol s

end Sys2Proof.Machine
end

