-- ==== Sys2Proof/Machine/Step.lean ====
section
/-! DEFINITION. One step: the command at the front of the queue, or a tick of the clock. -/

namespace Sys2Proof.Machine

/-- What the part does on an empty queue: 10 ns pass (DESIGN CHOICE, log entry 2). What a timer does when
it runs out is the command of the table that names its expiry. -/
def State.tick (s : State) : State := s.advanceTo (s.now + 1)

/-- The command at the front of the queue runs on the part with the queue's rest; on an empty queue the
clock ticks. -/
def step (s : State) : Host.Outcome State Fault Refusal :=
  match s.pending with
  | [] => .next s.tick
  | c :: rest => exec c { s with pending := rest }

/-- The part with the command that a word spells put at the front of its queue; no word spells one (log
entry 4). -/
def State.withFetchWord (s : State) (nbits w : Nat) : State :=
  match decodeTableWord nbits w with
  | none => s
  | some c => { s with pending := c :: s.pending }

end Sys2Proof.Machine
end

