-- ==== Sys2Proof/Safety.lean ====
section
/-! DEFINITION. What a consistent part is: the conditions on the state that the rules say hold at every
moment, block by block, and their conjunction. -/

namespace Sys2Proof.Machine

/-! ### Frame store (R21, R22, R26, R27, R33) -/

/-- The cells listed by the descriptors that are not FREE, in the order of the descriptors' numbers. -/
def State.heldCells (s : State) : List CellId :=
  (List.finRange 40).flatMap fun d => ((s.desc? d).map Descriptor.cells).getD []

/-- The free cells and the cells of the descriptors that are not FREE are the 128 cells, each once
(R26). -/
def State.CellsConserved (s : State) : Prop :=
  (s.store.freeCells ++ s.heldCells).Perm (List.finRange 128)

/-- The free descriptor list holds exactly the FREE descriptors, each once (R22, R25). -/
def State.FreeDescsExact (s : State) : Prop :=
  s.store.freeDescs.Nodup ∧ ∀ d : DescId, d ∈ s.store.freeDescs ↔ s.desc? d = none

/-- A descriptor lists the cells its stored length needs, between 1 and 5 of them (R26, R27). -/
def Descriptor.CellsFit (fr : Descriptor) : Prop :=
  fr.storedLength ≤ 255 ∧ fr.cells.length = cellsNeeded fr.storedLength

/-- HOLD_OUT agrees with the free lists as R33 leaves them. -/
def FrameStore.HoldOutAgrees (st : FrameStore) : Prop :=
  if st.holdOut then
    ¬(24 ≤ st.freeCells.length ∧ 8 ≤ st.freeDescs.length)
  else 16 ≤ st.freeCells.length ∧ 4 ≤ st.freeDescs.length

/-- The frame store is consistent. -/
structure State.StoreInv (s : State) : Prop where
  conserved : s.CellsConserved
  freeExact : s.FreeDescsExact
  cellsFit : ∀ d fr, s.desc? d = some fr → fr.CellsFit
  holdOut : s.store.HoldOutAgrees

/-- The cells' memory is in its canonical form. -/
def State.MemoryInv (s : State) : Prop := memoryWf s.store.memory = true

/-! ### Flow table and snapshots (R39) -/

/-- Neither bank holds an invalid entry, and no snapshot does (R39). -/
structure State.TableInv (s : State) : Prop where
  bankA : ∀ f, (atFlow s.table.bankA f).valid = true
  bankB : ∀ f, (atFlow s.table.bankB f).valid = true
  snapshots : ∀ d fr, s.desc? d = some fr → fr.entry.valid = true

/-! ### Receiver and code unit (R2, R4, R56) -/

/-- The receiver receives nothing in LINK_DOWN, and the current header and the code unit serve the receive
slot alone. -/
structure State.ReceiverInv (s : State) : Prop where
  linkDown : s.receiver.link = .linkDown → s.receiver.reception = .between
  header : s.receiver.currentHeader.isSome = true ↔ ∃ d, s.receiver.reception = .receiving d
  codeUnit : s.codeUnit ≠ .idle ↔ ∃ d, s.receiver.reception = .receiving d

/-- The frame in the receive slot is the one of the current header, and until its frame-end the code unit
stands as the header arrival left it: the payload goes through the unit in the command that ends the
reception (R4, R56; log entry 9). -/
def State.SlotInv (s : State) : Prop :=
  ∀ d fr, s.receiver.reception = .receiving d → s.desc? d = some fr →
    s.receiver.currentHeader = some fr.header ∧ s.codeUnit = codeUnitFor fr.role fr.header

/-- A stored frame has the stored length R27 gives it, and no stored frame was classified DISCARD (R43). -/
structure State.FrameInv (s : State) : Prop where
  length : ∀ d fr, s.desc? d = some fr → fr.storedLength = storedLengthOf fr.role fr.header
  kept : ∀ d fr, s.desc? d = some fr → fr.entry.action ≠ .discard

/-! ### Places (R25, R69, R71, R85, R92) -/

/-- The descriptor stands in the place given. -/
def State.InPlace (s : State) (d : DescId) (p : Place) : Prop :=
  ∃ fr, s.desc? d = some fr ∧ fr.place = p

/-- The descriptor an engine holds. -/
def State.engineDesc (s : State) (e : EngineId) : Option DescId := (s.engineRun e).map Run.desc

/-- Each descriptor that is not FREE is in exactly the location its place names (R25). -/
structure State.PlaceInv (s : State) : Prop where
  receiving : ∀ d, s.receiver.reception = .receiving d ↔ s.InPlace d .receiving
  queued : ∀ d, d ∈ s.locator.queue ↔ s.InPlace d .queued
  queueNodup : s.locator.queue.Nodup
  locating : ∀ d, (∃ e, s.engineDesc e = some d) ↔ s.InPlace d .locating
  engines : ∀ d, ¬(s.engineDesc .engine0 = some d ∧ s.engineDesc .engine1 = some d)
  forward : ∀ d, d ∈ s.egress.forwardQueue ↔ s.InPlace d .forward
  forwardNodup : s.egress.forwardQueue.Nodup
  sending : ∀ d, s.sending = some (.forward d) ↔ s.InPlace d .sending

/-- The run of an engine is made up of the syndromes, strength and length of the frame it holds, and every
frame with the locator has its syndromes (R24, R72). -/
structure State.RunInv (s : State) : Prop where
  runs : ∀ e r fr, s.engineRun e = some r → s.desc? r.desc = some fr →
    fr.syndromes = some r.syndromes ∧ r.strength = fr.entry.strength ∧ r.length = headerLength fr.header
  syndromes : ∀ d fr, s.desc? d = some fr → fr.place = .queued ∨ fr.place = .locating →
    fr.syndromes.isSome = true

/-- An engine freed first waits for its turn only while both are IDLE and a frame is queued (R73, R79). -/
def State.TurnInv (s : State) : Prop :=
  s.locator.firstFreed ≠ none →
    s.locator.queue ≠ [] ∧ s.locator.engine0 = none ∧ s.locator.engine1 = none

/-- A chained frame's correction is unfinished, or it waits HELD (R85). -/
def Descriptor.waits (fr : Descriptor) : Bool :=
  decide (fr.place = .queued ∨ fr.place = .locating ∨ fr.place = .held)

/-- The frame was classified ORDERED (R85). -/
def Descriptor.isOrdered (fr : Descriptor) : Bool := fr.isData && decide (fr.entry.order = .ordered)

/-- The arrival stamp of a descriptor, 0 where it has none. -/
def State.stampOf (s : State) (d : DescId) : Nat := ((s.desc? d).bind Descriptor.stamp).getD 0

/-- The order chains (R85): at most 16 members, all of the chain's flow and classified ORDERED, in
frame-end order, and the head of a non-empty chain is QUEUED or LOCATING. -/
structure State.ChainInv (s : State) : Prop where
  length : ∀ f, (s.chain f).length ≤ 16
  members : ∀ f d, d ∈ s.chain f ↔
    ∃ fr, s.desc? d = some fr ∧ fr.isOrdered = true ∧ fr.waits = true ∧ fr.flow = f
  inOrder : ∀ f, (s.chain f).Pairwise fun a b => s.stampOf a < s.stampOf b
  head : ∀ f d, (s.chain f).head? = some d → s.InPlace d .queued ∨ s.InPlace d .locating
  queueInOrder : s.locator.queue.Pairwise fun a b => s.stampOf a < s.stampOf b
  stamps : ∀ d fr, s.desc? d = some fr →
    (fr.stamp = none ↔ fr.place = .receiving) ∧ ∀ n, fr.stamp = some n → n < s.order.nextStamp
  heldOrdered : ∀ d fr, s.desc? d = some fr → fr.place = .held → fr.isOrdered = true
  dataOnly : ∀ d fr, s.desc? d = some fr → fr.waits = true → fr.isData = true

/-- The running deadline timers are those of the QUEUED, LOCATING and HELD descriptors (R92). -/
def State.DeadlineInv (s : State) : Prop :=
  ∀ d fr, s.desc? d = some fr → (fr.deadline.isSome = true ↔ fr.waits = true)

/-! ### Egress scheduler (R113, R115, R117, R120) -/

/-- The debt is 0 to 8, the part is OVERDUE only at a debt of 2 or more, and the timing parameters are in
their ranges (R113, R115, R120). -/
structure State.CadenceInv (s : State) : Prop where
  debt : s.egress.debt ≤ 8
  overdue : s.egress.overdue = true → 2 ≤ s.egress.debt
  timing : s.egress.timing.valid = true

/-- A non-token candidate waits: a response or a PENDING_SEND notice that is not the one being sent, or a
frame of the forward queue (R108). -/
def State.NonTokenWaits (s : State) : Prop :=
  (if s.sending = some .response then 2 ≤ s.management.responses.length
    else 1 ≤ s.management.responses.length) ∨
  (∃ c q n r a, (s.classState c).entry = .pendingSend q n r a ∧ s.sending ≠ some (.notice c q)) ∨
  s.egress.forwardQueue ≠ []

/-- The hold-wait timer runs exactly while HOLD_IN is asserted, a non-token candidate waits and the
forced-start permission does not stand (R117). -/
def State.HoldWaitInv (s : State) : Prop :=
  s.egress.holdWait.isSome = true ↔
    s.egress.holdIn = true ∧ s.NonTokenWaits ∧ s.egress.permission = false

/-- A token being sent is owed (R113), and a response being sent is the oldest of the queue (R128). -/
structure State.TransmitterInv (s : State) : Prop where
  token : s.sending = some .token → 1 ≤ s.egress.debt
  response : s.sending = some .response → s.management.responses ≠ []

/-! ### Management unit (R128, R136, R147) -/

/-- At most four responses are queued, a holder is a node address, and a pending reset waits for a departure
(R128, R136, R147). -/
structure State.ManagementInv (s : State) : Prop where
  responses : s.management.responses.length ≤ 4
  holder : ∀ c, s.management.claim = some c → isNodeAddress c.holder = true
  pending : ∀ p, s.management.pendingReset = some p → p.isDue = false

/-! ### Event unit (R154, R156) -/

/-- A class: its raw count is at most 65535, an entry other than IDLE belongs to an enabled class with a raw
count above 0, and a sent count is at most the raw count (R154, R156, R163). -/
structure ClassState.Inv (k : ClassState) : Prop where
  limit : k.raw ≤ 65535
  outstanding : k.entry ≠ .idle → k.enabled = true ∧ 0 < k.raw
  sent : k.entry.sentOrZero ≤ k.raw

/-- Every class is consistent. -/
def State.EventInv (s : State) : Prop := ∀ c, (s.classState c).Inv

/-! ### Counter store (R168) -/

/-- The eight counters of a flow in the order of READ COUNTERS (chapter 11.3). -/
def State.flowValues (s : State) (f : Byte) : List Nat :=
  let k := s.flowCounters f
  [k.arrived, k.clean, k.corrected, k.symbolsFixed, k.codeFailed, k.expired, k.dropped, k.sent]

/-- The global counters in the order of READ GLOBALS (chapter 11.3). -/
def State.globalValues (s : State) : List Nat :=
  let k := s.counters.globals
  [k.headerFaults, k.loopStripped, k.poolShort, k.mgmtCheckFaults, k.requestsShed, k.tokensSent,
    k.tokensReceived, k.cadenceSlips, k.holdForced, k.upstreamAborts]

/-- A flow's counters after a count: the counter named rises by the number given and stops at its limit, and
every other is as it was (R168). -/
def FlowCounters.plus (k : FlowCounters) (c : FlowCounter) (n : Nat) : FlowCounters :=
  match c with
  | .arrived => { k with arrived := min 4294967295 (k.arrived + n) }
  | .clean => { k with clean := min 4294967295 (k.clean + n) }
  | .corrected => { k with corrected := min 4294967295 (k.corrected + n) }
  | .symbolsFixed => { k with symbolsFixed := min 4294967295 (k.symbolsFixed + n) }
  | .codeFailed => { k with codeFailed := min 4294967295 (k.codeFailed + n) }
  | .expired => { k with expired := min 4294967295 (k.expired + n) }
  | .dropped => { k with dropped := min 4294967295 (k.dropped + n) }
  | .sent => { k with sent := min 4294967295 (k.sent + n) }

/-- The global counters after a count by 1, in the same way (R168, R170). -/
def GlobalCounters.plus (k : GlobalCounters) (c : GlobalCounter) : GlobalCounters :=
  match c with
  | .headerFaults => { k with headerFaults := min 4294967295 (k.headerFaults + 1) }
  | .loopStripped => { k with loopStripped := min 4294967295 (k.loopStripped + 1) }
  | .poolShort => { k with poolShort := min 4294967295 (k.poolShort + 1) }
  | .mgmtCheckFaults => { k with mgmtCheckFaults := min 4294967295 (k.mgmtCheckFaults + 1) }
  | .requestsShed => { k with requestsShed := min 4294967295 (k.requestsShed + 1) }
  | .tokensSent => { k with tokensSent := min 4294967295 (k.tokensSent + 1) }
  | .tokensReceived => { k with tokensReceived := min 4294967295 (k.tokensReceived + 1) }
  | .cadenceSlips => { k with cadenceSlips := min 4294967295 (k.cadenceSlips + 1) }
  | .holdForced => { k with holdForced := min 4294967295 (k.holdForced + 1) }
  | .upstreamAborts => { k with upstreamAborts := min 4294967295 (k.upstreamAborts + 1) }

/-- No counter is past its limit (R168). -/
structure State.CounterInv (s : State) : Prop where
  flows : ∀ f, ∀ n ∈ s.flowValues f, n ≤ 4294967295
  globals : ∀ n ∈ s.globalValues, n ≤ 4294967295

/-! ### The part -/

/-- The part is consistent: every block's condition holds. -/
structure State.Inv (s : State) : Prop where
  store : s.StoreInv
  memory : s.MemoryInv
  table : s.TableInv
  receiver : s.ReceiverInv
  slot : s.SlotInv
  frames : s.FrameInv
  places : s.PlaceInv
  runs : s.RunInv
  turn : s.TurnInv
  chains : s.ChainInv
  deadlines : s.DeadlineInv
  cadence : s.CadenceInv
  holdWait : s.HoldWaitInv
  transmitter : s.TransmitterInv
  management : s.ManagementInv
  events : s.EventInv
  counters : s.CounterInv

/-! ### Order on the line (R95) and the bytes of located frames (R58, R64) -/

/-- The descriptors of a list that are classified ORDERED and of the flow given. -/
def State.orderedOf (s : State) (f : Byte) (l : List DescId) : List DescId :=
  l.filter fun d =>
    match s.desc? d with
    | none => false
    | some fr => fr.isOrdered && decide (fr.flow = f)

/-- The descriptor being sent, if any. -/
def State.sendingDesc (s : State) : List DescId :=
  match s.sending with
  | some (.forward d) => [d]
  | some .response => []
  | some .token => []
  | some (.notice _ _) => []
  | none => []

/-- The ORDERED frames of a flow that have still to leave, in the order in which they will: the one being
sent, those of the forward queue, those of the chain. -/
def State.leaving (s : State) (f : Byte) : List DescId :=
  s.orderedOf f (s.sendingDesc ++ s.egress.forwardQueue) ++ s.chain f

/-- The ORDERED frames of a flow leave in the order of their frame-ends (R95). -/
def State.OrderInv (s : State) : Prop :=
  ∀ f, (s.leaving f).Pairwise fun a b => s.stampOf a < s.stampOf b

/-- The syndromes of a frame that waits for a locator, or is being located, are those of the payload in its
cells, and its flow is corrected under a strength its header agrees with (R57, R60, R64). -/
def State.SyndromeInv (s : State) : Prop :=
  ∀ d fr, s.desc? d = some fr → fr.place = .queued ∨ fr.place = .locating →
    fr.syndromes = some (syndromesOf fr.entry.strength.t
      (readPayload s.store.memory fr.cells (headerLength fr.header))) ∧
    (fr.entry.action = .correct ∨ fr.entry.action = .strip) ∧
    codeFault fr.entry fr.header = false

/-! ### Accounting (R176) -/

/-- P of R176: the descriptors that are not FREE, of role DATA, whose header names the flow. -/
def State.present (s : State) (f : Byte) : Nat :=
  ((List.finRange 40).filter fun d =>
    match s.desc? d with
    | none => false
    | some fr => fr.isData && decide (fr.flow = f)).length

/-- The accounting of a flow, `p0` frames of which were present at the last clear of its counters (R176). -/
def State.AccountedWith (s : State) (f : Byte) (p0 : Nat) : Prop :=
  (s.flowCounters f).arrived + p0 = (s.flowCounters f).sent + (s.flowCounters f).dropped + s.present f

/-- The number of descriptors in a place. -/
def State.countInPlace (s : State) (p : Place) : Nat :=
  ((List.finRange 40).filter fun d =>
    match s.desc? d with
    | none => false
    | some fr => decide (fr.place = p)).length

/-! ### What an event leaves as it was -/

/-- The pieces of the part that a frame condition names. -/
inductive Piece where
  | receiver
  | nodeAddress
  | cells
  | freeLists
  | descriptors
  | holdOut
  | table
  | codeUnit
  | locator
  | chains
  | nextStamp
  | forwardQueue
  | transmitter
  | holdIn
  | holdWait
  | permission
  | cadence
  | timing
  | replay
  | claim
  | responses
  | pendingReset
  | events
  | flowCounters
  | globalCounters
  | clock
  deriving DecidableEq, Repr

/-- A piece is the same in two states. The cells are compared byte by byte. -/
def State.samePiece (s t : State) : Piece → Prop
  | .receiver => t.receiver = s.receiver
  | .nodeAddress => t.nodeAddress = s.nodeAddress
  | .cells => ∀ a, readByte t.store.memory a = readByte s.store.memory a
  | .freeLists => t.store.freeCells = s.store.freeCells ∧ t.store.freeDescs = s.store.freeDescs
  | .descriptors => ∀ d, t.desc? d = s.desc? d
  | .holdOut => t.store.holdOut = s.store.holdOut
  | .table => t.table = s.table
  | .codeUnit => t.codeUnit = s.codeUnit
  | .locator => t.locator = s.locator
  | .chains => ∀ f, t.chain f = s.chain f
  | .nextStamp => t.order.nextStamp = s.order.nextStamp
  | .forwardQueue => t.egress.forwardQueue = s.egress.forwardQueue
  | .transmitter => t.egress.transmitter = s.egress.transmitter
  | .holdIn => t.egress.holdIn = s.egress.holdIn
  | .holdWait => t.egress.holdWait = s.egress.holdWait
  | .permission => t.egress.permission = s.egress.permission
  | .cadence =>
    t.egress.cadenceDue = s.egress.cadenceDue ∧ t.egress.debt = s.egress.debt ∧
      t.egress.overdue = s.egress.overdue ∧ t.egress.tokenSequence = s.egress.tokenSequence
  | .timing => t.egress.timing = s.egress.timing
  | .replay => t.management.replay = s.management.replay
  | .claim => t.management.claim = s.management.claim
  | .responses => t.management.responses = s.management.responses
  | .pendingReset => t.management.pendingReset = s.management.pendingReset
  | .events => t.events = s.events
  | .flowCounters => ∀ f, t.flowCounters f = s.flowCounters f
  | .globalCounters => t.counters.globals = s.counters.globals
  | .clock => t.now = s.now

/-- Every piece but those listed is the same in two states, and so is the queue of waiting commands. -/
def State.SameBut (s t : State) (changed : List Piece) : Prop :=
  t.pending = s.pending ∧ ∀ p, p ∉ changed → s.samePiece t p

/-- The pieces that no event but an expiry or a completion changes, the hold-wait timer apart: R117 lets
any event that brings or takes a waiting candidate start or stop that timer. -/
def State.SameButTimer (s t : State) (changed : List Piece) : Prop :=
  s.SameBut t (.holdWait :: changed)

/-- Every descriptor but the one named is the same in two states. -/
def State.OtherDescs (s t : State) (d : DescId) : Prop := ∀ e, e ≠ d → t.desc? e = s.desc? e

/-- Every byte of memory but the frame bytes from `first` on, `count` of them, of the cells given reads in
the second state as in the first (R20). -/
def State.CellsKeptBut (s t : State) (cells : List CellId) (first count : Nat) : Prop :=
  ∀ a, (∀ k, first ≤ k → k < first + count → frameAddress cells k ≠ some a) →
    readByte t.store.memory a = readByte s.store.memory a

/-- A flow's counters are changed as given and every other flow's are as they were. -/
def State.FlowCounted (s t : State) (f : Byte) (change : FlowCounters → FlowCounters) : Prop :=
  ∀ g, t.flowCounters g = if g = f then change (s.flowCounters g) else s.flowCounters g

/-- The descriptor has gone back to the store (R31): it is FREE, it and its cells stand at the tails of
the free lists, and HOLD_OUT has been evaluated (R33). -/
structure State.Freed (s t : State) (d : DescId) (fr : Descriptor) : Prop where
  free : t.desc? d = none
  descs : t.store.freeDescs = s.store.freeDescs ++ [d]
  cells : t.store.freeCells = s.store.freeCells ++ fr.cells
  holdOut : t.store.holdOut =
    nextHoldOut s.store.holdOut t.store.freeCells.length t.store.freeDescs.length

/-- The free lists and HOLD_OUT are as they were. -/
def State.StoreKept (s t : State) : Prop :=
  t.store.freeDescs = s.store.freeDescs ∧ t.store.freeCells = s.store.freeCells ∧
    t.store.holdOut = s.store.holdOut

/-- The effect of a count by 1 against DATA's flow alone: none for a frame of another role (R31). -/
def Descriptor.countIf (fr : Descriptor) (c : FlowCounter) (k : FlowCounters) : FlowCounters :=
  if fr.isData then k.count c 1 else k

/-! ### Raises (R154, R157, R158) -/

/-- A class has been raised once between two states: its raw count is one higher, up to its limit; if it is
enabled and its entry is IDLE or EXHAUSTED a notice has been issued, with the sequence the unit held; and
every other class is as it was. -/
structure State.RaisedOnce (s t : State) (c : EventClass) : Prop where
  raw : (t.classState c).raw = min 65535 ((s.classState c).raw + 1)
  enabled : (t.classState c).enabled = (s.classState c).enabled
  issued : (s.classState c).enabled = true → (s.classState c).entry.takesNotice = true →
    (t.classState c).entry = .pendingSend s.events.noticeSequence none 0 s.events.nextAge ∧
      t.events.noticeSequence = s.events.noticeSequence + 1 ∧
      t.events.nextAge = s.events.nextAge + 1
  kept : ¬((s.classState c).enabled = true ∧ (s.classState c).entry.takesNotice = true) →
    (t.classState c).entry = (s.classState c).entry ∧
      t.events.noticeSequence = s.events.noticeSequence ∧ t.events.nextAge = s.events.nextAge
  others : ∀ e, e ≠ c → t.classState e = s.classState e

/-! ### Requests (R125, R126, R134) -/

/-- The kind byte and the body of the request rows (chapter 11.2). -/
def requestOf : Instr → Option (Byte × List Byte)
  | .probe body => some (0x01#8, body)
  | .claim body => some (0x02#8, body)
  | .release body => some (0x03#8, body)
  | .readEntry body => some (0x04#8, body)
  | .writeEntry body => some (0x05#8, body)
  | .commit body => some (0x06#8, body)
  | .readFrames body => some (0x07#8, body)
  | .readCounters body => some (0x08#8, body)
  | .readGlobals body => some (0x09#8, body)
  | .clearCounters body => some (0x0A#8, body)
  | .readStatus body => some (0x0B#8, body)
  | .setTiming body => some (0x0C#8, body)
  | .setEvents body => some (0x0D#8, body)
  | .ackNotice body => some (0x0E#8, body)
  | .resetPart body => some (0x0F#8, body)
  | .unknownKind kind body => some (kind, body)
  | .powerOn _ => none
  | .holdInAssertion => none
  | .holdInRelease => none
  | .acquisition => none
  | .loss _ => none
  | .headerArrival _ => none
  | .frameCutShort _ => none
  | .abort _ _ => none
  | .frameEnd _ => none
  | .pickup _ => none
  | .locatorCompletionList _ => none
  | .locatorCompletionFailed _ => none
  | .deadlineExpiry _ => none
  | .transmissionStart => none
  | .transmissionCompletion _ => none
  | .cadenceExpiry => none
  | .holdWaitExpiry => none
  | .leaseExpiry => none
  | .retryTimerExpiry _ => none
  | .copyCompletion => none
  | .startDelimiter _ => none
  | .skipEnd _ => none

/-- The receive slot holds a REQUEST frame for a payload whose body has `n` bytes, behind the kind byte and
before the two check bytes (R125, R179). -/
structure State.RequestInSlot (s : State) (d : DescId) (fr : Descriptor) (n : Nat) : Prop where
  slot : s.receiver.reception = .receiving d
  desc : s.desc? d = some fr
  role : fr.role = .request
  length : headerLength fr.header = n + 3

/-- Acceptance takes a request of this address and sequence: none of the first four tests of R126 holds. -/
structure State.Takes (s : State) (address sequence : Byte) : Prop where
  room : s.management.responses.length < 4
  noReset : s.management.pendingReset = none
  fresh : ∀ r, s.management.replay = some r → r.requester = address →
    128 ≤ (r.sequence - sequence).toNat

/-- The receive slot has been emptied at a frame-end, and the frame-end counted (R15, R24). -/
structure State.SlotEnded (s t : State) : Prop where
  receiver : t.receiver = { s.receiver with reception := .between, currentHeader := none }
  codeUnit : t.codeUnit = .idle
  nextStamp : t.order.nextStamp = s.order.nextStamp + 1

/-- A frame of `n` payload bytes has gone from the receive slot to the tail of the forward queue, with the
header given; nothing has been released (R13, R107). -/
structure State.SlotForwarded (s t : State) (d : DescId) (fr : Descriptor) (h : HeaderBytes) : Prop where
  desc : t.desc? d = some { fr with
    header := h, place := .forward, stamp := some s.order.nextStamp, deadline := none }
  queue : t.egress.forwardQueue = s.egress.forwardQueue ++ [d]
  store : s.StoreKept t

/-- The payload of a frame has been written to its cells, behind the header, and no other byte has changed
(R20). The bytes read back as written where the memory is canonical and the frame's cells, without repeats,
reach to them. -/
structure State.PayloadStored (s t : State) (fr : Descriptor) (bytes : List Byte) : Prop where
  others : s.CellsKeptBut t fr.cells 8 bytes.length
  stored : s.MemoryInv → fr.cells.Nodup → 8 + bytes.length ≤ 64 * fr.cells.length →
    readPayload t.store.memory fr.cells bytes.length = bytes

/-- The frame of a request, with the payload given, has ended: its payload stands in its cells, and it has
been freed, or forwarded if it was a broadcast (R14). -/
structure State.RequestEnded (s t : State) (d : DescId) (fr : Descriptor) (payload : List Byte) :
    Prop where
  slot : s.SlotEnded t
  others : s.OtherDescs t d
  bytes : s.PayloadStored t fr payload
  own : fr.header.destination ≠ 255 →
    s.Freed t d fr ∧ t.egress.forwardQueue = s.egress.forwardQueue
  broadcast : fr.header.destination = 255 → s.SlotForwarded t d fr fr.header

/-- The pieces of the state that the end of a request's frame and the queueing of an answer change. -/
def requestPieces : List Piece :=
  [.receiver, .codeUnit, .cells, .freeLists, .descriptors, .holdOut, .nextStamp, .forwardQueue,
    .responses]

/-- The response of a taken request of the slot's frame. -/
def answerOf (fr : Descriptor) (kind sequence : Byte) (st : Status) (results : List Byte)
    (resetMark : Bool := false) : QueuedResponse :=
  ⟨fr.header.source, ⟨kind, sequence, st, results⟩, resetMark⟩

/-- A request of the slot's frame, of this kind, manager sequence and arguments, was taken and has been answered:
its response stands in the replay slot and at the tail of the response queue, its frame has ended, and
beside that only the pieces named have changed (R130, R134). -/
structure State.Answered (s t : State) (d : DescId) (fr : Descriptor) (kind sequence : Byte)
    (args : List Byte) (st : Status) (results : List Byte) (changed : List Piece)
    (resetMark : Bool := false) : Prop where
  replay : t.management.replay = some ⟨fr.header.source, sequence, ⟨kind, sequence, st, results⟩⟩
  queued : t.management.responses =
    s.management.responses ++ [answerOf fr kind sequence st results resetMark]
  ended : s.RequestEnded t d fr (requestPayload kind (sequence :: args))
  frame : s.SameButTimer t (.replay :: requestPieces ++ changed)

/-! ### The outcome of a DATA frame at its frame-end (R60) -/

/-- The outcomes. -/
inductive DataOutcome where
  | ready
  | toLocate
  | failed
  deriving DecidableEq, Repr

/-- The table of R60: the outcome from the snapshot, the header and the payload. -/
def outcomeOf (e : FlowEntry) (h : HeaderBytes) (payload : List Byte) : DataOutcome :=
  if codeFault e h then .failed
  else
    let clean := isClean (syndromesOf e.strength.t payload)
    match e.action with
    | .forward => .ready
    | .discard => .ready
    | .encode => .ready
    | .check => if clean then .ready else .failed
    | .correct => if clean then .ready else .toLocate
    | .strip => if clean then .ready else .toLocate

/-- The receive slot holds a DATA frame, whose payload has the length its header names, and the code unit
serves it (R56). -/
structure State.DataInSlot (s : State) (d : DescId) (fr : Descriptor) (snap : Snapshot)
    (payload : List Byte) : Prop where
  slot : s.receiver.reception = .receiving d
  desc : s.desc? d = some fr
  role : fr.role = .data snap
  unit : s.codeUnit = codeUnitFor fr.role fr.header
  length : payload.length = headerLength fr.header
  kept : snap.entry.action ≠ .discard

/-- The payload bytes an action leaves in the cells at frame-end: an ENCODE frame's check bytes stand behind
its payload (R59). -/
def storedPayload (e : FlowEntry) (payload : List Byte) : List Byte :=
  if e.action = .encode then payload ++ checkBytesOf e.strength.t payload else payload

/-- What an outcome counts against the frame's flow (R60, R61). -/
def DataOutcome.count (o : DataOutcome) (k : FlowCounters) : FlowCounters :=
  match o with
  | .ready => k.count .clean 1
  | .toLocate => k
  | .failed => k.count .codeFailed 1

/-- The frame finds no chain to wait behind: its flow is FREE, or its flow's chain is empty (R87, R91). -/
def State.goesOn (s : State) (fr : Descriptor) : Prop :=
  fr.entry.order = .free ∨ s.chain fr.flow = []

/-- The frame joins its flow's chain without overflowing (R90). -/
def State.joins (s : State) (fr : Descriptor) : Prop :=
  fr.entry.order = .ordered ∧ (s.chain fr.flow).length + 1 ≤ fr.entry.holdDepth

/-- The chain of one flow is as given and every other chain is as it was. -/
def State.ChainIs (s t : State) (f : Byte) (l : List DescId) : Prop :=
  ∀ g, t.chain g = if g = f then l else s.chain g

/-- The pieces that the frame-end of a DATA frame changes whatever its outcome. -/
def dataPieces : List Piece := [.receiver, .codeUnit, .cells, .descriptors, .nextStamp, .flowCounters]


/-! ### The receiver -/

/-- The payload bytes that had arrived of a frame stand in its cells, L of them at most, and no other byte
has changed (R4, R20). -/
def State.ArrivedStored (s t : State) (fr : Descriptor) (received : List Byte) : Prop :=
  s.PayloadStored t fr (received.take (headerLength fr.header))

/-- The frame in the receive slot, of which the payload bytes given had arrived, has been aborted (R6):
descriptor and cells are back in the store, the cells hold those bytes, UPSTREAM_ABORTS is counted, DATA has
counted DROPPED, and the slot and the code unit are empty. -/
structure State.Aborted (s t : State) (d : DescId) (fr : Descriptor) (received : List Byte)
    (next : Reception) : Prop where
  freed : s.Freed t d fr
  others : s.OtherDescs t d
  bytes : s.ArrivedStored t fr received
  flow : s.FlowCounted t fr.flow (fr.countIf .dropped)
  aborts : t.counters.globals = s.counters.globals.count .upstreamAborts
  reception : t.receiver.reception = next
  header : t.receiver.currentHeader = none
  lastToken : t.receiver.lastToken = s.receiver.lastToken
  codeUnit : t.codeUnit = .idle

/-- The pieces an abort changes. -/
def abortPieces : List Piece :=
  [.receiver, .cells, .freeLists, .descriptors, .holdOut, .codeUnit, .flowCounters, .globalCounters]

/-- The role under which a frame with this header would be kept, after R9 and R43; none for a frame that is
stripped, consumed or discarded. -/
def State.keptRole (s : State) (h : HeaderBytes) : Option Role :=
  match fateOf s.nodeAddress h with
  | .loopStripped => none
  | .tokenConsumed => none
  | .classified =>
    if (s.table.activeEntry h.flow).action = .discard then none
    else some (.data ⟨s.table.activeEntry h.flow, s.table.generation⟩)
  | .kept role => some role

/-- The counts of a kept frame's header arrival against its flow: ARRIVED for DATA, none for another role
(R42). -/
def arrivalCount (role : Role) (k : FlowCounters) : FlowCounters :=
  match role with
  | .data _ => k.count .arrived 1
  | .forwardedOther => k
  | .request => k
  | .enumeration => k

/-- The counts of a refused frame's header arrival against its flow: ARRIVED and DROPPED for DATA, none for
another role (R12, R42). -/
def refusalCount (role : Role) (k : FlowCounters) : FlowCounters :=
  match role with
  | .data _ => (k.count .arrived 1).count .dropped 1
  | .forwardedOther => k
  | .request => k
  | .enumeration => k

/-! ### The code (R54, R62) -/

/-- The product of two symbols' polynomials, not reduced: one shifted copy of the first for each power of the
second (R54). -/
def polynomialProduct (a b : Byte) : BitVec 16 :=
  (List.range 8).foldl (fun acc i => if b.getLsbD i then acc ^^^ (a.zeroExtend 16 <<< i) else acc) 0

/-- A polynomial of degree below 15 reduced modulo x⁸ + x⁴ + x³ + x² + 1, from the highest power down (R54). -/
def reduceSymbol (p : BitVec 16) : Byte :=
  (((List.range 7).map (fun i => 14 - i)).foldl
    (fun r k => if r.getLsbD k then r ^^^ (0x11D#16 <<< (k - 8)) else r) p).truncate 8

/-- A payload with the error values of a list added at their positions (R62). -/
def withErrors (p : List Byte) (errors : List ErrorEntry) : List Byte :=
  errors.foldl (fun q e => q.modify e.position (· ^^^ e.value)) p

/-! ### Frames handed back by the locator, and expiries -/

/-- The frame has the failure policy DROP (R99). -/
def State.underDrop (s : State) (d : DescId) : Bool :=
  match s.desc? d with
  | none => false
  | some fr => decide (fr.entry.policy = .drop)

/-- The cells of a descriptor, none if it is FREE. -/
def State.cellsOf (s : State) (d : DescId) : List CellId :=
  match s.desc? d with
  | none => []
  | some fr => fr.cells

/-- A frame handed back by the locator has gone where R91, R93 and R94 send it, as the descriptor `fr'`, or
has been freed: the head of its chain goes to the forward queue and releases the HELD members behind it; a
member behind the head waits HELD; a frame with no chain goes to the forward queue. -/
structure State.HandedBack (s t : State) (d : DescId) (fr fr' : Descriptor) (freed : Bool) : Prop where
  head : (s.chain fr.flow).head? = some d →
    let released := (s.chain fr.flow).tail.takeWhile s.isHeld
    s.ChainIs t fr.flow ((s.chain fr.flow).tail.dropWhile s.isHeld) ∧
    t.egress.forwardQueue = s.egress.forwardQueue ++ (if freed then [] else [d]) ++ released ∧
    (∀ x ∈ released,
      t.desc? x = (s.desc? x).map fun y => { y with place := .forward, deadline := none }) ∧
    ∀ x, x ≠ d → x ∉ released → t.desc? x = s.desc? x
  behind : d ∈ s.chain fr.flow → (s.chain fr.flow).head? ≠ some d →
    s.ChainIs t fr.flow (if freed then (s.chain fr.flow).filter (· ≠ d) else s.chain fr.flow) ∧
    t.egress.forwardQueue = s.egress.forwardQueue ∧ s.OtherDescs t d ∧
    (freed = false → t.desc? d = some { fr' with place := .held })
  alone : d ∉ s.chain fr.flow →
    (∀ g, t.chain g = s.chain g) ∧ s.OtherDescs t d ∧
    t.egress.forwardQueue = s.egress.forwardQueue ++ (if freed then [] else [d])
  gone : freed = true → s.Freed t d fr
  kept : freed = false → s.StoreKept t
  sent : freed = false → (s.chain fr.flow).head? = some d ∨ d ∉ s.chain fr.flow →
    t.desc? d = some { fr' with place := .forward, deadline := none }

/-! ### The arbiter (R108, R109) -/

/-- A non-token candidate may start (R109). -/
def State.mayStart (s : State) : Prop :=
  s.egress.overdue = false ∧ (s.egress.holdIn = false ∨ s.egress.permission = true)

/-- No notice waits (R108). -/
def State.noNotice (s : State) : Prop := ∀ c, (s.classState c).entry.waitingAge = none

/-- The frame that starts now: the header given, with its check computed afresh, the payload, and the line
time of both with two delimiters (R104, R105). -/
def State.frameNow (s : State) (source : TxSource) (h : HeaderBytes) (payload : List Byte) :
    Transmission where
  source := source
  header := { h with check := headerCrc (checkedBytes h) }
  payload := payload
  endsAt := s.now + (8 + payload.length + 2) * 8

/-! ### A reset taking effect (R19, R35, R82, R102, R122, R148) -/

/-- What FLUSH and RESTART do alike, with the payload bytes given arrived of the frame in the receive slot,
if there is one. -/
structure State.Flushed (s t : State) (received : List Byte) : Prop where
  descs : ∀ d, t.desc? d = none
  freeDescs : t.store.freeDescs = List.finRange 40
  freeCells : t.store.freeCells = List.finRange 128
  holdOut : t.store.holdOut = false
  cells : (∀ d, s.receiver.reception ≠ .receiving d) →
    ∀ a, readByte t.store.memory a = readByte s.store.memory a
  arrived : ∀ d fr, s.receiver.reception = .receiving d → s.desc? d = some fr →
    s.ArrivedStored t fr received
  locator : t.locator = ⟨[], none, none, none⟩
  chains : ∀ f, t.chain f = []
  forwardQueue : t.egress.forwardQueue = []
  transmitter : t.egress.transmitter = none
  debt : t.egress.debt = 0
  overdue : t.egress.overdue = false
  permission : t.egress.permission = false
  cadenceDue : t.egress.cadenceDue = t.now + Config.usec t.egress.timing.period
  holdIn : t.egress.holdIn = s.egress.holdIn
  holdWait : ∀ due, t.egress.holdWait = some due →
    due = t.now + Config.usec t.egress.timing.holdLimit
  responses : t.management.responses = []
  pendingReset : t.management.pendingReset = none
  replay : t.management.replay = s.management.replay
  nodeAddress : t.nodeAddress = s.nodeAddress
  receiver : t.receiver = { s.receiver with
    currentHeader := none
    reception := if ∃ d, s.receiver.reception = .receiving d then .skipping else s.receiver.reception }
  codeUnit : t.codeUnit = .idle
  pending : t.pending = s.pending

/-- The command is the transmission completion in which a pending reset of the scope given takes effect:
after the completion's own effect nothing is outstanding any more (R147). -/
def State.ResetTakesEffect (s : State) (c : Instr) (scope : ResetScope) : Prop :=
  ∃ received tx p, c = .transmissionCompletion received ∧ s.egress.transmitter = some tx ∧
    s.management.pendingReset = some p ∧ p.scope = scope ∧
    (p.responseOutstanding = false ∨ tx.source = .response ∧
      ∃ q rest, s.management.responses = q :: rest ∧ q.resetMark = true) ∧
    (p.copyOutstanding = none ∨ ∃ d fr, tx.source = .forward d ∧ s.desc? d = some fr ∧
      fr.role = .request ∧ p.copyOutstanding = some d)

/-! ### Refused and replayed requests (R126, R134, R135) -/

/-- A request that was not taken has been answered: the entry given is at the tail of the response queue, the
request's frame has ended, and the replay slot and every other piece are as they were. -/
structure State.Replied (s t : State) (d : DescId) (fr : Descriptor) (payload : List Byte)
    (q : QueuedResponse) : Prop where
  queued : t.management.responses = s.management.responses ++ [q]
  ended : s.RequestEnded t d fr payload
  frame : s.SameButTimer t requestPieces

/-- The argument bytes of the fifteen kinds (chapter 11.2). -/
def argumentBytes (kind : Byte) : Option Nat :=
  match kind.toNat with
  | 1 => some 0
  | 2 => some 1
  | 3 => some 0
  | 4 => some 2
  | 5 => some 8
  | 6 => some 0
  | 7 => some 0
  | 8 => some 1
  | 9 => some 0
  | 10 => some 2
  | 11 => some 0
  | 12 => some 7
  | 13 => some 2
  | 14 => some 2
  | 15 => some 1
  | _ => none

/-- The kinds that need the claim: WRITE ENTRY, COMMIT, CLEAR COUNTERS, SET TIMING, SET EVENTS and RESET PART
(R135). -/
def needsClaim (kind : Byte) : Bool := [5, 6, 10, 12, 13, 15].contains kind.toNat

/-! ### Requests that are executed, and what they or an ENUM change -/

/-- The command ends the frame of a request of this kind with these arguments, be it as the row of the kind
or as the frame-end with its payload, and the request is taken and passes the claim check (R134, R135). -/
def State.Executes (s : State) (c : Instr) (kind : Byte) (args : List Byte) : Prop :=
  ∃ d fr sequence,
    (requestOf c = some (kind, sequence :: args) ∨
      c = .frameEnd (requestPayload kind (sequence :: args))) ∧
    s.RequestInSlot d fr (args.length + 1) ∧ s.Takes fr.header.source sequence ∧
    (needsClaim kind = true → ∃ k, s.management.claim = some k ∧ k.holder = fr.header.source)

/-- The command executes a CLEAR COUNTERS that names the flow, or ALL (R143). -/
def State.ClearsFlow (s : State) (c : Instr) (f : Byte) : Prop :=
  ∃ selector g, s.Executes c 0x0A [selector, g] ∧ (selector = 1 ∨ selector = 0 ∧ g = f)

/-- The command executes a COMMIT that swaps the banks (R48). -/
def State.Swaps (s : State) (c : Instr) : Prop :=
  s.Executes c 0x06 [] ∧ s.table.copyInFlight = false

/-- The command ends a well-formed ENUM that offers an unassigned part this address (R17, R18). -/
def State.TakesAddress (s : State) (c : Instr) (a : Byte) : Prop :=
  s.nodeAddress = 0 ∧ 1 ≤ a.toNat ∧ a.toNat ≤ 254 ∧ c = .frameEnd (withPayloadCheck [a]) ∧
    ∃ d fr, s.receiver.reception = .receiving d ∧ s.desc? d = some fr ∧ fr.role = .enumeration ∧
      headerLength fr.header = 3

/-! ### The layouts of chapter 11, byte by byte -/

/-- The seven bytes of an entry (chapter 11.2). -/
def entryLayout (e : FlowEntry) : List Byte :=
  [match e.action with
    | .forward => 0x00
    | .discard => 0x01
    | .check => 0x02
    | .correct => 0x03
    | .strip => 0x04
    | .encode => 0x05,
    match e.strength with
    | .t0 => 0x00
    | .t1 => 0x01
    | .t2 => 0x02
    | .t4 => 0x04
    | .t8 => 0x08,
    match e.order with
    | .free => 0x00
    | .ordered => 0x01,
    BitVec.ofNat 8 e.holdDepth, BitVec.ofNat 8 (e.holdLimit / 256), BitVec.ofNat 8 e.holdLimit,
    match e.policy with
    | .drop => 0x00
    | .mark => 0x01]

/-- The code of a status (chapter 11.3). -/
def statusLayout : Status → Byte
  | .ok => 0x00
  | .badArg => 0x01
  | .unknown => 0x02
  | .busy => 0x03
  | .held => 0x04
  | .unclaimed => 0x05
  | .stale => 0x06

/-- The five timing parameters (chapter 11.2). -/
def timingLayout (tm : Timing) : List Byte :=
  [BitVec.ofNat 8 (tm.period / 256), BitVec.ofNat 8 tm.period, BitVec.ofNat 8 tm.dueThreshold,
    BitVec.ofNat 8 tm.overdueThreshold, BitVec.ofNat 8 (tm.holdLimit / 256), BitVec.ofNat 8 tm.holdLimit,
    BitVec.ofNat 8 tm.retryInterval]

/-- A READ FRAMES record: index, place, engine, flow, stored length, header length (R173, chapter 11.3). -/
def State.recordLayout (s : State) (d : DescId) (fr : Descriptor) : List Byte :=
  [BitVec.ofNat 8 d.val,
    match fr.place with
    | .receiving => 0x01
    | .queued => 0x02
    | .locating => 0x03
    | .held => 0x04
    | .forward => 0x05
    | .sending => 0x06,
    if fr.place = .locating then
      if s.engineDesc .engine0 = some d then 0x00
      else if s.engineDesc .engine1 = some d then 0x01 else 0xFF
    else 0xFF,
    fr.header.flow, BitVec.ofNat 8 fr.storedLength, fr.header.length]

/-- The READ FRAMES results: the number of records, and one for each descriptor that is not FREE, in
ascending order of index (R37, R173). -/
def State.listingLayout (s : State) : List Byte :=
  BitVec.ofNat 8 ((List.finRange 40).filter fun d => (s.desc? d).isSome).length ::
    (List.finRange 40).flatMap fun d =>
      match s.desc? d with
      | none => []
      | some fr => s.recordLayout d fr

/-- The twelve classes in the order of their numbers (R153). -/
def classLayout : List EventClass :=
  [.headerFault, .poolShort, .codeFailure, .chainOverflow, .deadlineExpired, .holdForced, .cadenceSlip,
    .upstreamDown, .upstreamUp, .leaseEnded, .addressTaken, .requestShed]

/-- The 46 bytes of the READ STATUS results (R174, chapter 11.3). -/
def State.statusLayout (s : State) : List Byte :=
  [s.nodeAddress, if s.receiver.link = .linkUp then 0x01 else 0x00] ++
  (match s.receiver.lastToken with
    | none => [0x00, 0x00, 0x00]
    | some r => [0x01, r.source, r.sequence]) ++
  (match s.management.claim with
    | none => [0x00, 0x00]
    | some c => [c.holder, BitVec.ofNat 8 (c.remaining s.now)]) ++
  [if s.table.active = .bankA then 0x00 else 0x01,
    BitVec.ofNat 8 (s.table.generation.toNat / 256), BitVec.ofNat 8 s.table.generation.toNat,
    if s.table.copyInFlight = true then 0x01 else 0x00,
    BitVec.ofNat 8 s.store.freeCells.length, BitVec.ofNat 8 s.store.freeDescs.length,
    if s.store.holdOut = true then 0x01 else 0x00, if s.egress.holdIn = true then 0x01 else 0x00,
    BitVec.ofNat 8 s.locator.queue.length,
    BitVec.ofNat 8 (([EngineId.engine0, .engine1].filter fun e => (s.engineRun e).isSome).length),
    BitVec.ofNat 8 s.egress.forwardQueue.length, BitVec.ofNat 8 s.egress.debt,
    if s.egress.overdue = true then 0x01 else 0x00, BitVec.ofNat 8 s.management.responses.length, 0x00] ++
  classLayout.flatMap fun c =>
      [BitVec.ofNat 8 ((s.classState c).raw / 256), BitVec.ofNat 8 (s.classState c).raw]

/-- The number of non-free descriptors of role DATA whose header names the flow and whose snapshot carries
another generation than the current one (R47). -/
def State.olderCount (s : State) (f : Byte) : Nat :=
  ((List.finRange 40).filter fun d =>
    match s.desc? d with
    | none => false
    | some fr =>
      match fr.role with
      | .data snap => decide (fr.header.flow = f ∧ snap.generation ≠ s.table.generation)
      | .forwardedOther => false
      | .request => false
      | .enumeration => false).length

/-- The READ ENTRY results: the entry, the generation and the older-frames count (R47, chapter 11.3). -/
def State.entryResultsLayout (s : State) (f : Byte) (e : FlowEntry) : List Byte :=
  entryLayout e ++ [BitVec.ofNat 8 (s.table.generation.toNat / 256),
    BitVec.ofNat 8 s.table.generation.toNat, BitVec.ofNat 8 (s.olderCount f)]

/-- A counter in four bytes, most significant first (chapter 11.3). -/
def counterLayout (n : Nat) : List Byte :=
  [BitVec.ofNat 8 (n / 2 ^ 24), BitVec.ofNat 8 (n / 2 ^ 16), BitVec.ofNat 8 (n / 2 ^ 8),
    BitVec.ofNat 8 n]

/-- An entry of the flow table is valid (R38, R39). -/
def FlowEntry.InRange (e : FlowEntry) : Prop :=
  (e.strength = .t0 ↔ e.action = .forward ∨ e.action = .discard) ∧
    1 ≤ e.holdDepth ∧ e.holdDepth ≤ 16 ∧ 10 ≤ e.holdLimit ∧ e.holdLimit ≤ 65535

/-- The timing parameters are in the ranges of R120; the retry interval counts units of 10 ms. -/
def Timing.InRange (tm : Timing) : Prop :=
  50 ≤ tm.period ∧ tm.period ≤ 10000 ∧ 10 ∣ tm.period ∧ 1 ≤ tm.dueThreshold ∧ tm.dueThreshold ≤ 7 ∧
    tm.dueThreshold < tm.overdueThreshold ∧ tm.overdueThreshold ≤ 8 ∧ 10 ≤ tm.holdLimit ∧
    tm.holdLimit ≤ 65535 ∧ 1 ≤ tm.retryInterval ∧ tm.retryInterval ≤ 255

/-! ### The checks of R178 -/

/-- A check register after one bit: shifted up by one place, and added to the polynomial if the bit shifted
out, added to the bit taken, is 1 (R178). -/
def registerAfterBit {w : Nat} (poly reg : BitVec w) (bit : Bool) : BitVec w :=
  if reg.getLsbD (w - 1) != bit then reg <<< 1 ^^^ poly else reg <<< 1

/-- A check register after one byte, most significant bit first (R178). -/
def registerAfterByte {w : Nat} (poly reg : BitVec w) (b : Byte) : BitVec w :=
  [b.getLsbD 7, b.getLsbD 6, b.getLsbD 5, b.getLsbD 4, b.getLsbD 3, b.getLsbD 2, b.getLsbD 1,
    b.getLsbD 0].foldl (registerAfterBit poly) reg

end Sys2Proof.Machine
end

