-- ==== Sys2Proof/Certificates/Slice0/Obligations.lean ====
section
/-! DEFINITION. The statements about the part, each taken from the rules of spec/ named in its docstring.
`∃ t, exec c s = .next t ∧ …` says that command `c` completes in state `s` and what it leaves. -/

section

open Sys2Proof Sys2Proof.Machine

/-! ### The machine -/

/-- A step takes the command at the front of the queue and runs it on the part with the queue's rest. On an
empty queue 10 ns pass and nothing else does: the model's choice (log entry 2). -/
def Obligations.StepRunsTheFrontCommand : Prop :=
  (∀ (c : Instr) (s : State), step { s with pending := c :: s.pending } = exec c s) ∧
  ∀ s : State, s.pending = [] → step s = .next { s with now := s.now + 1 }

/-- The part after power-on: the values R19, R36, R51, R56, R82, R102, R123, R151, R166 and R168 give each
block, with HOLD_IN sampled from the pin (R116). -/
def Obligations.PowerOnResetsEveryBlock : Prop :=
  ∀ (level : Bool) (s : State), ∃ t, exec (.powerOn level) s = .next t ∧ t.pending = s.pending ∧
    t.receiver = ⟨.linkDown, .between, none, none⟩ ∧ t.nodeAddress = 0 ∧ t.codeUnit = .idle ∧
    (∀ d, t.desc? d = none) ∧ t.store.freeDescs = List.finRange 40 ∧
    t.store.freeCells = List.finRange 128 ∧ t.store.holdOut = false ∧
    (∀ f, t.table.activeEntry f = ⟨.forward, .t0, .free, 4, 1000, .drop⟩ ∧
      t.table.stagedEntry f = ⟨.forward, .t0, .free, 4, 1000, .drop⟩) ∧
    t.table.active = .bankA ∧ t.table.generation = 0 ∧ t.table.copyInFlight = false ∧
    t.locator = ⟨[], none, none, none⟩ ∧ (∀ f, t.chain f = []) ∧
    t.egress.forwardQueue = [] ∧ t.egress.transmitter = none ∧ t.egress.holdIn = level ∧
    t.egress.holdWait = none ∧ t.egress.permission = false ∧
    t.egress.cadenceDue = t.now + Config.usec 1000 ∧ t.egress.debt = 0 ∧ t.egress.overdue = false ∧
    t.egress.tokenSequence = 0 ∧ t.egress.timing = ⟨1000, 2, 6, 500, 10⟩ ∧
    t.management = ⟨none, none, [], none⟩ ∧
    (∀ c, (t.classState c).raw = 0 ∧ (t.classState c).entry = .idle ∧
      ((t.classState c).enabled = true ↔ c = .addressTaken)) ∧
    t.events.noticeSequence = 0 ∧
    (∀ f, t.flowCounters f = FlowCounters.zero ∧ ∀ n ∈ t.flowValues f, n = 0) ∧
    t.counters.globals = GlobalCounters.zero ∧ ∀ n ∈ t.globalValues, n = 0

/-- The state after power-on with HOLD_IN released is `State.reset`, and it is consistent. -/
def Obligations.ResetStateIsConsistent : Prop :=
  exec (.powerOn false) State.reset = .next State.reset ∧
  State.reset.Inv ∧ State.reset.OrderInv ∧ State.reset.SyndromeInv ∧ ∀ f, State.reset.AccountedWith f 0

/-- A command whose event cannot occur in the state it meets changes nothing: the model's choice (log entry
7), made where R1, R2, R71, R79, R92, R106, R110, R119, R136 and R161 say that there is no such event. -/
def Obligations.EventsThatCannotOccurChangeNothing : Prop :=
  ∀ s : State,
    (s.receiver.link = .linkUp → exec .acquisition s = .next s) ∧
    (s.receiver.link = .linkDown → ∀ p, exec (.loss p) s = .next s ∧
      exec (.startDelimiter p) s = .next s) ∧
    (s.receiver.reception ≠ .beforeHeader → ∀ h y, exec (.headerArrival h) s = .next s ∧
      exec (.frameCutShort y) s = .next s) ∧
    (s.receiver.reception ≠ .skipping → ∀ y, exec (.skipEnd y) s = .next s) ∧
    ((∀ d, s.receiver.reception ≠ .receiving d) → ∀ y p, exec (.abort y p) s = .next s ∧
      exec (.frameEnd p) s = .next s ∧ ∀ i, (requestOf i).isSome = true → exec i s = .next s) ∧
    (s.locator.queue = [] → ∀ e, exec (.pickup e) s = .next s) ∧
    (∀ e, s.engineRun e ≠ none → exec (.pickup e) s = .next s) ∧
    (∀ e x, s.locator.firstFreed = some x → x ≠ e → exec (.pickup e) s = .next s) ∧
    (∀ e, s.engineRun e = none → exec (.locatorCompletionList e) s = .next s ∧
      exec (.locatorCompletionFailed e) s = .next s) ∧
    (∀ d, (∀ fr, s.desc? d = some fr → fr.deadline = none) → exec (.deadlineExpiry d) s = .next s) ∧
    (s.egress.transmitter ≠ none → exec .transmissionStart s = .next s) ∧
    (s.egress.transmitter = none → ∀ p, exec (.transmissionCompletion p) s = .next s) ∧
    (s.egress.holdWait = none → exec .holdWaitExpiry s = .next s) ∧
    (s.management.claim = none → exec .leaseExpiry s = .next s) ∧
    (∀ c, (∀ q n r due, (s.classState c).entry ≠ .awaitingAck q n r due) →
      exec (.retryTimerExpiry c) s = .next s) ∧
    (s.table.copyInFlight = false → exec .copyCompletion s = .next s)

/-! ### What every command keeps -/

/-- The memory keeps its canonical form, addresses strictly rising and no entry that an unlisted address
would read as (the model's representation); and the part keeps no invalid entry in either bank, so a snapshot
always holds valid settings (R39). An address reads as the entry of that address, and as 00h with none (log
entry 1). -/
def Obligations.EveryCommandKeepsTheMemoryAndTheEntries : Prop :=
  (∀ (c : Instr) (s t : State), exec c s = .next t →
    (s.MemoryInv → t.MemoryInv) ∧ (s.TableInv → t.TableInv)) ∧
  (∀ m : Memory, memoryWf m = true ↔
    m.Pairwise (fun x y => x.1 < y.1) ∧ ∀ x ∈ m, x.2 ≠ readByte [] x.1) ∧
  ∀ (m : Memory) (a : Nat), memoryWf m = true →
    (∀ b, (a, b) ∈ m → readByte m a = b) ∧ ((∀ b, (a, b) ∉ m) → readByte m a = 0)

/-- The cadence debt is always between 0 and 8, and the part is OVERDUE only while the debt is at least 2;
the timing parameters stay in the ranges of R120. -/
def Obligations.EveryCommandKeepsTheCadence : Prop :=
  ∀ (c : Instr) (s t : State), s.CadenceInv → exec c s = .next t → t.CadenceInv

/-- An entry is other than IDLE only if its class is enabled and its raw count is above 0, and a sent count
never exceeds the raw count (R154, R156, R163); every counter is a whole number from 0 to 4294967295, and a
count raises its counter alone and stops there (R168). A raise counts its class once and issues a notice from
IDLE or EXHAUSTED if the class is enabled (R154, R157, R158). -/
def Obligations.EveryCommandKeepsTheNoticeTableAndTheCounters : Prop :=
  (∀ (c : Instr) (s t : State), exec c s = .next t →
    (s.EventInv → t.EventInv) ∧ (s.CounterInv → t.CounterInv)) ∧
  (∀ (k : FlowCounters) (c : FlowCounter) (n : Nat), k.count c n = k.plus c n) ∧
  (∀ (k : GlobalCounters) (c : GlobalCounter), k.count c = k.plus c) ∧
  (∀ (s : State) (c : EventClass), s.RaisedOnce (s.raise c) c) ∧
  (∀ e : NoticeEntry, e.takesNotice = true ↔ e = .idle ∨ ∃ q n, e = .exhausted q n) ∧
  NoticeEntry.idle.sequence? = none ∧ NoticeEntry.idle.sentOrZero = 0 ∧
  NoticeEntry.idle.waitingAge = none ∧
  ∀ (q : Byte) (n r due a : Nat) (o : Option Nat),
    (NoticeEntry.pendingSend q o r a).sequence? = some q ∧
    (NoticeEntry.pendingSend q o r a).sentOrZero = o.getD 0 ∧
    (NoticeEntry.pendingSend q o r a).waitingAge = some a ∧
    (NoticeEntry.awaitingAck q n r due).sequence? = some q ∧
    (NoticeEntry.awaitingAck q n r due).sentOrZero = n ∧
    (NoticeEntry.awaitingAck q n r due).waitingAge = none ∧
    (NoticeEntry.exhausted q n).sequence? = some q ∧ (NoticeEntry.exhausted q n).sentOrZero = n ∧
    (NoticeEntry.exhausted q n).waitingAge = none

/-- The clock never runs back but for power-on, and a command that carries the end of a timer's run brings it
to that timer's time; the clock counts 10 ns, 100 to a microsecond: how the model counts time (log entry
2). -/
def Obligations.TheClockOnlyGoesForward : Prop :=
  (∀ n, Config.usec n = 100 * n ∧ Config.msec n = 100000 * n ∧ Config.seconds n = 100000000 * n) ∧
  ∀ (c : Instr) (s t : State), exec c s = .next t → (∀ b, c ≠ .powerOn b) →
    s.now ≤ t.now ∧
    (∀ d fr due, c = .deadlineExpiry d → s.desc? d = some fr → fr.deadline = some due →
      t.now = max s.now due) ∧
    (∀ k, c = .leaseExpiry → s.management.claim = some k → t.now = max s.now k.leaseEnds) ∧
    (∀ e q n r due, c = .retryTimerExpiry e → (s.classState e).entry = .awaitingAck q n r due →
      t.now = max s.now due) ∧
    (∀ due, c = .holdWaitExpiry → s.egress.holdWait = some due → t.now = max s.now due) ∧
    (c = .cadenceExpiry → t.now = max s.now s.egress.cadenceDue) ∧
    (∀ p tx, c = .transmissionCompletion p → s.egress.transmitter = some tx → t.now = max s.now tx.endsAt)

/-- The hold-wait timer runs exactly while HOLD_IN is asserted, a non-token candidate waits and the
forced-start permission does not stand. A timer that runs on keeps its expiry; one that starts runs the
downstream hold limit in force from now (R117). A reset that takes effect stops a running timer first, and
power-on starts none (R122). -/
def Obligations.HoldWaitTimerRunsWithItsConditions : Prop :=
  ∀ (c : Instr) (s t : State), s.HoldWaitInv → exec c s = .next t →
    t.HoldWaitInv ∧
    ((∀ scope, ¬s.ResetTakesEffect c scope) → (∀ b, c ≠ .powerOn b) →
      ∀ due, t.egress.holdWait = some due → s.egress.holdWait = some due ∨
        s.egress.holdWait = none ∧ due = t.now + Config.usec t.egress.timing.holdLimit) ∧
    (∀ scope, s.ResetTakesEffect c scope → ∀ due, t.egress.holdWait = some due →
      due = t.now + Config.usec t.egress.timing.holdLimit) ∧
    ∀ b, c = .powerOn b → t.egress.holdWait = none

/-- Every command keeps the part consistent: cells and descriptors conserved, every descriptor in exactly
the location its place names, the chains, the deadlines and the rest as `State.Inv` gathers them. -/
def Obligations.EveryStepKeepsThePartConsistent : Prop :=
  ∀ s t : State, s.Inv → step s = .next t → t.Inv

/-- In a consistent part no command stops: every command answers a next state. -/
def Obligations.NoCommandStopsAConsistentPart : Prop :=
  ∀ (c : Instr) (s : State), s.Inv → ∃ t, exec c s = .next t

/-- Two ORDERED frames of one flow leave in the order of their frame-ends: the frame being sent, the
forward queue and the chain hold them, in that order, by rising arrival stamps (R95). -/
def Obligations.EveryStepKeepsOrderedFlowsInOrder : Prop :=
  ∀ s t : State, s.Inv → s.OrderInv → step s = .next t → t.OrderInv

/-- The syndromes of a frame that waits for a locator, or is being located, stay those of the payload its
cells hold (R58, R64). -/
def Obligations.EveryStepKeepsTheSyndromesOfStoredPayloads : Prop :=
  ∀ s t : State, s.Inv → s.SyndromeInv → step s = .next t → t.SyndromeInv

/-- For a flow f, ARRIVED + P0 = SENT + DROPPED + P stays true under every command, as long as no counter of
f is at its limit, but for three: power-on and the completion at which a RESTART takes effect leave f's
counters and P at 0, and an executed CLEAR COUNTERS that names f, or ALL, leaves the counters at 0 and the
relation with the frames then present for P0 (R176). -/
def Obligations.EveryFrameIsAccountedFor : Prop :=
  (∀ fr : Descriptor, fr.flow = fr.header.flow ∧
    (fr.isData = true ↔ ∃ snap, fr.role = .data snap)) ∧
  ∀ (c : Instr) (s t : State) (f : Byte) (p0 : Nat), s.Inv → s.AccountedWith f p0 → exec c s = .next t →
    ((∃ b, c = .powerOn b) ∨ s.ResetTakesEffect c .restart →
      t.flowCounters f = FlowCounters.zero ∧ t.present f = 0) ∧
    (s.ClearsFlow c f → t.flowCounters f = FlowCounters.zero ∧ t.AccountedWith f (s.present f)) ∧
    ((∀ b, c ≠ .powerOn b) → ¬s.ResetTakesEffect c .restart → ¬s.ClearsFlow c f →
      (∀ n ∈ t.flowValues f, n < 4294967295) → t.AccountedWith f p0)

/-- The place counts of a READ STATUS, which finds its own request in the receive slot, account for every
descriptor: free descriptors + correction queue length + engines busy + forward queue length + 1 + HELD
descriptors + the one being sent, if any, are 40; and the cells that are not free are those of the descriptors
that are not free, at least one each (R175). -/
def Obligations.PlacesAccountForEveryDescriptor : Prop :=
  ∀ (s : State) (d : DescId), s.Inv → s.receiver.reception = .receiving d →
    s.statusSnapshot = s.statusLayout ∧
    (s.statusSnapshot.getD 12 0).toNat + (s.statusSnapshot.getD 15 0).toNat +
      (s.statusSnapshot.getD 16 0).toNat + (s.statusSnapshot.getD 17 0).toNat + 1 +
      s.countInPlace .held + s.sendingDesc.length = 40 ∧
    s.statusSnapshot.getD 12 0 = byteOf s.store.freeDescs.length ∧
    s.statusSnapshot.getD 15 0 = byteOf s.locator.queue.length ∧
    s.statusSnapshot.getD 16 0 = byteOf (s.countInPlace .locating) ∧
    s.statusSnapshot.getD 17 0 = byteOf s.egress.forwardQueue.length ∧
    (s.sendingDesc.length = if ∃ x, s.sending = some (.forward x) then 1 else 0) ∧
    128 - s.store.freeCells.length = s.heldCells.length ∧
    40 - s.store.freeDescs.length ≤ s.heldCells.length

/-- A stored frame's role and snapshot, its flow, its lengths and its cells do not change while it is in the
part, and its header changes by the DAMAGED flag alone (R23, R26, R44). -/
def Obligations.StoredFramesAreFixed : Prop :=
  ∀ (c : Instr) (s t : State) (d : DescId) (fr fr' : Descriptor), s.Inv → exec c s = .next t →
    s.desc? d = some fr → t.desc? d = some fr' →
    fr'.role = fr.role ∧ fr'.storedLength = fr.storedLength ∧ fr'.cells = fr.cells ∧
    (fr'.header = fr.header ∨ fr'.header = withDamaged fr.header)

/-- The bytes of a stored frame change at the end of its own reception and at the completion of its own
locator run with a list, and at no other command. Frame byte k stands in the cell at entry k / 64 of the cell
list, at offset k modulo 64, and payload position p is frame byte 8 + p (R20, R64). -/
def Obligations.StoredBytesAreKept : Prop :=
  (∀ (m : Memory) (cells : List CellId) (k n p : Nat),
    frameAddress cells k = (cells[k / 64]?).map (fun x => 64 * x.val + k % 64) ∧
    (∀ a, frameAddress cells k = some a → readFrameByte m cells k = readByte m a) ∧
    (readPayload m cells n).length = n ∧
    (p < n → (readPayload m cells n)[p]? = some (readFrameByte m cells (8 + p)))) ∧
  ∀ (c : Instr) (s t : State) (d : DescId) (fr fr' : Descriptor) (k : Nat), s.Inv → exec c s = .next t →
    s.desc? d = some fr → t.desc? d = some fr' → k < 8 + fr.storedLength →
    fr.place ≠ .receiving → (∀ e, c = .locatorCompletionList e → s.engineDesc e ≠ some d) →
    readFrameByte t.store.memory fr.cells k = readFrameByte s.store.memory fr.cells k

/-- The node address becomes 0 at power-on and the address offered at the frame-end of a well-formed ENUM that
an unassigned part takes, and no other command changes it, a reset least of all. The generation becomes 0 at
power-on and where a RESTART takes effect, rises by 1, modulo 65536, with the swap of an executed COMMIT, and
no other command changes it or the active bank (R16, R18, R41, R48, R51). -/
def Obligations.AddressAndGenerationChangeOnlyAsStated : Prop :=
  ∀ (c : Instr) (s t : State), exec c s = .next t →
    ((∃ b, c = .powerOn b) →
      t.nodeAddress = 0 ∧ t.table.generation = 0 ∧ t.table.active = .bankA) ∧
    (∀ a, s.TakesAddress c a → t.nodeAddress = a) ∧
    ((∀ b, c ≠ .powerOn b) → (∀ a, ¬s.TakesAddress c a) → t.nodeAddress = s.nodeAddress) ∧
    (s.ResetTakesEffect c .restart → t.table.generation = 0 ∧ t.table.active = .bankA) ∧
    (s.Swaps c → t.table.generation = s.table.generation + 1 ∧
      t.table.active = (if s.table.active = .bankA then .bankB else .bankA)) ∧
    ((∀ b, c ≠ .powerOn b) → ¬s.ResetTakesEffect c .restart → ¬s.Swaps c →
      t.table.generation = s.table.generation ∧ t.table.active = s.table.active)

/-- The forward queue is a FIFO: a command appends at its tail, a transmission start takes its head, a reset
that takes effect and power-on empty it, and nothing reorders it (R107, R111, R122). -/
def Obligations.ForwardQueueIsAFifo : Prop :=
  ∀ (c : Instr) (s t : State), exec c s = .next t →
    (∃ added, t.egress.forwardQueue = s.egress.forwardQueue ++ added) ∨
    (c = .transmissionStart ∧ t.egress.forwardQueue = s.egress.forwardQueue.tail) ∨
    (((∃ scope, s.ResetTakesEffect c scope) ∨ ∃ b, c = .powerOn b) ∧ t.egress.forwardQueue = [])

/-! ### The upstream receiver -/

/-- Acquisition in LINK_DOWN makes the link LINK_UP and raises UPSTREAM_UP once (R2). -/
def Obligations.AcquisitionBringsTheLinkUp : Prop :=
  ∀ s : State, s.receiver.link = .linkDown → ∃ t, exec .acquisition s = .next t ∧
    t.receiver = { s.receiver with link := .linkUp } ∧ s.RaisedOnce t .upstreamUp ∧
    s.SameButTimer t [.receiver, .events]

/-- Loss in LINK_UP makes the link LINK_DOWN and raises UPSTREAM_DOWN; a frame in reception is aborted, and a
skip ends with nothing counted (R3, R5, R6, R12). -/
def Obligations.LossTakesTheLinkDown : Prop :=
  ∀ (s : State) (received : List Byte), s.receiver.link = .linkUp →
    (s.receiver.reception = .between ∨ s.receiver.reception = .skipping →
      ∃ t, exec (.loss received) s = .next t ∧
        t.receiver = { s.receiver with link := .linkDown, reception := .between } ∧
        s.RaisedOnce t .upstreamDown ∧ s.SameButTimer t [.receiver, .events]) ∧
    (s.receiver.reception = .beforeHeader →
      ∃ t, exec (.loss received) s = .next t ∧
        t.receiver = { s.receiver with link := .linkDown, reception := .between } ∧
        s.RaisedOnce t .upstreamDown ∧
        t.counters.globals = s.counters.globals.count .upstreamAborts ∧
        s.SameButTimer t [.receiver, .events, .globalCounters]) ∧
    (∀ d fr, s.receiver.reception = .receiving d → s.desc? d = some fr →
      ∃ t, exec (.loss received) s = .next t ∧ t.receiver.link = .linkDown ∧
        s.Aborted t d fr received .between ∧ s.RaisedOnce t .upstreamDown ∧
        s.SameButTimer t (.events :: abortPieces))

/-- A start delimiter in LINK_UP begins a frame; it ends a skip, and it cuts short a frame in reception, which
holds nothing before its header arrival and is aborted after it. A skip ends at any symbol but a data byte,
with nothing counted (R1, R5, R6, R12). -/
def Obligations.StartDelimitersBeginFramesAndSkipsEndUncounted : Prop :=
  (∀ y : LineSymbol, y.delimits = true ↔ y ≠ .dataByte) ∧
  (∀ (s : State) (y : LineSymbol), s.receiver.reception = .skipping → y.delimits = true →
    ∃ t, exec (.skipEnd y) s = .next t ∧
      t.receiver = { s.receiver with
        reception := if y = .startDelimiter then .beforeHeader else .between } ∧
      s.SameButTimer t [.receiver]) ∧
  ∀ (s : State) (received : List Byte), s.receiver.link = .linkUp →
    (s.receiver.reception = .between ∨ s.receiver.reception = .skipping →
      ∃ t, exec (.startDelimiter received) s = .next t ∧
        t.receiver = { s.receiver with reception := .beforeHeader } ∧ s.SameButTimer t [.receiver]) ∧
    (s.receiver.reception = .beforeHeader →
      ∃ t, exec (.startDelimiter received) s = .next t ∧
        t.counters.globals = s.counters.globals.count .upstreamAborts ∧
        s.SameButTimer t [.globalCounters]) ∧
    (∀ d fr, s.receiver.reception = .receiving d → s.desc? d = some fr →
      ∃ t, exec (.startDelimiter received) s = .next t ∧ t.receiver.link = s.receiver.link ∧
        s.Aborted t d fr received .beforeHeader ∧ s.SameButTimer t abortPieces)

/-- A frame cut short before its header arrival holds nothing: at an end delimiter it is a header fault, at
any other symbol that ends it UPSTREAM_ABORTS is counted, and a start delimiter begins a new frame (R5). -/
def Obligations.CutShortBeforeHeaderHoldsNothing : Prop :=
  ∀ s : State, s.receiver.reception = .beforeHeader →
    (∃ t, exec (.frameCutShort .endDelimiter) s = .next t ∧
      t.receiver = { s.receiver with reception := .between } ∧ s.RaisedOnce t .headerFault ∧
      t.counters.globals = s.counters.globals.count .headerFaults ∧
      s.SameButTimer t [.receiver, .events, .globalCounters]) ∧
    (∀ y ∈ [LineSymbol.abortDelimiter, .idleSymbol, .codeViolation, .startDelimiter],
      ∃ t, exec (.frameCutShort y) s = .next t ∧
        t.receiver = { s.receiver with
          reception := if y = .startDelimiter then .beforeHeader else .between } ∧
        t.counters.globals = s.counters.globals.count .upstreamAborts ∧
        s.SameButTimer t [.receiver, .globalCounters])

/-- A frame that holds the receive slot is aborted at a delimiter, idle symbol or code violation before its
frame-end, at an end delimiter after fewer than L payload bytes, and at a byte beyond the L-th, whose rest is
skipped (R6). A FRAME_END with fewer or more bytes than L is the end delimiter of such a frame: it is that
abort, and leaves the receiver between frames (R6, R15; the model's reading, log entry 10). -/
def Obligations.AbortFreesTheReceiveSlot : Prop :=
  ∀ (s : State) (d : DescId) (fr : Descriptor) (received : List Byte),
    s.receiver.reception = .receiving d → s.desc? d = some fr →
    (∀ y : LineSymbol, (y = .endDelimiter ∧ received.length < headerLength fr.header ∨
        y = .dataByte ∧ received.length = headerLength fr.header ∨
        y ≠ .endDelimiter ∧ y ≠ .dataByte ∧ received.length ≤ headerLength fr.header) →
      ∃ t, exec (.abort y received) s = .next t ∧ t.receiver.link = s.receiver.link ∧
        s.Aborted t d fr received (if y = .startDelimiter then .beforeHeader
          else if y = .dataByte then .skipping else .between) ∧
        s.SameButTimer t abortPieces) ∧
    (received.length ≠ headerLength fr.header →
      ∃ t, exec (.frameEnd received) s = .next t ∧ t.receiver.link = s.receiver.link ∧
        s.Aborted t d fr received .between ∧ s.SameButTimer t abortPieces)

/-- The fates of R9: the first row whose condition holds, for every address and header. A node address is 1 to
254; the kind is bits 7 to 4 of header byte 2, 1h DATA, 2h REQUEST, 3h RESPONSE, 4h NOTICE, 5h TOKEN, 6h ENUM
and the rest foreign; DAMAGED is bit 3 of that byte, and setting it changes no other bit (chapter 11.1). -/
def Obligations.FatesFollowTheTable : Prop :=
  (∀ a : Byte, isNodeAddress a = true ↔ 1 ≤ a.toNat ∧ a.toNat ≤ 254) ∧
  (∀ h : HeaderBytes,
    let kind := (h.kindFlags.extractLsb' 4 4).toNat
    (kind = 1 → frameKind h = .data) ∧ (kind = 2 → frameKind h = .request) ∧
    (kind = 3 → frameKind h = .response) ∧ (kind = 4 → frameKind h = .notice) ∧
    (kind = 5 → frameKind h = .token) ∧ (kind = 6 → frameKind h = .enumeration) ∧
    (kind = 0 ∨ 7 ≤ kind → frameKind h = .foreign) ∧
    (isDamaged h = true ↔ h.kindFlags.getLsbD 3 = true) ∧
    withDamaged h = { h with kindFlags := (withDamaged h).kindFlags } ∧
    ∀ i, i < 8 →
      ((withDamaged h).kindFlags.getLsbD i = true ↔ i = 3 ∨ h.kindFlags.getLsbD i = true)) ∧
  ∀ (a : Byte) (h : HeaderBytes),
    let own := isNodeAddress a = true
    (own ∧ h.source = a ∧ frameKind h ≠ .token → fateOf a h = .loopStripped) ∧
    (frameKind h = .token → fateOf a h = .tokenConsumed) ∧
    (¬(own ∧ h.source = a) →
      (frameKind h = .request → own ∧ h.destination = a ∨ h.destination = 255 →
        fateOf a h = .kept .request) ∧
      (frameKind h = .enumeration → h.destination = 255 → fateOf a h = .kept .enumeration) ∧
      (frameKind h = .data → fateOf a h = .classified) ∧
      (frameKind h = .request → ¬(own ∧ h.destination = a) → h.destination ≠ 255 →
        fateOf a h = .kept .forwardedOther) ∧
      (frameKind h = .enumeration → h.destination ≠ 255 → fateOf a h = .kept .forwardedOther) ∧
      (frameKind h ∈ [FrameKind.response, .notice, .foreign] → fateOf a h = .kept .forwardedOther))

/-- A frame whose header check fails, a loop-stripped frame and a TOKEN are skipped: the first counts and
raises a header fault, the second counts LOOP_STRIPPED, the third leaves its source and sequence in the
token record and counts TOKENS_RECEIVED; no flow is counted (R8, R10, R11). -/
def Obligations.FaultyStrippedAndTokenFramesAreSkipped : Prop :=
  ∀ (s : State) (h : HeaderBytes), s.receiver.reception = .beforeHeader →
    (headerCheckPasses h = false → ∃ t, exec (.headerArrival h) s = .next t ∧
      t.receiver = { s.receiver with reception := .skipping } ∧ s.RaisedOnce t .headerFault ∧
      t.counters.globals = s.counters.globals.count .headerFaults ∧
      s.SameButTimer t [.receiver, .events, .globalCounters]) ∧
    (headerCheckPasses h = true → fateOf s.nodeAddress h = .loopStripped →
      ∃ t, exec (.headerArrival h) s = .next t ∧
        t.receiver = { s.receiver with reception := .skipping } ∧
        t.counters.globals = s.counters.globals.count .loopStripped ∧
        s.SameButTimer t [.receiver, .globalCounters]) ∧
    (headerCheckPasses h = true → fateOf s.nodeAddress h = .tokenConsumed →
      ∃ t, exec (.headerArrival h) s = .next t ∧
        t.receiver = { s.receiver with
          reception := .skipping, lastToken := some ⟨h.source, h.sequence⟩ } ∧
        t.counters.globals = s.counters.globals.count .tokensReceived ∧
        s.SameButTimer t [.receiver, .globalCounters])

/-- A DATA frame whose snapshot action is DISCARD is dropped at its header arrival, whatever its code field
and length and whatever the store has free: ARRIVED and DROPPED are counted, no event is raised, HOLD_OUT is
not evaluated, and the rest is skipped, with nothing counted when the skip ends (R43). -/
def Obligations.DiscardFramesAreDroppedAtHeaderArrival : Prop :=
  ∀ (s : State) (h : HeaderBytes), s.receiver.reception = .beforeHeader →
    headerCheckPasses h = true → fateOf s.nodeAddress h = .classified →
    (s.table.activeEntry h.flow).action = .discard →
    ∃ t, exec (.headerArrival h) s = .next t ∧
      t.receiver = { s.receiver with reception := .skipping } ∧
      s.FlowCounted t h.flow (fun k => (k.count .arrived 1).count .dropped 1) ∧
      s.SameButTimer t [.receiver, .flowCounters] ∧
      ∀ y, y.delimits = true → ∃ u, exec (.skipEnd y) t = .next u ∧ t.SameButTimer u [.receiver]

/-- A kept frame is granted the head of the free descriptor list and the first cells of the free cell list,
as many as its stored length needs, when the store has them: it holds the receive slot in place RECEIVING,
its header stands in the first eight bytes of its cells, HOLD_OUT is evaluated, the code unit takes its mode,
and DATA counts ARRIVED (R12, R20, R23, R28, R42, R56). -/
def Obligations.KeptFrameTakesADescriptorAndItsCells : Prop :=
  ∀ (s : State) (h : HeaderBytes) (role : Role) (d : DescId) (rest : List DescId) (n : Nat),
    s.receiver.reception = .beforeHeader → headerCheckPasses h = true → s.keptRole h = some role →
    s.store.freeDescs = d :: rest → n = cellsNeeded (storedLengthOf role h) →
    n ≤ s.store.freeCells.length →
    ∃ t, exec (.headerArrival h) s = .next t ∧
      t.desc? d = some
        { role := role, header := h, storedLength := storedLengthOf role h,
          cells := s.store.freeCells.take n, place := .receiving, stamp := none, syndromes := none,
          correction := none, deadline := none } ∧
      s.OtherDescs t d ∧ t.store.freeDescs = rest ∧ t.store.freeCells = s.store.freeCells.drop n ∧
      t.store.holdOut = nextHoldOut s.store.holdOut t.store.freeCells.length rest.length ∧
      (s.MemoryInv → ∀ k, k < 8 →
        readFrameByte t.store.memory (s.store.freeCells.take n) k = (headerList h).getD k 0) ∧
      s.CellsKeptBut t (s.store.freeCells.take n) 0 8 ∧
      t.receiver = { s.receiver with reception := .receiving d, currentHeader := some h } ∧
      t.codeUnit = codeUnitFor role h ∧ s.FlowCounted t h.flow (arrivalCount role) ∧
      s.SameButTimer t
        [.receiver, .cells, .freeLists, .descriptors, .holdOut, .codeUnit, .flowCounters]

/-- A kept frame that finds no free descriptor, or too few free cells, is dropped whole: POOL_SHORT is counted
and raised, DATA counts ARRIVED and DROPPED, nothing is taken from the store and HOLD_OUT is not changed, and
the rest is skipped (R12, R28). -/
def Obligations.RefusedFrameTakesNothing : Prop :=
  ∀ (s : State) (h : HeaderBytes) (role : Role),
    s.receiver.reception = .beforeHeader → headerCheckPasses h = true → s.keptRole h = some role →
    s.store.freeDescs = [] ∨ s.store.freeCells.length < cellsNeeded (storedLengthOf role h) →
    ∃ t, exec (.headerArrival h) s = .next t ∧
      t.receiver = { s.receiver with reception := .skipping } ∧ s.RaisedOnce t .poolShort ∧
      t.counters.globals = s.counters.globals.count .poolShort ∧
      s.FlowCounted t h.flow (refusalCount role) ∧
      s.SameButTimer t [.receiver, .events, .flowCounters, .globalCounters]

/-- A code fault is as the table of R57 has it for each action, and the code unit takes the mode of R56's
table, with accumulators and remainder symbols at 00h. The stored length is L, but L + 2t for an ENCODE frame
free of code fault; the cells needed are those of the table of R27; and HOLD_OUT is asserted with fewer than
16 free cells or 4 free descriptors, released with at least 24 and 8, and kept in between (R27, R33, R56,
R57). -/
def Obligations.StoredLengthsCellsAndHoldOutThresholds : Prop :=
  (∀ (e : FlowEntry) (h : HeaderBytes),
    (e.action = .forward → codeFault e h = false) ∧
    (e.action = .check ∨ e.action = .correct ∨ e.action = .strip →
      (codeFault e h = true ↔ h.code.toNat ≠ e.strength.t ∨ h.length.toNat < 2 * e.strength.t + 1)) ∧
    (e.action = .encode → (codeFault e h = true ↔
      h.code ≠ 0 ∨ h.length = 0 ∨ 255 - 2 * e.strength.t < h.length.toNat))) ∧
  (∀ (e : FlowEntry) (g : Half) (h : HeaderBytes),
    (codeFault e h = true → codeUnitFor (.data ⟨e, g⟩) h = .passing true) ∧
    (codeFault e h = false →
      (e.action = .check ∨ e.action = .correct ∨ e.action = .strip →
        codeUnitFor (.data ⟨e, g⟩) h = .syndrome (List.replicate (2 * e.strength.t) 0)) ∧
      (e.action = .encode →
        codeUnitFor (.data ⟨e, g⟩) h = .encoding (List.replicate (2 * e.strength.t) 0)) ∧
      (e.action = .forward → codeUnitFor (.data ⟨e, g⟩) h = .passing false)) ∧
    codeUnitFor .forwardedOther h = .passing false ∧ codeUnitFor .request h = .passing false ∧
    codeUnitFor .enumeration h = .passing false) ∧
  (∀ (fr : Descriptor) (snap : Snapshot), fr.role = .data snap → fr.entry = snap.entry) ∧
  (∀ (e : FlowEntry) (g : Half) (h : HeaderBytes),
    storedLengthOf (.data ⟨e, g⟩) h =
      if e.action = .encode ∧ h.code = 0 ∧ 1 ≤ headerLength h ∧ headerLength h ≤ 255 - 2 * e.strength.t
      then headerLength h + 2 * e.strength.t else headerLength h) ∧
  (∀ h : HeaderBytes, storedLengthOf .forwardedOther h = headerLength h ∧
    storedLengthOf .request h = headerLength h ∧ storedLengthOf .enumeration h = headerLength h) ∧
  (∀ (role : Role) (h : HeaderBytes), storedLengthOf role h ≤ 255) ∧
  (∀ n : Nat, n ≤ 255 → cellsNeeded n =
    if n ≤ 56 then 1 else if n ≤ 120 then 2 else if n ≤ 184 then 3 else if n ≤ 248 then 4 else 5) ∧
  ∀ cells descs : Nat,
    (cells < 16 ∨ descs < 4 → ∀ b, nextHoldOut b cells descs = true) ∧
    (24 ≤ cells ∧ 8 ≤ descs → ∀ b, nextHoldOut b cells descs = false) ∧
    (16 ≤ cells ∧ 4 ≤ descs ∧ (cells < 24 ∨ descs < 8) → ∀ b, nextHoldOut b cells descs = b)

/-! ### Frame-end -/

/-- A FORWARDED_OTHER frame is appended to the forward queue at its frame-end, with its header and payload as
received, whatever its payload check (R13, R15). -/
def Obligations.ForwardedOtherFramesGoOnUnchanged : Prop :=
  ∀ (s : State) (d : DescId) (fr : Descriptor) (payload : List Byte),
    s.receiver.reception = .receiving d → s.desc? d = some fr → fr.role = .forwardedOther →
    payload.length = headerLength fr.header →
    ∃ t, exec (.frameEnd payload) s = .next t ∧ s.SlotEnded t ∧ s.SlotForwarded t d fr fr.header ∧
      s.OtherDescs t d ∧ s.PayloadStored t fr payload ∧
      s.SameButTimer t [.receiver, .codeUnit, .cells, .descriptors, .nextStamp, .forwardQueue]

/-- At the frame-end of an ENUM taken for enumeration: one that is not well-formed is freed and counts
MGMT_CHECK_FAULTS, as does a REQUEST whose payload check fails; an unassigned part takes a next address of
1 to 254, puts the address after it, with a fresh payload check, into the cells and raises ADDRESS_TAKEN; any
other well-formed ENUM is forwarded unchanged (R14, R17, R18). -/
def Obligations.EnumFramesAssignTheAddressAndFailedChecksAreDropped : Prop :=
  ∀ (s : State) (d : DescId) (fr : Descriptor) (payload : List Byte),
    s.receiver.reception = .receiving d → s.desc? d = some fr →
    payload.length = headerLength fr.header →
    ((fr.role = .request ∧ payloadCheckPasses payload = false ∨
        fr.role = .enumeration ∧ ¬(payload.length = 3 ∧ payloadCheckPasses payload = true)) →
      ∃ t, exec (.frameEnd payload) s = .next t ∧ s.SlotEnded t ∧ s.Freed t d fr ∧ s.OtherDescs t d ∧
        s.PayloadStored t fr payload ∧
        t.counters.globals = s.counters.globals.count .mgmtCheckFaults ∧
        s.SameButTimer t [.receiver, .codeUnit, .cells, .freeLists, .descriptors, .holdOut,
          .nextStamp, .globalCounters]) ∧
    (∀ a c1 c0 : Byte, fr.role = .enumeration → payload = [a, c1, c0] →
      payloadCheckPasses payload = true →
      (s.nodeAddress = 0 ∧ 1 ≤ a.toNat ∧ a.toNat ≤ 254 →
        ∃ t, exec (.frameEnd payload) s = .next t ∧ t.nodeAddress = a ∧ s.RaisedOnce t .addressTaken ∧
          s.SlotEnded t ∧ s.SlotForwarded t d fr fr.header ∧ s.OtherDescs t d ∧
          s.PayloadStored t fr (withPayloadCheck [if a = 254 then 255 else a + 1]) ∧
          s.SameButTimer t [.receiver, .nodeAddress, .codeUnit, .cells, .descriptors, .nextStamp,
            .forwardQueue, .events]) ∧
      (¬(s.nodeAddress = 0 ∧ 1 ≤ a.toNat ∧ a.toNat ≤ 254) →
        ∃ t, exec (.frameEnd payload) s = .next t ∧ s.SlotEnded t ∧ s.SlotForwarded t d fr fr.header ∧
          s.OtherDescs t d ∧ s.PayloadStored t fr payload ∧
          s.SameButTimer t [.receiver, .codeUnit, .cells, .descriptors, .nextStamp, .forwardQueue]))

/-- A request row of the table is the FRAME_END of the REQUEST frame with the row's kind byte, its body and a
payload check that passes: the model's choice (log entry 3), for the table gives its rows no operands. What
such a frame-end does is R14's, R125's and R178's. -/
def Obligations.RequestRowsAreFrameEndsOfRequests : Prop :=
  ∀ (s : State) (d : DescId) (fr : Descriptor) (i : Instr) (kind : Byte) (body : List Byte),
    requestOf i = some (kind, body) → s.RequestInSlot d fr body.length →
    payloadCheckPasses (requestPayload kind body) = true ∧
    exec i s = exec (.frameEnd (requestPayload kind body)) s

/-- A ready DATA frame counts CLEAN. With no chain to wait behind it goes to the forward queue; else it joins
its chain as HELD, with its deadline set, unless it overflows. An ENCODE frame's check bytes stand in its
cells behind its payload (R59, R60, R86, R87, R91, R92). -/
def Obligations.ReadyFramesGoOnOrWaitHeld : Prop :=
  ∀ (s : State) (d : DescId) (fr : Descriptor) (snap : Snapshot) (payload : List Byte),
    s.DataInSlot d fr snap payload → outcomeOf snap.entry fr.header payload = .ready →
    (s.goesOn fr →
      ∃ t, exec (.frameEnd payload) s = .next t ∧ s.SlotEnded t ∧ s.SlotForwarded t d fr fr.header ∧
        s.OtherDescs t d ∧ s.PayloadStored t fr (storedPayload snap.entry payload) ∧
        s.FlowCounted t fr.flow (fun k => k.count .clean 1) ∧
        s.SameButTimer t (.forwardQueue :: dataPieces)) ∧
    (s.chain fr.flow ≠ [] → s.joins fr →
      ∃ t, exec (.frameEnd payload) s = .next t ∧ s.SlotEnded t ∧
        t.desc? d = some { fr with
          place := .held, stamp := some s.order.nextStamp
          deadline := some (s.now + Config.usec snap.entry.holdLimit) } ∧
        s.OtherDescs t d ∧ s.ChainIs t fr.flow (s.chain fr.flow ++ [d]) ∧
        s.PayloadStored t fr (storedPayload snap.entry payload) ∧
        s.FlowCounted t fr.flow (fun k => k.count .clean 1) ∧ s.SameButTimer t (.chains :: dataPieces))

/-- A DATA frame to locate enters the tail of the correction queue with its syndromes and its deadline, and
the tail of its chain if its flow is ORDERED; nothing is counted for the code (R60, R69, R86, R88, R91,
R92). -/
def Obligations.FramesToLocateEnterTheCorrectionQueue : Prop :=
  ∀ (s : State) (d : DescId) (fr : Descriptor) (snap : Snapshot) (payload : List Byte),
    s.DataInSlot d fr snap payload → outcomeOf snap.entry fr.header payload = .toLocate →
    fr.entry.order = .free ∨ s.joins fr →
    ∃ t, exec (.frameEnd payload) s = .next t ∧ s.SlotEnded t ∧
      t.desc? d = some { fr with
        place := .queued, stamp := some s.order.nextStamp
        syndromes := some (syndromesOf snap.entry.strength.t payload)
        deadline := some (s.now + Config.usec snap.entry.holdLimit) } ∧
      s.OtherDescs t d ∧ t.locator = { s.locator with queue := s.locator.queue ++ [d] } ∧
      (fr.entry.order = .free → ∀ g, t.chain g = s.chain g) ∧
      (fr.entry.order = .ordered → s.ChainIs t fr.flow (s.chain fr.flow ++ [d])) ∧
      s.PayloadStored t fr payload ∧
      s.SameButTimer t
        [.receiver, .codeUnit, .cells, .descriptors, .nextStamp, .locator, .chains]

/-- A DATA frame failed at its frame-end counts CODE_FAILED and raises CODE_FAILURE. Under DROP it is freed,
whatever its chain; under MARK its DAMAGED flag is set and it goes on, or waits HELD behind its chain (R61,
R86, R89, R91, R99). -/
def Obligations.FailedFramesFollowTheirPolicy : Prop :=
  ∀ (s : State) (d : DescId) (fr : Descriptor) (snap : Snapshot) (payload : List Byte),
    s.DataInSlot d fr snap payload → outcomeOf snap.entry fr.header payload = .failed →
    (snap.entry.policy = .drop →
      ∃ t, exec (.frameEnd payload) s = .next t ∧ s.SlotEnded t ∧ s.Freed t d fr ∧ s.OtherDescs t d ∧
        s.PayloadStored t fr payload ∧ s.RaisedOnce t .codeFailure ∧
        s.FlowCounted t fr.flow (fun k => (k.count .codeFailed 1).count .dropped 1) ∧
        s.SameButTimer t (.events :: .freeLists :: .holdOut :: dataPieces)) ∧
    (snap.entry.policy = .mark → s.goesOn fr →
      ∃ t, exec (.frameEnd payload) s = .next t ∧ s.SlotEnded t ∧
        s.SlotForwarded t d fr (withDamaged fr.header) ∧ s.OtherDescs t d ∧
        s.PayloadStored t fr payload ∧ s.RaisedOnce t .codeFailure ∧
        s.FlowCounted t fr.flow (fun k => k.count .codeFailed 1) ∧
        s.SameButTimer t (.events :: .forwardQueue :: dataPieces)) ∧
    (snap.entry.policy = .mark → s.chain fr.flow ≠ [] → s.joins fr →
      ∃ t, exec (.frameEnd payload) s = .next t ∧ s.SlotEnded t ∧
        t.desc? d = some { fr with
          header := withDamaged fr.header, place := .held, stamp := some s.order.nextStamp
          deadline := some (s.now + Config.usec snap.entry.holdLimit) } ∧
        s.OtherDescs t d ∧ s.ChainIs t fr.flow (s.chain fr.flow ++ [d]) ∧
        s.PayloadStored t fr payload ∧ s.RaisedOnce t .codeFailure ∧
        s.FlowCounted t fr.flow (fun k => k.count .codeFailed 1) ∧
        s.SameButTimer t (.events :: .chains :: dataPieces))

/-- A frame that would make its chain longer than its own hold depth is freed at its frame-end: DROPPED is
counted and CHAIN_OVERFLOW raised, what its outcome had counted stays counted, and the chain and the
correction queue stay as they were. Its cells keep the payload as it arrived, with the check bytes behind it
where an ENCODE frame's outcome is ready, and without them where it failed by a code fault (R57, R59, R61,
R90). -/
def Obligations.OverflowingFramesAreFreed : Prop :=
  ∀ (s : State) (d : DescId) (fr : Descriptor) (snap : Snapshot) (payload : List Byte),
    s.DataInSlot d fr snap payload → snap.entry.order = .ordered →
    snap.entry.holdDepth < (s.chain fr.flow).length + 1 →
    (outcomeOf snap.entry fr.header payload = .toLocate ∨
      s.chain fr.flow ≠ [] ∧ (outcomeOf snap.entry fr.header payload = .ready ∨
        outcomeOf snap.entry fr.header payload = .failed ∧ snap.entry.policy = .mark)) →
    ∃ t, exec (.frameEnd payload) s = .next t ∧ s.SlotEnded t ∧ s.Freed t d fr ∧ s.OtherDescs t d ∧
      s.PayloadStored t fr (if outcomeOf snap.entry fr.header payload = .ready
        then storedPayload snap.entry payload else payload) ∧
      s.FlowCounted t fr.flow (fun k =>
        ((outcomeOf snap.entry fr.header payload).count k).count .dropped 1) ∧
      (outcomeOf snap.entry fr.header payload ≠ .failed → s.RaisedOnce t .chainOverflow) ∧
      (outcomeOf snap.entry fr.header payload = .failed →
        t.events = ((s.raise .codeFailure).raise .chainOverflow).events) ∧
      s.SameButTimer t (.events :: .freeLists :: .holdOut :: dataPieces)

/-! ### The code -/

/-- The symbol field: the product is the product of the two polynomials reduced modulo
x⁸ + x⁴ + x³ + x² + 1, every symbol is its own negative, the powers α⁰ to α²⁵⁴ are the 255 non-zero symbols,
each once, α²⁵⁵ = α⁰, and every non-zero symbol divides every symbol (R54). -/
def Obligations.SymbolsFormTheField : Prop :=
  (∀ a b : Byte, gfMul a b = reduceSymbol (polynomialProduct a b)) ∧
  alphaPow 1 = 0x02#8 ∧ alphaPow 255 = alphaPow 0 ∧
  (∀ n, alphaPow (n + 1) = gfMul (alphaPow n) 0x02#8) ∧
  (∀ m n, m < 255 → n < 255 → alphaPow m = alphaPow n → m = n) ∧
  (∀ a : Byte, a ≠ 0 → ∃ n, n < 255 ∧ alphaPow n = a) ∧
  (∀ m n, gfMul (alphaPow m) (alphaPow n) = alphaPow (m + n)) ∧
  (∀ a : Byte, a ^^^ a = 0) ∧
  ∀ a b : Byte, b ≠ 0 → gfMul (gfMul a (gfInv b)) b = a

/-- The accumulators hold at frame-end the values of the payload polynomial at α⁰ to α^(2t−1), the first
payload byte being the highest coefficient; and a payload of any length followed by its 2t check bytes is
clean (R55, R58, R59). Clean is every syndrome 00h, and a polynomial's value is computed from its highest
coefficient down. -/
def Obligations.EncodedPayloadsAreClean : Prop :=
  (∀ l : List Byte, isClean l = true ↔ ∀ x ∈ l, x = 0) ∧
  (∀ (a x : Byte) (p : List Byte),
    polyEval [] x = 0 ∧ polyEval (a :: p) x = gfMul (polyEval p x) x ^^^ a) ∧
  ∀ (st : Strength) (p : List Byte),
    syndromesOf st.t p = (List.range (2 * st.t)).map (fun j => polyEval p.reverse (alphaPow j)) ∧
    (checkBytesOf st.t p).length = 2 * st.t ∧
    isClean (syndromesOf st.t (p ++ checkBytesOf st.t p)) = true

/-- A locator run on a payload that differs from a codeword in 1 to t positions ends in the list of exactly
those positions and values; and whatever list a run reports has 1 to t entries at distinct positions of the
payload, with non-zero values, and turns the payload into a codeword (R62). -/
def Obligations.LocatorFindsUpToTErrors : Prop :=
  ∀ (st : Strength) (p : List Byte), p.length ≤ 255 →
    (∀ errors : List ErrorEntry, 2 * st.t + 1 ≤ p.length → isClean (syndromesOf st.t p) = true →
      1 ≤ errors.length → errors.length ≤ st.t → (errors.map ErrorEntry.position).Nodup →
      (∀ e ∈ errors, e.position < p.length ∧ e.value ≠ 0) →
      ∃ found, locate (syndromesOf st.t (withErrors p errors)) st.t p.length = some found ∧
        found.Perm errors) ∧
    ∀ found, locate (syndromesOf st.t p) st.t p.length = some found →
      1 ≤ found.length ∧ found.length ≤ st.t ∧ (found.map ErrorEntry.position).Nodup ∧
      (∀ e ∈ found, e.position < p.length ∧ e.value ≠ 0) ∧
      isClean (syndromesOf st.t (withErrors p found)) = true

/-! ### The locator engines -/

/-- An IDLE engine takes the head of the correction queue: it becomes LOCATING, and the run is made up of its
syndromes, strength and length, from now (R72, R73). After an expiry that freed both engines, the engine freed
first takes the head, and the other takes nothing before it (R79). -/
def Obligations.PickupStartsARunOnTheHead : Prop :=
  ∀ (s : State) (e : EngineId) (d : DescId) (rest : List DescId) (fr : Descriptor),
    s.engineRun e = none → s.locator.queue = d :: rest → s.desc? d = some fr →
    ((∀ x, s.locator.firstFreed = some x → x = e) →
      ∃ t, exec (.pickup e) s = .next t ∧ t.locator.queue = rest ∧
        t.engineRun e =
          some ⟨d, fr.syndromes.getD [], fr.entry.strength, headerLength fr.header, s.now⟩ ∧
        (∀ x, x ≠ e → t.engineRun x = s.engineRun x) ∧ t.locator.firstFreed = none ∧
        t.desc? d = some { fr with place := .locating } ∧ s.OtherDescs t d ∧
        s.SameButTimer t [.descriptors, .locator]) ∧
    (∀ x, s.locator.firstFreed = some x → x ≠ e → exec (.pickup e) s = .next s)

/-- The completion of a run with an error list: the list stands in the descriptor, each error value has been
added to the byte at its position and to no other byte, CORRECTED is counted once and SYMBOLS_FIXED by the
entries, the engine is IDLE, no event is raised, and the frame is handed on as corrected (R75, R91, R93, R94).
The clock shows at least the least time of such a run (log entry 13). -/
def Obligations.CompletionWithAListCorrectsTheFrame : Prop :=
  ∀ (s : State) (e : EngineId) (r : Run) (fr : Descriptor) (entries : List ErrorEntry), s.Inv →
    s.engineRun e = some r → s.desc? r.desc = some fr →
    locate r.syndromes r.strength.t r.length = some entries →
    ∃ t, exec (.locatorCompletionList e) s = .next t ∧
      t.now = max s.now (r.startedAt + Config.usec r.strength.t) ∧
      t.locator.queue = s.locator.queue ∧ t.locator.firstFreed = s.locator.firstFreed ∧
      t.engineRun e = none ∧
      (∀ x, x ≠ e → t.engineRun x = s.engineRun x) ∧
      readPayload t.store.memory fr.cells (headerLength fr.header) =
        withErrors (readPayload s.store.memory fr.cells (headerLength fr.header)) entries ∧
      s.CellsKeptBut t fr.cells 8 (headerLength fr.header) ∧
      s.FlowCounted t fr.flow
        (fun k => (k.count .corrected 1).count .symbolsFixed entries.length) ∧
      s.HandedBack t r.desc fr { fr with correction := some entries } false ∧
      s.SameButTimer t
        [.clock, .cells, .descriptors, .locator, .chains, .forwardQueue, .flowCounters]

/-- The completion of a run that FAILED: CODE_FAILED is counted and CODE_FAILURE raised, the engine is IDLE,
the cells keep the payload as it arrived, and the frame is handed on under its failure policy (R76, R91, R93,
R94, R99). The clock shows at least the time of such a run (log entry 13). -/
def Obligations.FailedCompletionAppliesThePolicy : Prop :=
  ∀ (s : State) (e : EngineId) (r : Run) (fr : Descriptor), s.Inv →
    s.engineRun e = some r → s.desc? r.desc = some fr →
    locate r.syndromes r.strength.t r.length = none →
    ∃ t, exec (.locatorCompletionFailed e) s = .next t ∧
      t.now = max s.now (r.startedAt + Config.usec (3 * r.strength.t)) ∧
      t.locator.queue = s.locator.queue ∧ t.locator.firstFreed = s.locator.firstFreed ∧
      t.engineRun e = none ∧
      (∀ x, x ≠ e → t.engineRun x = s.engineRun x) ∧ s.RaisedOnce t .codeFailure ∧
      (fr.entry.policy = .drop →
        s.FlowCounted t fr.flow (fun k => (k.count .codeFailed 1).count .dropped 1) ∧
        s.HandedBack t r.desc fr fr true) ∧
      (fr.entry.policy = .mark →
        s.FlowCounted t fr.flow (fun k => k.count .codeFailed 1) ∧
        s.HandedBack t r.desc fr { fr with header := withDamaged fr.header } false) ∧
      s.SameButTimer t [.clock, .freeLists, .holdOut, .descriptors, .locator, .chains, .forwardQueue,
        .flowCounters, .events]

/-- A frame corrected by a locator run leaves the completion as a codeword of its flow's strength (R62, R64,
R75). -/
def Obligations.CorrectedFramesAreCodewords : Prop :=
  ∀ (s t : State) (e : EngineId) (r : Run) (fr : Descriptor) (entries : List ErrorEntry), s.Inv →
    s.SyndromeInv → s.engineRun e = some r → s.desc? r.desc = some fr →
    locate r.syndromes r.strength.t r.length = some entries →
    exec (.locatorCompletionList e) s = .next t →
    isClean (syndromesOf fr.entry.strength.t
      (readPayload t.store.memory fr.cells (headerLength fr.header))) = true

/-! ### Deadlines -/

/-- The expiry of the deadline of a FREE frame abandons that frame alone: it is taken from the correction
queue or from its engine, EXPIRED and CODE_FAILED are counted, CODE_FAILURE and DEADLINE_EXPIRED are raised
once each, and its failure policy is applied (R97, R98). -/
def Obligations.ExpiryOfAFreeFrameAbandonsItAlone : Prop :=
  ∀ (s : State) (d : DescId) (fr : Descriptor) (due : Nat), s.Inv → s.desc? d = some fr →
    fr.isOrdered = false → fr.deadline = some due →
    (fr.place = .queued ∨ fr.place = .locating) ∧
    ∃ t, exec (.deadlineExpiry d) s = .next t ∧
      t.locator.queue = s.locator.queue.filter (· ≠ d) ∧
      t.locator.firstFreed = (if t.locator.queue = [] then none else s.locator.firstFreed) ∧
      (∀ e, t.engineRun e = if s.engineDesc e = some d then none else s.engineRun e) ∧
      t.events = ((s.raise .codeFailure).raise .deadlineExpired).events ∧ s.OtherDescs t d ∧
      (fr.entry.policy = .drop → s.Freed t d fr ∧
        t.egress.forwardQueue = s.egress.forwardQueue ∧ s.FlowCounted t fr.flow (fun k =>
          ((k.count .expired 1).count .codeFailed 1).count .dropped 1)) ∧
      (fr.entry.policy = .mark → s.StoreKept t ∧
        t.desc? d = some { fr with
          header := withDamaged fr.header, place := .forward, deadline := none } ∧
        t.egress.forwardQueue = s.egress.forwardQueue ++ [d] ∧
        s.FlowCounted t fr.flow (fun k => (k.count .expired 1).count .codeFailed 1)) ∧
      s.SameButTimer t [.clock, .freeLists, .holdOut, .descriptors, .locator, .forwardQueue,
        .flowCounters, .events]

/-- The expiry of the deadline of a chained frame resolves it and every member ahead of it, in chain order:
those QUEUED or LOCATING are abandoned, each counted EXPIRED and CODE_FAILED, raised as CODE_FAILURE and
settled under its own policy; those HELD go to the forward queue. Release goes on past it to the next
unfinished member, and DEADLINE_EXPIRED is raised once. Where it frees both engines and leaves frames queued,
the head of the queue goes to the one it freed first (R79, R96, R97). -/
def Obligations.ExpiryOfAChainedFrameResolvesUpToIt : Prop :=
  (∀ (d : DescId) (ahead later : List DescId), d ∉ ahead →
    upTo (ahead ++ d :: later) d = ahead ++ [d] ∧ behind (ahead ++ d :: later) d = later) ∧
  (∀ (s : State) (d : DescId), s.isHeld d = true ↔ s.InPlace d .held) ∧
  ∀ (s : State) (d : DescId) (fr : Descriptor) (due : Nat), s.Inv → s.desc? d = some fr →
    fr.isOrdered = true → fr.deadline = some due →
    let members := upTo (s.chain fr.flow) d
    let later := behind (s.chain fr.flow) d
    let abandoned := members.filter (fun x => !s.isHeld x)
    let dropped := abandoned.filter s.underDrop
    let sent := members.filter (fun x => s.isHeld x || !s.underDrop x) ++ later.takeWhile s.isHeld
    let freed := members.flatMap fun x =>
      [EngineId.engine0, .engine1].filter fun e => s.engineDesc e = some x
    abandoned ≠ [] ∧
    ∃ t, exec (.deadlineExpiry d) s = .next t ∧
      s.ChainIs t fr.flow (later.dropWhile s.isHeld) ∧
      t.egress.forwardQueue = s.egress.forwardQueue ++ sent ∧
      (∀ x ∈ dropped, t.desc? x = none) ∧
      (∀ x ∈ sent, t.desc? x = (s.desc? x).map fun y =>
        { y with
          header := if s.isHeld x then y.header else withDamaged y.header
          place := .forward, deadline := none }) ∧
      (∀ x, x ∉ dropped → x ∉ sent → t.desc? x = s.desc? x) ∧
      t.store.freeDescs = s.store.freeDescs ++ dropped ∧
      t.store.freeCells = s.store.freeCells ++ dropped.flatMap s.cellsOf ∧
      t.store.holdOut =
        nextHoldOut s.store.holdOut t.store.freeCells.length t.store.freeDescs.length ∧
      t.locator.queue = s.locator.queue.filter (· ∉ members) ∧
      t.locator.firstFreed = (if t.locator.queue = [] then none
        else if freed.length = 2 then freed.head? else s.locator.firstFreed) ∧
      (∀ e, t.engineRun e =
        if ∃ x ∈ members, s.engineDesc e = some x then none else s.engineRun e) ∧
      s.FlowCounted t fr.flow (fun k => ((k.count .expired abandoned.length).count .codeFailed
        abandoned.length).count .dropped dropped.length) ∧
      t.events = ((Nat.iterate (State.raise · .codeFailure) abandoned.length s).raise
        .deadlineExpired).events ∧
      s.SameButTimer t [.clock, .freeLists, .holdOut, .descriptors, .locator, .chains, .forwardQueue,
        .flowCounters, .events]

/-! ### The egress scheduler -/

/-- HOLD_IN follows its pin and a release stops the hold-wait timer. At that timer's expiry HOLD_FORCED is
counted and raised and the forced-start permission stands. At a cadence expiry the debt rises by 1 up to 8,
an expiry that finds it at 8 is a slip, counted and raised, a debt of OT or more sets OVERDUE, and the timer
runs on for the next P (R112, R113, R115, R116, R117, R118). -/
def Obligations.HoldInAndTheSchedulerTimers : Prop :=
  ∀ s : State,
    (∃ t, exec .holdInAssertion s = .next t ∧ t.egress.holdIn = true ∧ s.SameButTimer t [.holdIn]) ∧
    (∃ t, exec .holdInRelease s = .next t ∧ t.egress.holdIn = false ∧ t.egress.holdWait = none ∧
      s.SameButTimer t [.holdIn]) ∧
    (∀ due, s.egress.holdWait = some due →
      ∃ t, exec .holdWaitExpiry s = .next t ∧ t.egress.permission = true ∧ t.egress.holdWait = none ∧
        t.counters.globals = s.counters.globals.count .holdForced ∧
        s.RaisedOnce t .holdForced ∧
        s.SameButTimer t [.permission, .clock, .globalCounters, .events]) ∧
    (s.egress.debt ≤ 8 →
      ∃ t, exec .cadenceExpiry s = .next t ∧
        t.egress.cadenceDue = s.egress.cadenceDue + Config.usec s.egress.timing.period ∧
        t.egress.debt = min 8 (s.egress.debt + 1) ∧
        (t.egress.overdue = true ↔
          s.egress.overdue = true ∨ s.egress.timing.overdueThreshold ≤ t.egress.debt) ∧
        t.egress.tokenSequence = s.egress.tokenSequence ∧
        (s.egress.debt < 8 → s.SameButTimer t [.cadence, .clock]) ∧
        (s.egress.debt = 8 → t.counters.globals = s.counters.globals.count .cadenceSlips ∧
          s.RaisedOnce t .cadenceSlip ∧
          s.SameButTimer t [.cadence, .clock, .globalCounters, .events]))

/-- The arbiter, with the transmitter IDLE: the oldest response; a token at a debt of DT or more; the notice
that entered PENDING_SEND longest ago; the head of the forward queue; a token at a debt of 1 or more. While
OVERDUE, or held by HOLD_IN without the permission, only tokens start. A non-token start consumes the
permission, each frame is built from its source as it stands, a notice goes to the claim holder or to 255,
and with nothing to start the transmitter stays IDLE (R104, R105, R107, R108, R109, R114, R159). -/
def Obligations.TransmissionStartTakesTheFirstTier : Prop :=
  ∀ s : State, s.egress.transmitter = none →
    (∀ q rest, s.mayStart → s.management.responses = q :: rest →
      ∃ t, exec .transmissionStart s = .next t ∧
        t.egress.transmitter = some (s.frameNow .response
          ⟨q.destination, s.nodeAddress, 0x30#8, 0, 0, byteOf (5 + q.response.results.length),
            q.response.sequence, 0⟩
          (withPayloadCheck (q.response.kind :: q.response.sequence :: q.response.status.code ::
            q.response.results))) ∧
        t.egress.permission = false ∧ s.SameButTimer t [.transmitter, .permission]) ∧
    (1 ≤ s.egress.debt → (¬s.mayStart ∨ s.management.responses = [] ∧
        (s.egress.timing.dueThreshold ≤ s.egress.debt ∨ s.noNotice ∧ s.egress.forwardQueue = [])) →
      ∃ t, exec .transmissionStart s = .next t ∧
        t.egress.transmitter = some (s.frameNow .token
          ⟨0, s.nodeAddress, 0x50#8, 0, 0, 0, s.egress.tokenSequence, 0⟩ []) ∧
        s.SameButTimer t [.transmitter]) ∧
    (s.mayStart → s.management.responses = [] →
      (s.egress.debt = 0 ∨ s.egress.debt < s.egress.timing.dueThreshold) →
      (∀ c q n r a, (s.classState c).entry = .pendingSend q n r a →
        (∀ e b, e ≠ c → (s.classState e).entry.waitingAge = some b → a < b) →
        let sent := n.getD (s.classState c).raw
        ∃ t, exec .transmissionStart s = .next t ∧
          t.egress.transmitter = some (s.frameNow (.notice c q)
            ⟨match s.management.claim with
                | none => 255
                | some k => k.holder, s.nodeAddress, 0x40#8, 0, 0, 6, q, 0⟩
            (withPayloadCheck ([byteOf (classNumber c).val, q] ++ bytes16 sent))) ∧
          (t.classState c).entry = .pendingSend q (some sent) r a ∧
          (t.classState c).raw = (s.classState c).raw ∧
          (t.classState c).enabled = (s.classState c).enabled ∧
          (∀ e, e ≠ c → t.classState e = s.classState e) ∧
          t.events.noticeSequence = s.events.noticeSequence ∧ t.egress.permission = false ∧
          s.SameButTimer t [.transmitter, .permission, .events]) ∧
      (∀ d rest fr, s.noNotice → s.egress.forwardQueue = d :: rest → s.desc? d = some fr →
        ∃ t, exec .transmissionStart s = .next t ∧
          t.egress.transmitter = some (s.frameNow (.forward d) (outgoing fr).1
            (readPayload s.store.memory fr.cells (outgoing fr).2)) ∧
          t.egress.forwardQueue = rest ∧ t.desc? d = some { fr with place := .sending } ∧
          s.OtherDescs t d ∧ t.egress.permission = false ∧
          s.SameButTimer t [.transmitter, .permission, .forwardQueue, .descriptors]) ∧
      (s.noNotice → s.egress.forwardQueue = [] → s.egress.debt = 0 →
        exec .transmissionStart s = .next s)) ∧
    (¬s.mayStart → s.egress.debt = 0 → exec .transmissionStart s = .next s)

/-- What leaves for a stored frame: a STRIP frame with DAMAGED clear without its trailer and with code 0, an
ENCODE frame free of code fault as a codeword with code t, and any other frame as it is held (R65, R66,
R67). -/
def Obligations.StripAndEncodeFramesAreRewrittenAsTheyLeave : Prop :=
  ∀ fr : Descriptor, fr.storedLength = storedLengthOf fr.role fr.header →
    (∀ e g, fr.role = .data ⟨e, g⟩ →
      (e.action = .strip → isDamaged fr.header = false → 2 * e.strength.t < headerLength fr.header →
        outgoing fr = ({ fr.header with
            code := 0, length := byteOf (headerLength fr.header - 2 * e.strength.t) },
          headerLength fr.header - 2 * e.strength.t)) ∧
      (e.action = .encode → codeFault e fr.header = false → 1 ≤ e.strength.t →
        outgoing fr = ({ fr.header with
            code := byteOf e.strength.t
            length := byteOf (headerLength fr.header + 2 * e.strength.t) },
          headerLength fr.header + 2 * e.strength.t) ∧
        headerLength fr.header + 2 * e.strength.t ≤ 255) ∧
      (e.action = .encode → codeFault e fr.header = true →
        outgoing fr = (fr.header, headerLength fr.header)) ∧
      (e.action = .strip → isDamaged fr.header = true →
        outgoing fr = (fr.header, headerLength fr.header)) ∧
      (e.action = .forward ∨ e.action = .check ∨ e.action = .correct →
        outgoing fr = (fr.header, headerLength fr.header))) ∧
    (fr.role ∈ [Role.forwardedOther, .request, .enumeration] →
      outgoing fr = (fr.header, headerLength fr.header))

/-- A transmission completion, with no reset that it lets take effect: a token lowers the debt, advances the
token sequence and may end OVERDUE; a response leaves the head of the response queue; a notice whose entry
still waits with its sequence becomes AWAITING_ACK with its retry timer started; a forwarded frame's
descriptor is freed and DATA counts SENT (R32, R106, R115, R147, R160). -/
def Obligations.CompletionsGoToTheirSource : Prop :=
  ∀ (s : State) (tx : Transmission) (received : List Byte), s.egress.transmitter = some tx →
    (∀ scope, ¬s.ResetTakesEffect (.transmissionCompletion received) scope) →
    (tx.source = .token →
      ∃ t, exec (.transmissionCompletion received) s = .next t ∧ t.egress.transmitter = none ∧
        t.egress.debt = s.egress.debt - 1 ∧
        t.egress.tokenSequence = s.egress.tokenSequence + 1 ∧
        t.egress.cadenceDue = s.egress.cadenceDue ∧
        (t.egress.overdue = true ↔ s.egress.overdue = true ∧ 2 ≤ t.egress.debt) ∧
        t.counters.globals = s.counters.globals.count .tokensSent ∧
        s.SameButTimer t [.transmitter, .clock, .cadence, .globalCounters]) ∧
    (∀ q rest, tx.source = .response → s.management.responses = q :: rest →
      ∃ t, exec (.transmissionCompletion received) s = .next t ∧ t.egress.transmitter = none ∧
        t.management.responses = rest ∧
        t.management.pendingReset = s.management.pendingReset.map (fun p =>
          if q.resetMark then { p with responseOutstanding := false } else p) ∧
        s.SameButTimer t [.transmitter, .clock, .responses, .pendingReset]) ∧
    (∀ c q, tx.source = .notice c q →
      ∃ t, exec (.transmissionCompletion received) s = .next t ∧ t.egress.transmitter = none ∧
        (∀ n r a, (s.classState c).entry = .pendingSend q (some n) r a →
          (t.classState c).entry = .awaitingAck q n r
            (t.now + Config.msec (10 * s.egress.timing.retryInterval)) ∧
          (t.classState c).raw = (s.classState c).raw ∧
          (t.classState c).enabled = (s.classState c).enabled) ∧
        ((∀ n r a, (s.classState c).entry ≠ .pendingSend q n r a) →
          t.classState c = s.classState c) ∧
        (∀ e, e ≠ c → t.classState e = s.classState e) ∧
        t.events.noticeSequence = s.events.noticeSequence ∧
        s.SameButTimer t [.transmitter, .clock, .events]) ∧
    (∀ d fr, tx.source = .forward d → s.desc? d = some fr →
      ∃ t, exec (.transmissionCompletion received) s = .next t ∧ t.egress.transmitter = none ∧
        s.Freed t d fr ∧ s.OtherDescs t d ∧
        s.FlowCounted t fr.flow (fr.countIf .sent) ∧
        t.management.pendingReset = s.management.pendingReset.map (fun p =>
          if fr.role = .request ∧ p.copyOutstanding = some d then { p with copyOutstanding := none }
          else p) ∧
        s.SameButTimer t [.transmitter, .clock, .freeLists, .holdOut, .descriptors, .flowCounters,
          .pendingReset])

/-- A pending reset takes effect in the completion that leaves nothing outstanding, be it that of the marked
response or that of the forwarded copy. FLUSH frees every descriptor, counting DROPPED for DATA, empties the
queues, engines and chains, sets the debt to 0 and restarts the cadence timer, the payload bytes that had
arrived of a frame in the receive slot standing in its freed cells (R20); RESTART also restores the flow
table, the timing, the token sequence, the claim, the event unit and the counters (R35, R82, R102, R122,
R147, R148, R149). -/
def Obligations.PendingResetTakesEffectAtTheLastDeparture : Prop :=
  ∀ (s : State) (received : List Byte) (scope : ResetScope), s.Inv →
    s.ResetTakesEffect (.transmissionCompletion received) scope →
    (∀ p : PendingReset, p.isDue = true ↔ p.responseOutstanding = false ∧ p.copyOutstanding = none) ∧
    ∃ t, exec (.transmissionCompletion received) s = .next t ∧ s.Flushed t received ∧
      (scope = .flush →
        t.table = s.table ∧ t.egress.timing = s.egress.timing ∧ t.management.claim = s.management.claim ∧
        t.egress.tokenSequence = s.egress.tokenSequence ∧ t.events = s.events ∧
        t.counters.globals = s.counters.globals ∧
        ∀ f, t.flowCounters f = { s.flowCounters f with
          dropped := min 4294967295 ((s.flowCounters f).dropped + s.present f) }) ∧
      (scope = .restart →
        t.table = FlowTable.reset ∧ t.egress.timing = ⟨1000, 2, 6, 500, 10⟩ ∧
        t.management.claim = none ∧ t.egress.tokenSequence = 0 ∧ t.events = EventUnit.reset ∧
        t.counters = CounterStore.reset ∧
        (∀ f, t.table.activeEntry f = ⟨.forward, .t0, .free, 4, 1000, .drop⟩ ∧
          t.table.stagedEntry f = ⟨.forward, .t0, .free, 4, 1000, .drop⟩) ∧
        t.table.active = .bankA ∧ t.table.generation = 0 ∧ t.table.copyInFlight = false ∧
        (∀ c, (t.classState c).raw = 0 ∧ (t.classState c).entry = .idle ∧
          ((t.classState c).enabled = true ↔ c = .addressTaken)) ∧
        t.events.noticeSequence = 0 ∧ (∀ f, ∀ n ∈ t.flowValues f, n = 0) ∧ ∀ n ∈ t.globalValues, n = 0)

/-! ### Requests -/

/-- The first four courses of acceptance, for every request row: with four entries queued the request is
shed; with the slot's address and sequence it is replayed; at 1 to 127 behind the slot's sequence it is
stale; and while a reset is pending it is answered BUSY. None is executed, and the replay slot is untouched
(R126, R129, R131, R132, R133). -/
def Obligations.RequestsShedReplayedStaleOrRefused : Prop :=
  ∀ (s : State) (d : DescId) (fr : Descriptor) (i : Instr) (kind seq : Byte) (args : List Byte),
    requestOf i = some (kind, seq :: args) → s.RequestInSlot d fr (args.length + 1) →
    (4 ≤ s.management.responses.length →
      ∃ t, exec i s = .next t ∧ s.RequestEnded t d fr (requestPayload kind (seq :: args)) ∧
        s.RaisedOnce t .requestShed ∧
        t.counters.globals = s.counters.globals.count .requestsShed ∧
        t.management.responses = s.management.responses ∧
        s.SameButTimer t (.events :: .globalCounters :: requestPieces)) ∧
    (s.management.responses.length < 4 →
      (∀ r, s.management.replay = some ⟨fr.header.source, seq, r⟩ → ∃ t, exec i s = .next t ∧
        s.Replied t d fr (requestPayload kind (seq :: args)) ⟨fr.header.source, r, false⟩) ∧
      (∀ r, s.management.replay = some r → r.requester = fr.header.source →
        1 ≤ (r.sequence - seq).toNat → (r.sequence - seq).toNat ≤ 127 →
        ∃ t, exec i s = .next t ∧
          s.Replied t d fr (requestPayload kind (seq :: args)) (answerOf fr kind seq .stale [])) ∧
      (s.management.pendingReset ≠ none →
        (∀ r, s.management.replay = some r → r.requester = fr.header.source →
          128 ≤ (r.sequence - seq).toNat) →
        ∃ t, exec i s = .next t ∧
          s.Replied t d fr (requestPayload kind (seq :: args)) (answerOf fr kind seq .busy [1])))

/-- The first three checks of a taken request, in order: a kind that is none of the fifteen gets UNKNOWN; a
wrong number of argument bytes BAD_ARG with no results; and a kind that needs the claim gets UNCLAIMED with
no holder, or HELD with the holder and the lease remaining when another manager holds it, ACK NOTICE only the
latter. A payload whose check passes but is too short to be a request, two bytes that are its check alone
or three with a kind byte and no sequence, gets no response and counts MGMT_CHECK_FAULTS (R125, R127, R134,
R135). That SET TIMING and SET EVENTS refused HELD carry the holder too is the model's choice against a
sentence of R144 (log entry 22). -/
def Obligations.TakenRequestsAreCheckedInOrder : Prop :=
  (∀ (s : State) (d : DescId) (fr : Descriptor), s.receiver.reception = .receiving d →
    s.desc? d = some fr → fr.role = .request → headerLength fr.header = 2 →
    ∃ t, exec (.frameEnd (withPayloadCheck [])) s = .next t ∧
      s.RequestEnded t d fr (withPayloadCheck []) ∧
      t.management.responses = s.management.responses ∧
      t.counters.globals = s.counters.globals.count .mgmtCheckFaults ∧
      s.SameButTimer t (.globalCounters :: requestPieces)) ∧
  ∀ (s : State) (d : DescId) (fr : Descriptor) (i : Instr) (kind : Byte),
    (requestOf i = some (kind, []) → s.RequestInSlot d fr 0 →
      ∃ t, exec i s = .next t ∧ s.RequestEnded t d fr (requestPayload kind []) ∧
        t.management.responses = s.management.responses ∧
        t.counters.globals = s.counters.globals.count .mgmtCheckFaults ∧
        s.SameButTimer t (.globalCounters :: requestPieces)) ∧
    ∀ (seq : Byte) (args : List Byte), requestOf i = some (kind, seq :: args) →
      s.RequestInSlot d fr (args.length + 1) → s.Takes fr.header.source seq →
      (argumentBytes kind = none → ∃ t, exec i s = .next t ∧
        s.Answered t d fr kind seq args .unknown [] []) ∧
      (∀ n, argumentBytes kind = some n → args.length ≠ n → ∃ t, exec i s = .next t ∧
        s.Answered t d fr kind seq args .badArg [] []) ∧
      (argumentBytes kind = some args.length → needsClaim kind = true → s.management.claim = none →
        ∃ t, exec i s = .next t ∧
          s.Answered t d fr kind seq args .unclaimed [] []) ∧
      (∀ c, argumentBytes kind = some args.length → (needsClaim kind = true ∨ kind = 0x0E#8) →
        s.management.claim = some c → c.holder ≠ fr.header.source →
        ∃ t, exec i s = .next t ∧
          s.Answered t d fr kind seq args .held [c.holder, byteOf (c.remaining s.now)] [])

/-- The reading requests, taken: each is answered with the bytes chapter 11.3 lays out for it, spelled here
byte by byte, of values sampled at the acceptance, and changes nothing else: PROBE the identity, READ FRAMES a
record of each descriptor that is not FREE, READ COUNTERS and READ GLOBALS the counters in the order of the
tables, READ STATUS the 46-byte snapshot. READ ENTRY of the staged bank is BUSY while the copy is in flight,
and a bank that is neither ACTIVE nor STAGED is BAD_ARG (R37, R47, R141, R142, R172, R173, R174, R180). -/
def Obligations.ReadingRequestsAnswerWithTheState : Prop :=
  ∀ (s : State) (d : DescId) (fr : Descriptor) (seq : Byte), s.Takes fr.header.source seq →
    (s.RequestInSlot d fr 1 →
      (∃ t, exec (.probe [seq]) s = .next t ∧
        s.Answered t d fr 0x01 seq [] .ok
          [0x3C, 0x24, 0x01, s.nodeAddress, BitVec.ofNat 8 (s.table.generation.toNat / 256),
            BitVec.ofNat 8 s.table.generation.toNat] []) ∧
      (∃ t, exec (.readFrames [seq]) s = .next t ∧
        s.Answered t d fr 0x07 seq [] .ok s.listingLayout []) ∧
      (∃ t, exec (.readGlobals [seq]) s = .next t ∧
        s.Answered t d fr 0x09 seq [] .ok (s.globalValues.flatMap counterLayout) []) ∧
      (∃ t, exec (.readStatus [seq]) s = .next t ∧
        s.Answered t d fr 0x0B seq [] .ok s.statusLayout [])) ∧
    (∀ f, s.RequestInSlot d fr 2 → ∃ t, exec (.readCounters [seq, f]) s = .next t ∧
      s.Answered t d fr 0x08 seq [f] .ok (f :: (s.flowValues f).flatMap counterLayout) []) ∧
    (∀ b f, s.RequestInSlot d fr 3 →
      (b = 0 → ∃ t, exec (.readEntry [seq, b, f]) s = .next t ∧
        s.Answered t d fr 0x04 seq [b, f] .ok (s.entryResultsLayout f (s.table.activeEntry f)) []) ∧
      (b = 1 → s.table.copyInFlight = false → ∃ t, exec (.readEntry [seq, b, f]) s = .next t ∧
        s.Answered t d fr 0x04 seq [b, f] .ok (s.entryResultsLayout f (s.table.stagedEntry f)) []) ∧
      (b = 1 → s.table.copyInFlight = true → ∃ t, exec (.readEntry [seq, b, f]) s = .next t ∧
        s.Answered t d fr 0x04 seq [b, f] .busy [2] []) ∧
      (b ≠ 0 → b ≠ 1 → ∃ t, exec (.readEntry [seq, b, f]) s = .next t ∧
        s.Answered t d fr 0x04 seq [b, f] .badArg [] []))

/-- CLAIM gives the claim to the requester, or restarts its lease, with the lease asked for; a lease of 0 or a
requester of address 0 or 255 gets BAD_ARG, and another holder HELD. RELEASE ends the requester's claim, and
the expiry of the lease ends any and raises LEASE_ENDED (R127, R137, R138, R139). The lease remaining is the
time left in whole seconds, rounded up; that it is clamped to 1 to 255 in states where the lease has run out
or is longer than any CLAIM makes it is the model's choice (log entry 14). -/
def Obligations.TheClaimIsGivenReleasedAndEnds : Prop :=
  (∀ (s : State) (d : DescId) (fr : Descriptor) (seq : Byte), s.Takes fr.header.source seq →
    (∀ lease, s.RequestInSlot d fr 2 →
      ((lease = 0 ∨ fr.header.source = 0 ∨ fr.header.source = 255) →
        ∃ t, exec (.claim [seq, lease]) s = .next t ∧
          s.Answered t d fr 0x02 seq [lease] .badArg [] []) ∧
      (lease ≠ 0 → fr.header.source ≠ 0 → fr.header.source ≠ 255 →
        (∀ c, s.management.claim = some c → c.holder = fr.header.source) →
        ∃ t, exec (.claim [seq, lease]) s = .next t ∧
          t.management.claim =
            some ⟨fr.header.source, s.now + Config.seconds lease.toNat⟩ ∧
          s.Answered t d fr 0x02 seq [lease] .ok [fr.header.source, lease] [.claim]) ∧
      (∀ c, lease ≠ 0 → fr.header.source ≠ 0 → fr.header.source ≠ 255 →
        s.management.claim = some c → c.holder ≠ fr.header.source →
        ∃ t, exec (.claim [seq, lease]) s = .next t ∧
          s.Answered t d fr 0x02 seq [lease] .held [c.holder, byteOf (c.remaining s.now)] [])) ∧
    (s.RequestInSlot d fr 1 →
      (s.management.claim = none → ∃ t, exec (.release [seq]) s = .next t ∧
        s.Answered t d fr 0x03 seq [] .unclaimed [] []) ∧
      (∀ c, s.management.claim = some c → c.holder = fr.header.source →
        ∃ t, exec (.release [seq]) s = .next t ∧ t.management.claim = none ∧
          s.Answered t d fr 0x03 seq [] .ok [] [.claim]) ∧
      (∀ c, s.management.claim = some c → c.holder ≠ fr.header.source →
        ∃ t, exec (.release [seq]) s = .next t ∧
          s.Answered t d fr 0x03 seq [] .held [c.holder, byteOf (c.remaining s.now)] []))) ∧
  ∀ (s : State) (c : Claim), s.management.claim = some c →
    1 ≤ c.remaining s.now ∧ c.remaining s.now ≤ 255 ∧
    (s.now < c.leaseEnds → c.leaseEnds ≤ s.now + Config.seconds 255 →
      Config.seconds (c.remaining s.now - 1) < c.leaseEnds - s.now ∧
      c.leaseEnds - s.now ≤ Config.seconds (c.remaining s.now)) ∧
    ∃ t, exec .leaseExpiry s = .next t ∧ t.management.claim = none ∧
      s.RaisedOnce t .leaseEnded ∧ s.SameButTimer t [.claim, .clock, .events]

/-- WRITE ENTRY replaces the staged entry of its flow whole, and only that, if it is valid; COMMIT swaps the
banks, raises the generation by 1 and begins the copy; both are BUSY while the copy is in flight; and at the
copy's completion the staged bank equals the active bank (R39, R46, R48, R49). -/
def Obligations.TheFlowTableIsWrittenAndCommitted : Prop :=
  (∀ (s : State) (d : DescId) (fr : Descriptor) (seq : Byte) (c : Claim), s.Takes fr.header.source seq →
    s.management.claim = some c → c.holder = fr.header.source →
    (∀ f entry, entry.length = 7 → s.RequestInSlot d fr 9 →
      (s.table.copyInFlight = true → ∃ t, exec (.writeEntry (seq :: f :: entry)) s = .next t ∧
        s.Answered t d fr 0x05 seq (f :: entry) .busy [2] []) ∧
      (s.table.copyInFlight = false → decodeEntry entry = none →
        ∃ t, exec (.writeEntry (seq :: f :: entry)) s = .next t ∧
          s.Answered t d fr 0x05 seq (f :: entry) .badArg [] []) ∧
      (∀ e, s.table.copyInFlight = false → decodeEntry entry = some e →
        ∃ t, exec (.writeEntry (seq :: f :: entry)) s = .next t ∧
          (∀ g, t.table.stagedEntry g = if g = f then e else s.table.stagedEntry g) ∧
          (∀ g, t.table.activeEntry g = s.table.activeEntry g) ∧
          t.table.active = s.table.active ∧ t.table.generation = s.table.generation ∧
          t.table.copyInFlight = false ∧
          s.Answered t d fr 0x05 seq (f :: entry) .ok (f :: bytes16 s.table.generation.toNat) [.table])) ∧
    (s.RequestInSlot d fr 1 →
      (s.table.copyInFlight = true → ∃ t, exec (.commit [seq]) s = .next t ∧
        s.Answered t d fr 0x06 seq [] .busy [2] []) ∧
      (s.table.copyInFlight = false → ∃ t, exec (.commit [seq]) s = .next t ∧
        t.table.active = (if s.table.active = .bankA then .bankB else .bankA) ∧ t.table.generation = s.table.generation + 1 ∧
        t.table.copyInFlight = true ∧ (∀ g, t.table.activeEntry g = s.table.stagedEntry g) ∧
        s.Answered t d fr 0x06 seq [] .ok (bytes16 (s.table.generation + 1).toNat) [.table]))) ∧
  ∀ s : State, s.table.copyInFlight = true → ∃ t, exec .copyCompletion s = .next t ∧
    (∀ g, t.table.stagedEntry g = s.table.activeEntry g ∧
      t.table.activeEntry g = s.table.activeEntry g) ∧
    t.table.active = s.table.active ∧ t.table.generation = s.table.generation ∧
    t.table.copyInFlight = false ∧ s.SameButTimer t [.table]

/-- CLEAR COUNTERS sets one flow's eight counters, or every counter, to 0. SET TIMING replaces the five
parameters together, or none: a new P restarts the cadence timer, an OT no greater than the debt sets
OVERDUE at once, and the response carries the parameters in force. RESET PART of scope FLUSH or RESTART makes
the pending-reset record, with its response outstanding and, for a broadcast, the copy of its own descriptor,
and its response carries the reset mark; another scope is BAD_ARG (R120, R121, R143, R146). -/
def Obligations.CountersTimingAndResetRequestsTakeEffect : Prop :=
  ∀ (s : State) (d : DescId) (fr : Descriptor) (seq : Byte) (c : Claim), s.Takes fr.header.source seq →
    s.management.claim = some c → c.holder = fr.header.source →
    (∀ selector f, s.RequestInSlot d fr 3 →
      (selector = 0 → ∃ t, exec (.clearCounters [seq, selector, f]) s = .next t ∧
        s.FlowCounted t f (fun _ => FlowCounters.zero) ∧
        s.Answered t d fr 0x0A seq [selector, f] .ok [selector, f] [.flowCounters]) ∧
      (selector = 1 → ∃ t, exec (.clearCounters [seq, selector, f]) s = .next t ∧
        (∀ g, t.flowCounters g = FlowCounters.zero) ∧ t.counters.globals = GlobalCounters.zero ∧
        s.Answered t d fr 0x0A seq [selector, f] .ok [selector, f] [.flowCounters, .globalCounters]) ∧
      (selector ≠ 0 → selector ≠ 1 → ∃ t, exec (.clearCounters [seq, selector, f]) s = .next t ∧
        s.Answered t d fr 0x0A seq [selector, f] .badArg [] [])) ∧
    (∀ args, args.length = 7 → s.RequestInSlot d fr 8 →
      (decodeTiming args = none → ∃ t, exec (.setTiming (seq :: args)) s = .next t ∧
        s.Answered t d fr 0x0C seq args .badArg (encodeTiming s.egress.timing) []) ∧
      ∀ tm, decodeTiming args = some tm → ∃ t, exec (.setTiming (seq :: args)) s = .next t ∧
        t.egress.timing = tm ∧
        t.egress.cadenceDue = (if tm.period = s.egress.timing.period then s.egress.cadenceDue
          else s.now + Config.usec tm.period) ∧
        t.egress.debt = s.egress.debt ∧ t.egress.tokenSequence = s.egress.tokenSequence ∧
        (t.egress.overdue = true ↔
          s.egress.overdue = true ∨ tm.overdueThreshold ≤ s.egress.debt) ∧
        s.Answered t d fr 0x0C seq args .ok (encodeTiming tm) [.timing, .cadence]) ∧
    ∀ b, s.RequestInSlot d fr 2 →
      (∀ scope, (b = 1 ∧ scope = .flush ∨ b = 2 ∧ scope = .restart) →
        ∃ t, exec (.resetPart [seq, b]) s = .next t ∧
          t.management.pendingReset =
            some ⟨scope, true, if fr.header.destination = 255 then some d else none⟩ ∧
          s.Answered t d fr 0x0F seq [b] .ok [b] [.pendingReset] true) ∧
      (b ≠ 1 → b ≠ 2 → ∃ t, exec (.resetPart [seq, b]) s = .next t ∧
        s.Answered t d fr 0x0F seq [b] .badArg [] [])

/-! ### Events -/

/-- SET EVENTS replaces all twelve enables: a class newly disabled has its entry withdrawn, a class newly
enabled with a raw count above 0 has a notice issued, the sequences rise with the class numbers, and every
other class is as it was; a set that names a class above 11 is BAD_ARG (R144, R158, R165). -/
def Obligations.SetEventsWithdrawsAndIssues : Prop :=
  ∀ (s : State) (d : DescId) (fr : Descriptor) (seq hi lo : Byte) (c : Claim),
    s.Takes fr.header.source seq → s.management.claim = some c → c.holder = fr.header.source →
    s.RequestInSlot d fr 3 →
    (16 ≤ hi.toNat → ∃ t, exec (.setEvents [seq, hi, lo]) s = .next t ∧
      s.Answered t d fr 0x0D seq [hi, lo] .badArg [] []) ∧
    (hi.toNat < 16 →
      let set := BitVec.ofNat 16 (256 * hi.toNat + lo.toNat)
      let on (e : EventClass) : Bool := set.getLsbD (classNumber e).val
      let issues (e : EventClass) : Bool :=
        on e && !(s.classState e).enabled && decide (0 < (s.classState e).raw)
      let before (e : EventClass) : Nat :=
        (allClasses.filter fun x => issues x && decide (classNumber x < classNumber e)).length
      ∃ t, exec (.setEvents [seq, hi, lo]) s = .next t ∧
        (∀ e, (t.classState e).enabled = on e ∧ (t.classState e).raw = (s.classState e).raw ∧
          (t.classState e).entry =
            if issues e then
              .pendingSend (s.events.noticeSequence + BitVec.ofNat 8 (before e)) none 0
                (s.events.nextAge + before e)
            else if on e = (s.classState e).enabled then (s.classState e).entry
            else if on e then (s.classState e).entry else .idle) ∧
        t.events.noticeSequence =
          s.events.noticeSequence + BitVec.ofNat 8 (allClasses.filter issues).length ∧
        s.Answered t d fr 0x0D seq [hi, lo] .ok [hi, lo] [.events])

/-- ACK NOTICE, from the holder or while there is none: one that matches its class's entry takes the sent
count off the raw count, and leaves the class IDLE, or with a new notice while occurrences remain; one that
does not match is STALE and a class above 11 BAD_ARG. At the expiry of its retry timer an entry is resent,
three times, and is then EXHAUSTED (R145, R161, R163). -/
def Obligations.NoticesAreAcknowledgedAndRetried : Prop :=
  (∀ (s : State) (d : DescId) (fr : Descriptor) (seq cb q : Byte), s.Takes fr.header.source seq →
    (∀ c, s.management.claim = some c → c.holder = fr.header.source) → s.RequestInSlot d fr 3 →
    (12 ≤ cb.toNat → ∃ t, exec (.ackNotice [seq, cb, q]) s = .next t ∧
      s.Answered t d fr 0x0E seq [cb, q] .badArg [] []) ∧
    ∀ k : EventClass, cb = byteOf (classNumber k).val →
      let before := s.classState k
      let left := before.raw - before.entry.sentOrZero
      (before.entry.sequence? ≠ some q → ∃ t, exec (.ackNotice [seq, cb, q]) s = .next t ∧
        s.Answered t d fr 0x0E seq [cb, q] .stale [] []) ∧
      (before.entry.sequence? = some q → ∃ t, exec (.ackNotice [seq, cb, q]) s = .next t ∧
        (t.classState k).raw = left ∧ (t.classState k).enabled = before.enabled ∧
        (∀ e, e ≠ k → t.classState e = s.classState e) ∧
        (left = 0 → (t.classState k).entry = .idle ∧
          t.events.noticeSequence = s.events.noticeSequence) ∧
        (0 < left →
          (t.classState k).entry = .pendingSend s.events.noticeSequence none 0 s.events.nextAge ∧
          t.events.noticeSequence = s.events.noticeSequence + 1) ∧
        s.Answered t d fr 0x0E seq [cb, q] .ok ([cb] ++ bytes16 left ++
          (if left = 0 then [0, 0] else [1, s.events.noticeSequence])) [.events])) ∧
  ∀ (s : State) (c : EventClass) (q : Byte) (n r due : Nat),
    (s.classState c).entry = .awaitingAck q n r due →
    ∃ t, exec (.retryTimerExpiry c) s = .next t ∧
      (r < 3 → (t.classState c).entry = .pendingSend q (some n) (r + 1) s.events.nextAge ∧
        t.events.nextAge = s.events.nextAge + 1) ∧
      (3 ≤ r → (t.classState c).entry = .exhausted q n) ∧
      (t.classState c).raw = (s.classState c).raw ∧
      (t.classState c).enabled = (s.classState c).enabled ∧
      (∀ e, e ≠ c → t.classState e = s.classState e) ∧
      t.events.noticeSequence = s.events.noticeSequence ∧ s.SameButTimer t [.clock, .events]

/-! ### Formats -/

/-- Entries and timing parameters decode as they are encoded, into the bytes of chapter 11.2; an accepted
encoding is valid, as R39 and R120 have it, and is the only one of its value. The header check is the register
of polynomial 07h begun at FFh, the payload check that of 1021h begun at FFFFh, fed with the bytes before the
check, each most significant bit first; a header passes if its eighth byte is that remainder, and a payload if
it is two bytes or more and its last two are, most significant byte first; and what the part builds passes. A
16-bit field is two bytes, most significant first; statuses, strengths and event classes have the numbers of
their tables (R38, R39, R120, R153, R178, R179, R180). -/
def Obligations.FormatsDecodeAsTheyAreEncoded : Prop :=
  (∀ e : FlowEntry, (e.valid = true ↔ e.InRange) ∧ encodeEntry e = entryLayout e ∧
    (e.valid = true → decodeEntry (encodeEntry e) = some e)) ∧
  (∀ (bytes : List Byte) (e : FlowEntry), decodeEntry bytes = some e →
    encodeEntry e = bytes ∧ e.valid = true) ∧
  (∀ tm : Timing, (tm.valid = true ↔ tm.InRange) ∧ encodeTiming tm = timingLayout tm ∧
    (tm.valid = true → decodeTiming (encodeTiming tm) = some tm)) ∧
  (∀ (bytes : List Byte) (tm : Timing), decodeTiming bytes = some tm →
    encodeTiming tm = bytes ∧ tm.valid = true) ∧
  (∀ (bytes : List Byte) (b : Byte),
    headerCrc [] = 0xFF ∧ headerCrc (bytes ++ [b]) = registerAfterByte 0x07#8 (headerCrc bytes) b ∧
    payloadCrc [] = 0xFFFF ∧
    payloadCrc (bytes ++ [b]) = registerAfterByte 0x1021#16 (payloadCrc bytes) b) ∧
  (∀ h : HeaderBytes,
    let checked := [h.destination, h.source, h.kindFlags, h.flow, h.code, h.length, h.sequence]
    checkedBytes h = checked ∧ headerList h = checked ++ [h.check] ∧ headerLength h = h.length.toNat ∧
    (headerCheckPasses h = true ↔ h.check = headerCrc checked) ∧
    withHeaderCheck h = { h with check := headerCrc checked } ∧
    headerCheckPasses (withHeaderCheck h) = true) ∧
  (∀ p : List Byte, (payloadCheckPasses p = true ↔ ∃ body, p = body ++
      [BitVec.ofNat 8 ((payloadCrc body).toNat / 256), BitVec.ofNat 8 (payloadCrc body).toNat]) ∧
    withPayloadCheck p = p ++
      [BitVec.ofNat 8 ((payloadCrc p).toNat / 256), BitVec.ofNat 8 (payloadCrc p).toNat] ∧
    payloadCheckPasses (withPayloadCheck p) = true ∧
    ∀ kind, requestPayload kind p = withPayloadCheck (kind :: p)) ∧
  (∀ st : Status, st.code = statusLayout st) ∧
  (∀ n : Nat, byteOf n = BitVec.ofNat 8 n ∧
    bytes16 n = [BitVec.ofNat 8 (n / 256), BitVec.ofNat 8 n]) ∧
  [Strength.t0, .t1, .t2, .t4, .t8].map Strength.t = [0, 1, 2, 4, 8] ∧
  allClasses = classLayout ∧ ∀ c : EventClass, classLayout[(classNumber c).val]? = some c

end
end

