-- ==== Sys2Proof/Laws/State.lean ====
section
/-! SUPPORT. One lemma per field for each named update of the state: what the update leaves unchanged,
and what it puts in the field it writes. -/

namespace Sys2Proof.Machine

/-! ### `State.evaluateHoldOut` -/

@[simp] theorem State.evaluateHoldOut_receiver (s : State) : s.evaluateHoldOut.receiver = s.receiver := rfl
@[simp] theorem State.evaluateHoldOut_nodeAddress (s : State) : s.evaluateHoldOut.nodeAddress = s.nodeAddress := rfl
@[simp] theorem State.evaluateHoldOut_store (s : State) :
    s.evaluateHoldOut.store = s.store.evaluated := rfl
@[simp] theorem State.evaluateHoldOut_table (s : State) : s.evaluateHoldOut.table = s.table := rfl
@[simp] theorem State.evaluateHoldOut_codeUnit (s : State) : s.evaluateHoldOut.codeUnit = s.codeUnit := rfl
@[simp] theorem State.evaluateHoldOut_locator (s : State) : s.evaluateHoldOut.locator = s.locator := rfl
@[simp] theorem State.evaluateHoldOut_order (s : State) : s.evaluateHoldOut.order = s.order := rfl
@[simp] theorem State.evaluateHoldOut_egress (s : State) : s.evaluateHoldOut.egress = s.egress := rfl
@[simp] theorem State.evaluateHoldOut_management (s : State) : s.evaluateHoldOut.management = s.management := rfl
@[simp] theorem State.evaluateHoldOut_events (s : State) : s.evaluateHoldOut.events = s.events := rfl
@[simp] theorem State.evaluateHoldOut_counters (s : State) : s.evaluateHoldOut.counters = s.counters := rfl
@[simp] theorem State.evaluateHoldOut_now (s : State) : s.evaluateHoldOut.now = s.now := rfl
@[simp] theorem State.evaluateHoldOut_pending (s : State) : s.evaluateHoldOut.pending = s.pending := rfl

/-! ### `State.settle` -/

@[simp] theorem State.settle_receiver (s : State) : s.settle.receiver = s.receiver := rfl
@[simp] theorem State.settle_nodeAddress (s : State) : s.settle.nodeAddress = s.nodeAddress := rfl
@[simp] theorem State.settle_store (s : State) : s.settle.store = s.store := rfl
@[simp] theorem State.settle_table (s : State) : s.settle.table = s.table := rfl
@[simp] theorem State.settle_codeUnit (s : State) : s.settle.codeUnit = s.codeUnit := rfl
@[simp] theorem State.settle_locator (s : State) : s.settle.locator = s.locator := rfl
@[simp] theorem State.settle_order (s : State) : s.settle.order = s.order := rfl
@[simp] theorem State.settle_management (s : State) : s.settle.management = s.management := rfl
@[simp] theorem State.settle_events (s : State) : s.settle.events = s.events := rfl
@[simp] theorem State.settle_counters (s : State) : s.settle.counters = s.counters := rfl
@[simp] theorem State.settle_now (s : State) : s.settle.now = s.now := rfl
@[simp] theorem State.settle_pending (s : State) : s.settle.pending = s.pending := rfl

/-! ### `State.advanceTo` -/

@[simp] theorem State.advanceTo_receiver (s : State) (n : Nat) : (s.advanceTo n).receiver = s.receiver := rfl
@[simp] theorem State.advanceTo_nodeAddress (s : State) (n : Nat) : (s.advanceTo n).nodeAddress = s.nodeAddress := rfl
@[simp] theorem State.advanceTo_store (s : State) (n : Nat) : (s.advanceTo n).store = s.store := rfl
@[simp] theorem State.advanceTo_table (s : State) (n : Nat) : (s.advanceTo n).table = s.table := rfl
@[simp] theorem State.advanceTo_codeUnit (s : State) (n : Nat) : (s.advanceTo n).codeUnit = s.codeUnit := rfl
@[simp] theorem State.advanceTo_locator (s : State) (n : Nat) : (s.advanceTo n).locator = s.locator := rfl
@[simp] theorem State.advanceTo_order (s : State) (n : Nat) : (s.advanceTo n).order = s.order := rfl
@[simp] theorem State.advanceTo_egress (s : State) (n : Nat) : (s.advanceTo n).egress = s.egress := rfl
@[simp] theorem State.advanceTo_management (s : State) (n : Nat) : (s.advanceTo n).management = s.management := rfl
@[simp] theorem State.advanceTo_events (s : State) (n : Nat) : (s.advanceTo n).events = s.events := rfl
@[simp] theorem State.advanceTo_counters (s : State) (n : Nat) : (s.advanceTo n).counters = s.counters := rfl
@[simp] theorem State.advanceTo_now (s : State) (n : Nat) :
    (s.advanceTo n).now = max s.now n := rfl
@[simp] theorem State.advanceTo_pending (s : State) (n : Nat) : (s.advanceTo n).pending = s.pending := rfl

/-! ### `State.putDesc` -/

@[simp] theorem State.putDesc_receiver (s : State) (d : DescId) (fr : Option Descriptor) : (s.putDesc d fr).receiver = s.receiver := rfl
@[simp] theorem State.putDesc_nodeAddress (s : State) (d : DescId) (fr : Option Descriptor) : (s.putDesc d fr).nodeAddress = s.nodeAddress := rfl
@[simp] theorem State.putDesc_store (s : State) (d : DescId) (fr : Option Descriptor) :
    (s.putDesc d fr).store = { s.store with descs := s.store.descs.set d.val fr d.isLt } := rfl
@[simp] theorem State.putDesc_table (s : State) (d : DescId) (fr : Option Descriptor) : (s.putDesc d fr).table = s.table := rfl
@[simp] theorem State.putDesc_codeUnit (s : State) (d : DescId) (fr : Option Descriptor) : (s.putDesc d fr).codeUnit = s.codeUnit := rfl
@[simp] theorem State.putDesc_locator (s : State) (d : DescId) (fr : Option Descriptor) : (s.putDesc d fr).locator = s.locator := rfl
@[simp] theorem State.putDesc_order (s : State) (d : DescId) (fr : Option Descriptor) : (s.putDesc d fr).order = s.order := rfl
@[simp] theorem State.putDesc_egress (s : State) (d : DescId) (fr : Option Descriptor) : (s.putDesc d fr).egress = s.egress := rfl
@[simp] theorem State.putDesc_management (s : State) (d : DescId) (fr : Option Descriptor) : (s.putDesc d fr).management = s.management := rfl
@[simp] theorem State.putDesc_events (s : State) (d : DescId) (fr : Option Descriptor) : (s.putDesc d fr).events = s.events := rfl
@[simp] theorem State.putDesc_counters (s : State) (d : DescId) (fr : Option Descriptor) : (s.putDesc d fr).counters = s.counters := rfl
@[simp] theorem State.putDesc_now (s : State) (d : DescId) (fr : Option Descriptor) : (s.putDesc d fr).now = s.now := rfl
@[simp] theorem State.putDesc_pending (s : State) (d : DescId) (fr : Option Descriptor) : (s.putDesc d fr).pending = s.pending := rfl

/-! ### `State.modDesc` -/

@[simp] theorem State.modDesc_receiver (s : State) (d : DescId) (f : Descriptor → Descriptor) : (s.modDesc d f).receiver = s.receiver := rfl
@[simp] theorem State.modDesc_nodeAddress (s : State) (d : DescId) (f : Descriptor → Descriptor) : (s.modDesc d f).nodeAddress = s.nodeAddress := rfl
@[simp] theorem State.modDesc_table (s : State) (d : DescId) (f : Descriptor → Descriptor) : (s.modDesc d f).table = s.table := rfl
@[simp] theorem State.modDesc_codeUnit (s : State) (d : DescId) (f : Descriptor → Descriptor) : (s.modDesc d f).codeUnit = s.codeUnit := rfl
@[simp] theorem State.modDesc_locator (s : State) (d : DescId) (f : Descriptor → Descriptor) : (s.modDesc d f).locator = s.locator := rfl
@[simp] theorem State.modDesc_order (s : State) (d : DescId) (f : Descriptor → Descriptor) : (s.modDesc d f).order = s.order := rfl
@[simp] theorem State.modDesc_egress (s : State) (d : DescId) (f : Descriptor → Descriptor) : (s.modDesc d f).egress = s.egress := rfl
@[simp] theorem State.modDesc_management (s : State) (d : DescId) (f : Descriptor → Descriptor) : (s.modDesc d f).management = s.management := rfl
@[simp] theorem State.modDesc_events (s : State) (d : DescId) (f : Descriptor → Descriptor) : (s.modDesc d f).events = s.events := rfl
@[simp] theorem State.modDesc_counters (s : State) (d : DescId) (f : Descriptor → Descriptor) : (s.modDesc d f).counters = s.counters := rfl
@[simp] theorem State.modDesc_now (s : State) (d : DescId) (f : Descriptor → Descriptor) : (s.modDesc d f).now = s.now := rfl
@[simp] theorem State.modDesc_pending (s : State) (d : DescId) (f : Descriptor → Descriptor) : (s.modDesc d f).pending = s.pending := rfl

/-! ### `State.putMemory` -/

@[simp] theorem State.putMemory_receiver (s : State) (m : Memory) : (s.putMemory m).receiver = s.receiver := rfl
@[simp] theorem State.putMemory_nodeAddress (s : State) (m : Memory) : (s.putMemory m).nodeAddress = s.nodeAddress := rfl
@[simp] theorem State.putMemory_store (s : State) (m : Memory) :
    (s.putMemory m).store = { s.store with memory := m } := rfl
@[simp] theorem State.putMemory_table (s : State) (m : Memory) : (s.putMemory m).table = s.table := rfl
@[simp] theorem State.putMemory_codeUnit (s : State) (m : Memory) : (s.putMemory m).codeUnit = s.codeUnit := rfl
@[simp] theorem State.putMemory_locator (s : State) (m : Memory) : (s.putMemory m).locator = s.locator := rfl
@[simp] theorem State.putMemory_order (s : State) (m : Memory) : (s.putMemory m).order = s.order := rfl
@[simp] theorem State.putMemory_egress (s : State) (m : Memory) : (s.putMemory m).egress = s.egress := rfl
@[simp] theorem State.putMemory_management (s : State) (m : Memory) : (s.putMemory m).management = s.management := rfl
@[simp] theorem State.putMemory_events (s : State) (m : Memory) : (s.putMemory m).events = s.events := rfl
@[simp] theorem State.putMemory_counters (s : State) (m : Memory) : (s.putMemory m).counters = s.counters := rfl
@[simp] theorem State.putMemory_now (s : State) (m : Memory) : (s.putMemory m).now = s.now := rfl
@[simp] theorem State.putMemory_pending (s : State) (m : Memory) : (s.putMemory m).pending = s.pending := rfl

/-! ### `State.setPlace` -/

@[simp] theorem State.setPlace_receiver (s : State) (d : DescId) (p : Place) : (s.setPlace d p).receiver = s.receiver := rfl
@[simp] theorem State.setPlace_nodeAddress (s : State) (d : DescId) (p : Place) : (s.setPlace d p).nodeAddress = s.nodeAddress := rfl
@[simp] theorem State.setPlace_table (s : State) (d : DescId) (p : Place) : (s.setPlace d p).table = s.table := rfl
@[simp] theorem State.setPlace_codeUnit (s : State) (d : DescId) (p : Place) : (s.setPlace d p).codeUnit = s.codeUnit := rfl
@[simp] theorem State.setPlace_locator (s : State) (d : DescId) (p : Place) : (s.setPlace d p).locator = s.locator := rfl
@[simp] theorem State.setPlace_order (s : State) (d : DescId) (p : Place) : (s.setPlace d p).order = s.order := rfl
@[simp] theorem State.setPlace_egress (s : State) (d : DescId) (p : Place) : (s.setPlace d p).egress = s.egress := rfl
@[simp] theorem State.setPlace_management (s : State) (d : DescId) (p : Place) : (s.setPlace d p).management = s.management := rfl
@[simp] theorem State.setPlace_events (s : State) (d : DescId) (p : Place) : (s.setPlace d p).events = s.events := rfl
@[simp] theorem State.setPlace_counters (s : State) (d : DescId) (p : Place) : (s.setPlace d p).counters = s.counters := rfl
@[simp] theorem State.setPlace_now (s : State) (d : DescId) (p : Place) : (s.setPlace d p).now = s.now := rfl
@[simp] theorem State.setPlace_pending (s : State) (d : DescId) (p : Place) : (s.setPlace d p).pending = s.pending := rfl

/-! ### `State.setDamaged` -/

@[simp] theorem State.setDamaged_receiver (s : State) (d : DescId) : (s.setDamaged d).receiver = s.receiver := rfl
@[simp] theorem State.setDamaged_nodeAddress (s : State) (d : DescId) : (s.setDamaged d).nodeAddress = s.nodeAddress := rfl
@[simp] theorem State.setDamaged_table (s : State) (d : DescId) : (s.setDamaged d).table = s.table := rfl
@[simp] theorem State.setDamaged_codeUnit (s : State) (d : DescId) : (s.setDamaged d).codeUnit = s.codeUnit := rfl
@[simp] theorem State.setDamaged_locator (s : State) (d : DescId) : (s.setDamaged d).locator = s.locator := rfl
@[simp] theorem State.setDamaged_order (s : State) (d : DescId) : (s.setDamaged d).order = s.order := rfl
@[simp] theorem State.setDamaged_egress (s : State) (d : DescId) : (s.setDamaged d).egress = s.egress := rfl
@[simp] theorem State.setDamaged_management (s : State) (d : DescId) : (s.setDamaged d).management = s.management := rfl
@[simp] theorem State.setDamaged_events (s : State) (d : DescId) : (s.setDamaged d).events = s.events := rfl
@[simp] theorem State.setDamaged_counters (s : State) (d : DescId) : (s.setDamaged d).counters = s.counters := rfl
@[simp] theorem State.setDamaged_now (s : State) (d : DescId) : (s.setDamaged d).now = s.now := rfl
@[simp] theorem State.setDamaged_pending (s : State) (d : DescId) : (s.setDamaged d).pending = s.pending := rfl

/-! ### `State.startDeadline` -/

@[simp] theorem State.startDeadline_receiver (s : State) (d : DescId) : (s.startDeadline d).receiver = s.receiver := rfl
@[simp] theorem State.startDeadline_nodeAddress (s : State) (d : DescId) : (s.startDeadline d).nodeAddress = s.nodeAddress := rfl
@[simp] theorem State.startDeadline_table (s : State) (d : DescId) : (s.startDeadline d).table = s.table := rfl
@[simp] theorem State.startDeadline_codeUnit (s : State) (d : DescId) : (s.startDeadline d).codeUnit = s.codeUnit := rfl
@[simp] theorem State.startDeadline_locator (s : State) (d : DescId) : (s.startDeadline d).locator = s.locator := rfl
@[simp] theorem State.startDeadline_order (s : State) (d : DescId) : (s.startDeadline d).order = s.order := rfl
@[simp] theorem State.startDeadline_egress (s : State) (d : DescId) : (s.startDeadline d).egress = s.egress := rfl
@[simp] theorem State.startDeadline_management (s : State) (d : DescId) : (s.startDeadline d).management = s.management := rfl
@[simp] theorem State.startDeadline_events (s : State) (d : DescId) : (s.startDeadline d).events = s.events := rfl
@[simp] theorem State.startDeadline_counters (s : State) (d : DescId) : (s.startDeadline d).counters = s.counters := rfl
@[simp] theorem State.startDeadline_now (s : State) (d : DescId) : (s.startDeadline d).now = s.now := rfl
@[simp] theorem State.startDeadline_pending (s : State) (d : DescId) : (s.startDeadline d).pending = s.pending := rfl

/-! ### `State.countFlow` -/

@[simp] theorem State.countFlow_receiver (s : State) (f : Byte) (c : FlowCounter) (n : Nat) : (s.countFlow f c n).receiver = s.receiver := rfl
@[simp] theorem State.countFlow_nodeAddress (s : State) (f : Byte) (c : FlowCounter) (n : Nat) : (s.countFlow f c n).nodeAddress = s.nodeAddress := rfl
@[simp] theorem State.countFlow_store (s : State) (f : Byte) (c : FlowCounter) (n : Nat) : (s.countFlow f c n).store = s.store := rfl
@[simp] theorem State.countFlow_table (s : State) (f : Byte) (c : FlowCounter) (n : Nat) : (s.countFlow f c n).table = s.table := rfl
@[simp] theorem State.countFlow_codeUnit (s : State) (f : Byte) (c : FlowCounter) (n : Nat) : (s.countFlow f c n).codeUnit = s.codeUnit := rfl
@[simp] theorem State.countFlow_locator (s : State) (f : Byte) (c : FlowCounter) (n : Nat) : (s.countFlow f c n).locator = s.locator := rfl
@[simp] theorem State.countFlow_order (s : State) (f : Byte) (c : FlowCounter) (n : Nat) : (s.countFlow f c n).order = s.order := rfl
@[simp] theorem State.countFlow_egress (s : State) (f : Byte) (c : FlowCounter) (n : Nat) : (s.countFlow f c n).egress = s.egress := rfl
@[simp] theorem State.countFlow_management (s : State) (f : Byte) (c : FlowCounter) (n : Nat) : (s.countFlow f c n).management = s.management := rfl
@[simp] theorem State.countFlow_events (s : State) (f : Byte) (c : FlowCounter) (n : Nat) : (s.countFlow f c n).events = s.events := rfl
@[simp] theorem State.countFlow_now (s : State) (f : Byte) (c : FlowCounter) (n : Nat) : (s.countFlow f c n).now = s.now := rfl
@[simp] theorem State.countFlow_pending (s : State) (f : Byte) (c : FlowCounter) (n : Nat) : (s.countFlow f c n).pending = s.pending := rfl

/-! ### `State.countGlobal` -/

@[simp] theorem State.countGlobal_receiver (s : State) (c : GlobalCounter) : (s.countGlobal c).receiver = s.receiver := rfl
@[simp] theorem State.countGlobal_nodeAddress (s : State) (c : GlobalCounter) : (s.countGlobal c).nodeAddress = s.nodeAddress := rfl
@[simp] theorem State.countGlobal_store (s : State) (c : GlobalCounter) : (s.countGlobal c).store = s.store := rfl
@[simp] theorem State.countGlobal_table (s : State) (c : GlobalCounter) : (s.countGlobal c).table = s.table := rfl
@[simp] theorem State.countGlobal_codeUnit (s : State) (c : GlobalCounter) : (s.countGlobal c).codeUnit = s.codeUnit := rfl
@[simp] theorem State.countGlobal_locator (s : State) (c : GlobalCounter) : (s.countGlobal c).locator = s.locator := rfl
@[simp] theorem State.countGlobal_order (s : State) (c : GlobalCounter) : (s.countGlobal c).order = s.order := rfl
@[simp] theorem State.countGlobal_egress (s : State) (c : GlobalCounter) : (s.countGlobal c).egress = s.egress := rfl
@[simp] theorem State.countGlobal_management (s : State) (c : GlobalCounter) : (s.countGlobal c).management = s.management := rfl
@[simp] theorem State.countGlobal_events (s : State) (c : GlobalCounter) : (s.countGlobal c).events = s.events := rfl
@[simp] theorem State.countGlobal_counters (s : State) (c : GlobalCounter) :
    (s.countGlobal c).counters = { s.counters with globals := s.counters.globals.count c } := rfl
@[simp] theorem State.countGlobal_now (s : State) (c : GlobalCounter) : (s.countGlobal c).now = s.now := rfl
@[simp] theorem State.countGlobal_pending (s : State) (c : GlobalCounter) : (s.countGlobal c).pending = s.pending := rfl

/-! ### `State.putClass` -/

@[simp] theorem State.putClass_receiver (s : State) (c : EventClass) (k : ClassState) : (s.putClass c k).receiver = s.receiver := rfl
@[simp] theorem State.putClass_nodeAddress (s : State) (c : EventClass) (k : ClassState) : (s.putClass c k).nodeAddress = s.nodeAddress := rfl
@[simp] theorem State.putClass_store (s : State) (c : EventClass) (k : ClassState) : (s.putClass c k).store = s.store := rfl
@[simp] theorem State.putClass_table (s : State) (c : EventClass) (k : ClassState) : (s.putClass c k).table = s.table := rfl
@[simp] theorem State.putClass_codeUnit (s : State) (c : EventClass) (k : ClassState) : (s.putClass c k).codeUnit = s.codeUnit := rfl
@[simp] theorem State.putClass_locator (s : State) (c : EventClass) (k : ClassState) : (s.putClass c k).locator = s.locator := rfl
@[simp] theorem State.putClass_order (s : State) (c : EventClass) (k : ClassState) : (s.putClass c k).order = s.order := rfl
@[simp] theorem State.putClass_egress (s : State) (c : EventClass) (k : ClassState) : (s.putClass c k).egress = s.egress := rfl
@[simp] theorem State.putClass_management (s : State) (c : EventClass) (k : ClassState) : (s.putClass c k).management = s.management := rfl
@[simp] theorem State.putClass_counters (s : State) (c : EventClass) (k : ClassState) : (s.putClass c k).counters = s.counters := rfl
@[simp] theorem State.putClass_now (s : State) (c : EventClass) (k : ClassState) : (s.putClass c k).now = s.now := rfl
@[simp] theorem State.putClass_pending (s : State) (c : EventClass) (k : ClassState) : (s.putClass c k).pending = s.pending := rfl

/-! ### `State.putEntry` -/

@[simp] theorem State.putEntry_receiver (s : State) (c : EventClass) (e : NoticeEntry) : (s.putEntry c e).receiver = s.receiver := rfl
@[simp] theorem State.putEntry_nodeAddress (s : State) (c : EventClass) (e : NoticeEntry) : (s.putEntry c e).nodeAddress = s.nodeAddress := rfl
@[simp] theorem State.putEntry_store (s : State) (c : EventClass) (e : NoticeEntry) : (s.putEntry c e).store = s.store := rfl
@[simp] theorem State.putEntry_table (s : State) (c : EventClass) (e : NoticeEntry) : (s.putEntry c e).table = s.table := rfl
@[simp] theorem State.putEntry_codeUnit (s : State) (c : EventClass) (e : NoticeEntry) : (s.putEntry c e).codeUnit = s.codeUnit := rfl
@[simp] theorem State.putEntry_locator (s : State) (c : EventClass) (e : NoticeEntry) : (s.putEntry c e).locator = s.locator := rfl
@[simp] theorem State.putEntry_order (s : State) (c : EventClass) (e : NoticeEntry) : (s.putEntry c e).order = s.order := rfl
@[simp] theorem State.putEntry_egress (s : State) (c : EventClass) (e : NoticeEntry) : (s.putEntry c e).egress = s.egress := rfl
@[simp] theorem State.putEntry_management (s : State) (c : EventClass) (e : NoticeEntry) : (s.putEntry c e).management = s.management := rfl
@[simp] theorem State.putEntry_counters (s : State) (c : EventClass) (e : NoticeEntry) : (s.putEntry c e).counters = s.counters := rfl
@[simp] theorem State.putEntry_now (s : State) (c : EventClass) (e : NoticeEntry) : (s.putEntry c e).now = s.now := rfl
@[simp] theorem State.putEntry_pending (s : State) (c : EventClass) (e : NoticeEntry) : (s.putEntry c e).pending = s.pending := rfl

/-! ### `State.issueNotice` -/

@[simp] theorem State.issueNotice_receiver (s : State) (c : EventClass) : (s.issueNotice c).receiver = s.receiver := rfl
@[simp] theorem State.issueNotice_nodeAddress (s : State) (c : EventClass) : (s.issueNotice c).nodeAddress = s.nodeAddress := rfl
@[simp] theorem State.issueNotice_store (s : State) (c : EventClass) : (s.issueNotice c).store = s.store := rfl
@[simp] theorem State.issueNotice_table (s : State) (c : EventClass) : (s.issueNotice c).table = s.table := rfl
@[simp] theorem State.issueNotice_codeUnit (s : State) (c : EventClass) : (s.issueNotice c).codeUnit = s.codeUnit := rfl
@[simp] theorem State.issueNotice_locator (s : State) (c : EventClass) : (s.issueNotice c).locator = s.locator := rfl
@[simp] theorem State.issueNotice_order (s : State) (c : EventClass) : (s.issueNotice c).order = s.order := rfl
@[simp] theorem State.issueNotice_egress (s : State) (c : EventClass) : (s.issueNotice c).egress = s.egress := rfl
@[simp] theorem State.issueNotice_management (s : State) (c : EventClass) : (s.issueNotice c).management = s.management := rfl
@[simp] theorem State.issueNotice_counters (s : State) (c : EventClass) : (s.issueNotice c).counters = s.counters := rfl
@[simp] theorem State.issueNotice_now (s : State) (c : EventClass) : (s.issueNotice c).now = s.now := rfl
@[simp] theorem State.issueNotice_pending (s : State) (c : EventClass) : (s.issueNotice c).pending = s.pending := rfl

/-! ### `State.raise` -/

@[simp] theorem State.raise_receiver (s : State) (c : EventClass) : (s.raise c).receiver = s.receiver := by
  unfold State.raise; dsimp only; split <;> rfl
@[simp] theorem State.raise_nodeAddress (s : State) (c : EventClass) : (s.raise c).nodeAddress = s.nodeAddress := by
  unfold State.raise; dsimp only; split <;> rfl
@[simp] theorem State.raise_store (s : State) (c : EventClass) : (s.raise c).store = s.store := by
  unfold State.raise; dsimp only; split <;> rfl
@[simp] theorem State.raise_table (s : State) (c : EventClass) : (s.raise c).table = s.table := by
  unfold State.raise; dsimp only; split <;> rfl
@[simp] theorem State.raise_codeUnit (s : State) (c : EventClass) : (s.raise c).codeUnit = s.codeUnit := by
  unfold State.raise; dsimp only; split <;> rfl
@[simp] theorem State.raise_locator (s : State) (c : EventClass) : (s.raise c).locator = s.locator := by
  unfold State.raise; dsimp only; split <;> rfl
@[simp] theorem State.raise_order (s : State) (c : EventClass) : (s.raise c).order = s.order := by
  unfold State.raise; dsimp only; split <;> rfl
@[simp] theorem State.raise_egress (s : State) (c : EventClass) : (s.raise c).egress = s.egress := by
  unfold State.raise; dsimp only; split <;> rfl
@[simp] theorem State.raise_management (s : State) (c : EventClass) : (s.raise c).management = s.management := by
  unfold State.raise; dsimp only; split <;> rfl
@[simp] theorem State.raise_counters (s : State) (c : EventClass) : (s.raise c).counters = s.counters := by
  unfold State.raise; dsimp only; split <;> rfl
@[simp] theorem State.raise_now (s : State) (c : EventClass) : (s.raise c).now = s.now := by
  unfold State.raise; dsimp only; split <;> rfl
@[simp] theorem State.raise_pending (s : State) (c : EventClass) : (s.raise c).pending = s.pending := by
  unfold State.raise; dsimp only; split <;> rfl

/-! ### `State.releaseDropped` -/

@[simp] theorem State.releaseDropped_receiver (s : State) (d : DescId) : (s.releaseDropped d).receiver = s.receiver := by
  unfold State.releaseDropped; dsimp only; split <;> first | rfl | (split <;> rfl)
@[simp] theorem State.releaseDropped_nodeAddress (s : State) (d : DescId) : (s.releaseDropped d).nodeAddress = s.nodeAddress := by
  unfold State.releaseDropped; dsimp only; split <;> first | rfl | (split <;> rfl)
@[simp] theorem State.releaseDropped_table (s : State) (d : DescId) : (s.releaseDropped d).table = s.table := by
  unfold State.releaseDropped; dsimp only; split <;> first | rfl | (split <;> rfl)
@[simp] theorem State.releaseDropped_codeUnit (s : State) (d : DescId) : (s.releaseDropped d).codeUnit = s.codeUnit := by
  unfold State.releaseDropped; dsimp only; split <;> first | rfl | (split <;> rfl)
@[simp] theorem State.releaseDropped_locator (s : State) (d : DescId) : (s.releaseDropped d).locator = s.locator := by
  unfold State.releaseDropped; dsimp only; split <;> first | rfl | (split <;> rfl)
@[simp] theorem State.releaseDropped_order (s : State) (d : DescId) : (s.releaseDropped d).order = s.order := by
  unfold State.releaseDropped; dsimp only; split <;> first | rfl | (split <;> rfl)
@[simp] theorem State.releaseDropped_egress (s : State) (d : DescId) : (s.releaseDropped d).egress = s.egress := by
  unfold State.releaseDropped; dsimp only; split <;> first | rfl | (split <;> rfl)
@[simp] theorem State.releaseDropped_management (s : State) (d : DescId) : (s.releaseDropped d).management = s.management := by
  unfold State.releaseDropped; dsimp only; split <;> first | rfl | (split <;> rfl)
@[simp] theorem State.releaseDropped_events (s : State) (d : DescId) : (s.releaseDropped d).events = s.events := by
  unfold State.releaseDropped; dsimp only; split <;> first | rfl | (split <;> rfl)
@[simp] theorem State.releaseDropped_now (s : State) (d : DescId) : (s.releaseDropped d).now = s.now := by
  unfold State.releaseDropped; dsimp only; split <;> first | rfl | (split <;> rfl)
@[simp] theorem State.releaseDropped_pending (s : State) (d : DescId) : (s.releaseDropped d).pending = s.pending := by
  unfold State.releaseDropped; dsimp only; split <;> first | rfl | (split <;> rfl)

/-! ### `State.releaseSent` -/

@[simp] theorem State.releaseSent_receiver (s : State) (d : DescId) : (s.releaseSent d).receiver = s.receiver := by
  unfold State.releaseSent; dsimp only; split <;> first | rfl | (split <;> rfl)
@[simp] theorem State.releaseSent_nodeAddress (s : State) (d : DescId) : (s.releaseSent d).nodeAddress = s.nodeAddress := by
  unfold State.releaseSent; dsimp only; split <;> first | rfl | (split <;> rfl)
@[simp] theorem State.releaseSent_table (s : State) (d : DescId) : (s.releaseSent d).table = s.table := by
  unfold State.releaseSent; dsimp only; split <;> first | rfl | (split <;> rfl)
@[simp] theorem State.releaseSent_codeUnit (s : State) (d : DescId) : (s.releaseSent d).codeUnit = s.codeUnit := by
  unfold State.releaseSent; dsimp only; split <;> first | rfl | (split <;> rfl)
@[simp] theorem State.releaseSent_locator (s : State) (d : DescId) : (s.releaseSent d).locator = s.locator := by
  unfold State.releaseSent; dsimp only; split <;> first | rfl | (split <;> rfl)
@[simp] theorem State.releaseSent_order (s : State) (d : DescId) : (s.releaseSent d).order = s.order := by
  unfold State.releaseSent; dsimp only; split <;> first | rfl | (split <;> rfl)
@[simp] theorem State.releaseSent_egress (s : State) (d : DescId) : (s.releaseSent d).egress = s.egress := by
  unfold State.releaseSent; dsimp only; split <;> first | rfl | (split <;> rfl)
@[simp] theorem State.releaseSent_management (s : State) (d : DescId) : (s.releaseSent d).management = s.management := by
  unfold State.releaseSent; dsimp only; split <;> first | rfl | (split <;> rfl)
@[simp] theorem State.releaseSent_events (s : State) (d : DescId) : (s.releaseSent d).events = s.events := by
  unfold State.releaseSent; dsimp only; split <;> first | rfl | (split <;> rfl)
@[simp] theorem State.releaseSent_now (s : State) (d : DescId) : (s.releaseSent d).now = s.now := by
  unfold State.releaseSent; dsimp only; split <;> first | rfl | (split <;> rfl)
@[simp] theorem State.releaseSent_pending (s : State) (d : DescId) : (s.releaseSent d).pending = s.pending := by
  unfold State.releaseSent; dsimp only; split <;> first | rfl | (split <;> rfl)

/-! ### `State.toForward` -/

@[simp] theorem State.toForward_receiver (s : State) (d : DescId) : (s.toForward d).receiver = s.receiver := rfl
@[simp] theorem State.toForward_nodeAddress (s : State) (d : DescId) : (s.toForward d).nodeAddress = s.nodeAddress := rfl
@[simp] theorem State.toForward_table (s : State) (d : DescId) : (s.toForward d).table = s.table := rfl
@[simp] theorem State.toForward_codeUnit (s : State) (d : DescId) : (s.toForward d).codeUnit = s.codeUnit := rfl
@[simp] theorem State.toForward_locator (s : State) (d : DescId) : (s.toForward d).locator = s.locator := rfl
@[simp] theorem State.toForward_order (s : State) (d : DescId) : (s.toForward d).order = s.order := rfl
@[simp] theorem State.toForward_egress (s : State) (d : DescId) :
    (s.toForward d).egress = { s.egress with forwardQueue := s.egress.forwardQueue ++ [d] } := rfl
@[simp] theorem State.toForward_management (s : State) (d : DescId) : (s.toForward d).management = s.management := rfl
@[simp] theorem State.toForward_events (s : State) (d : DescId) : (s.toForward d).events = s.events := rfl
@[simp] theorem State.toForward_counters (s : State) (d : DescId) : (s.toForward d).counters = s.counters := rfl
@[simp] theorem State.toForward_now (s : State) (d : DescId) : (s.toForward d).now = s.now := rfl
@[simp] theorem State.toForward_pending (s : State) (d : DescId) : (s.toForward d).pending = s.pending := rfl

/-! ### `State.setChain` -/

@[simp] theorem State.setChain_receiver (s : State) (f : Byte) (l : List DescId) : (s.setChain f l).receiver = s.receiver := rfl
@[simp] theorem State.setChain_nodeAddress (s : State) (f : Byte) (l : List DescId) : (s.setChain f l).nodeAddress = s.nodeAddress := rfl
@[simp] theorem State.setChain_store (s : State) (f : Byte) (l : List DescId) : (s.setChain f l).store = s.store := rfl
@[simp] theorem State.setChain_table (s : State) (f : Byte) (l : List DescId) : (s.setChain f l).table = s.table := rfl
@[simp] theorem State.setChain_codeUnit (s : State) (f : Byte) (l : List DescId) : (s.setChain f l).codeUnit = s.codeUnit := rfl
@[simp] theorem State.setChain_locator (s : State) (f : Byte) (l : List DescId) : (s.setChain f l).locator = s.locator := rfl
@[simp] theorem State.setChain_order (s : State) (f : Byte) (l : List DescId) :
    (s.setChain f l).order = { s.order with chains := setFlow s.order.chains f l } := rfl
@[simp] theorem State.setChain_egress (s : State) (f : Byte) (l : List DescId) : (s.setChain f l).egress = s.egress := rfl
@[simp] theorem State.setChain_management (s : State) (f : Byte) (l : List DescId) : (s.setChain f l).management = s.management := rfl
@[simp] theorem State.setChain_events (s : State) (f : Byte) (l : List DescId) : (s.setChain f l).events = s.events := rfl
@[simp] theorem State.setChain_counters (s : State) (f : Byte) (l : List DescId) : (s.setChain f l).counters = s.counters := rfl
@[simp] theorem State.setChain_now (s : State) (f : Byte) (l : List DescId) : (s.setChain f l).now = s.now := rfl
@[simp] theorem State.setChain_pending (s : State) (f : Byte) (l : List DescId) : (s.setChain f l).pending = s.pending := rfl

/-! ### `State.giveStamp` -/

@[simp] theorem State.giveStamp_receiver (s : State) (d : DescId) : (s.giveStamp d).receiver = s.receiver := rfl
@[simp] theorem State.giveStamp_nodeAddress (s : State) (d : DescId) : (s.giveStamp d).nodeAddress = s.nodeAddress := rfl
@[simp] theorem State.giveStamp_table (s : State) (d : DescId) : (s.giveStamp d).table = s.table := rfl
@[simp] theorem State.giveStamp_codeUnit (s : State) (d : DescId) : (s.giveStamp d).codeUnit = s.codeUnit := rfl
@[simp] theorem State.giveStamp_locator (s : State) (d : DescId) : (s.giveStamp d).locator = s.locator := rfl
@[simp] theorem State.giveStamp_order (s : State) (d : DescId) :
    (s.giveStamp d).order = { s.order with nextStamp := s.order.nextStamp + 1 } := rfl
@[simp] theorem State.giveStamp_egress (s : State) (d : DescId) : (s.giveStamp d).egress = s.egress := rfl
@[simp] theorem State.giveStamp_management (s : State) (d : DescId) : (s.giveStamp d).management = s.management := rfl
@[simp] theorem State.giveStamp_events (s : State) (d : DescId) : (s.giveStamp d).events = s.events := rfl
@[simp] theorem State.giveStamp_counters (s : State) (d : DescId) : (s.giveStamp d).counters = s.counters := rfl
@[simp] theorem State.giveStamp_now (s : State) (d : DescId) : (s.giveStamp d).now = s.now := rfl
@[simp] theorem State.giveStamp_pending (s : State) (d : DescId) : (s.giveStamp d).pending = s.pending := rfl

/-! ### `State.joinCorrectionQueue` -/

@[simp] theorem State.joinCorrectionQueue_receiver (s : State) (d : DescId) : (s.joinCorrectionQueue d).receiver = s.receiver := rfl
@[simp] theorem State.joinCorrectionQueue_nodeAddress (s : State) (d : DescId) : (s.joinCorrectionQueue d).nodeAddress = s.nodeAddress := rfl
@[simp] theorem State.joinCorrectionQueue_store (s : State) (d : DescId) : (s.joinCorrectionQueue d).store = s.store := rfl
@[simp] theorem State.joinCorrectionQueue_table (s : State) (d : DescId) : (s.joinCorrectionQueue d).table = s.table := rfl
@[simp] theorem State.joinCorrectionQueue_codeUnit (s : State) (d : DescId) : (s.joinCorrectionQueue d).codeUnit = s.codeUnit := rfl
@[simp] theorem State.joinCorrectionQueue_locator (s : State) (d : DescId) :
    (s.joinCorrectionQueue d).locator = { s.locator with queue := s.locator.queue ++ [d] } := rfl
@[simp] theorem State.joinCorrectionQueue_order (s : State) (d : DescId) : (s.joinCorrectionQueue d).order = s.order := rfl
@[simp] theorem State.joinCorrectionQueue_egress (s : State) (d : DescId) : (s.joinCorrectionQueue d).egress = s.egress := rfl
@[simp] theorem State.joinCorrectionQueue_management (s : State) (d : DescId) : (s.joinCorrectionQueue d).management = s.management := rfl
@[simp] theorem State.joinCorrectionQueue_events (s : State) (d : DescId) : (s.joinCorrectionQueue d).events = s.events := rfl
@[simp] theorem State.joinCorrectionQueue_counters (s : State) (d : DescId) : (s.joinCorrectionQueue d).counters = s.counters := rfl
@[simp] theorem State.joinCorrectionQueue_now (s : State) (d : DescId) : (s.joinCorrectionQueue d).now = s.now := rfl
@[simp] theorem State.joinCorrectionQueue_pending (s : State) (d : DescId) : (s.joinCorrectionQueue d).pending = s.pending := rfl

/-! ### `State.withdrawFromLocator` -/

@[simp] theorem State.withdrawFromLocator_receiver (s : State) (d : DescId) : (s.withdrawFromLocator d).receiver = s.receiver := rfl
@[simp] theorem State.withdrawFromLocator_nodeAddress (s : State) (d : DescId) : (s.withdrawFromLocator d).nodeAddress = s.nodeAddress := rfl
@[simp] theorem State.withdrawFromLocator_store (s : State) (d : DescId) : (s.withdrawFromLocator d).store = s.store := rfl
@[simp] theorem State.withdrawFromLocator_table (s : State) (d : DescId) : (s.withdrawFromLocator d).table = s.table := rfl
@[simp] theorem State.withdrawFromLocator_codeUnit (s : State) (d : DescId) : (s.withdrawFromLocator d).codeUnit = s.codeUnit := rfl
@[simp] theorem State.withdrawFromLocator_order (s : State) (d : DescId) : (s.withdrawFromLocator d).order = s.order := rfl
@[simp] theorem State.withdrawFromLocator_egress (s : State) (d : DescId) : (s.withdrawFromLocator d).egress = s.egress := rfl
@[simp] theorem State.withdrawFromLocator_management (s : State) (d : DescId) : (s.withdrawFromLocator d).management = s.management := rfl
@[simp] theorem State.withdrawFromLocator_events (s : State) (d : DescId) : (s.withdrawFromLocator d).events = s.events := rfl
@[simp] theorem State.withdrawFromLocator_counters (s : State) (d : DescId) : (s.withdrawFromLocator d).counters = s.counters := rfl
@[simp] theorem State.withdrawFromLocator_now (s : State) (d : DescId) : (s.withdrawFromLocator d).now = s.now := rfl
@[simp] theorem State.withdrawFromLocator_pending (s : State) (d : DescId) : (s.withdrawFromLocator d).pending = s.pending := rfl

/-! ### `State.setEngine` -/

@[simp] theorem State.setEngine_receiver (s : State) (e : EngineId) (r : Option Run) : (s.setEngine e r).receiver = s.receiver := by cases e <;> rfl
@[simp] theorem State.setEngine_nodeAddress (s : State) (e : EngineId) (r : Option Run) : (s.setEngine e r).nodeAddress = s.nodeAddress := by cases e <;> rfl
@[simp] theorem State.setEngine_store (s : State) (e : EngineId) (r : Option Run) : (s.setEngine e r).store = s.store := by cases e <;> rfl
@[simp] theorem State.setEngine_table (s : State) (e : EngineId) (r : Option Run) : (s.setEngine e r).table = s.table := by cases e <;> rfl
@[simp] theorem State.setEngine_codeUnit (s : State) (e : EngineId) (r : Option Run) : (s.setEngine e r).codeUnit = s.codeUnit := by cases e <;> rfl
@[simp] theorem State.setEngine_order (s : State) (e : EngineId) (r : Option Run) : (s.setEngine e r).order = s.order := by cases e <;> rfl
@[simp] theorem State.setEngine_egress (s : State) (e : EngineId) (r : Option Run) : (s.setEngine e r).egress = s.egress := by cases e <;> rfl
@[simp] theorem State.setEngine_management (s : State) (e : EngineId) (r : Option Run) : (s.setEngine e r).management = s.management := by cases e <;> rfl
@[simp] theorem State.setEngine_events (s : State) (e : EngineId) (r : Option Run) : (s.setEngine e r).events = s.events := by cases e <;> rfl
@[simp] theorem State.setEngine_counters (s : State) (e : EngineId) (r : Option Run) : (s.setEngine e r).counters = s.counters := by cases e <;> rfl
@[simp] theorem State.setEngine_now (s : State) (e : EngineId) (r : Option Run) : (s.setEngine e r).now = s.now := by cases e <;> rfl
@[simp] theorem State.setEngine_pending (s : State) (e : EngineId) (r : Option Run) : (s.setEngine e r).pending = s.pending := by cases e <;> rfl

/-! ### `State.queueResponse` -/

@[simp] theorem State.queueResponse_receiver (s : State) (q : QueuedResponse) : (s.queueResponse q).receiver = s.receiver := rfl
@[simp] theorem State.queueResponse_nodeAddress (s : State) (q : QueuedResponse) : (s.queueResponse q).nodeAddress = s.nodeAddress := rfl
@[simp] theorem State.queueResponse_store (s : State) (q : QueuedResponse) : (s.queueResponse q).store = s.store := rfl
@[simp] theorem State.queueResponse_table (s : State) (q : QueuedResponse) : (s.queueResponse q).table = s.table := rfl
@[simp] theorem State.queueResponse_codeUnit (s : State) (q : QueuedResponse) : (s.queueResponse q).codeUnit = s.codeUnit := rfl
@[simp] theorem State.queueResponse_locator (s : State) (q : QueuedResponse) : (s.queueResponse q).locator = s.locator := rfl
@[simp] theorem State.queueResponse_order (s : State) (q : QueuedResponse) : (s.queueResponse q).order = s.order := rfl
@[simp] theorem State.queueResponse_egress (s : State) (q : QueuedResponse) : (s.queueResponse q).egress = s.egress := rfl
@[simp] theorem State.queueResponse_management (s : State) (q : QueuedResponse) :
    (s.queueResponse q).management = { s.management with responses := s.management.responses ++ [q] } := rfl
@[simp] theorem State.queueResponse_events (s : State) (q : QueuedResponse) : (s.queueResponse q).events = s.events := rfl
@[simp] theorem State.queueResponse_counters (s : State) (q : QueuedResponse) : (s.queueResponse q).counters = s.counters := rfl
@[simp] theorem State.queueResponse_now (s : State) (q : QueuedResponse) : (s.queueResponse q).now = s.now := rfl
@[simp] theorem State.queueResponse_pending (s : State) (q : QueuedResponse) : (s.queueResponse q).pending = s.pending := rfl

/-! ### `State.dropClaim` -/

@[simp] theorem State.dropClaim_receiver (s : State) : s.dropClaim.receiver = s.receiver := rfl
@[simp] theorem State.dropClaim_nodeAddress (s : State) : s.dropClaim.nodeAddress = s.nodeAddress := rfl
@[simp] theorem State.dropClaim_store (s : State) : s.dropClaim.store = s.store := rfl
@[simp] theorem State.dropClaim_table (s : State) : s.dropClaim.table = s.table := rfl
@[simp] theorem State.dropClaim_codeUnit (s : State) : s.dropClaim.codeUnit = s.codeUnit := rfl
@[simp] theorem State.dropClaim_locator (s : State) : s.dropClaim.locator = s.locator := rfl
@[simp] theorem State.dropClaim_order (s : State) : s.dropClaim.order = s.order := rfl
@[simp] theorem State.dropClaim_egress (s : State) : s.dropClaim.egress = s.egress := rfl
@[simp] theorem State.dropClaim_management (s : State) :
    s.dropClaim.management = { s.management with claim := none } := rfl
@[simp] theorem State.dropClaim_events (s : State) : s.dropClaim.events = s.events := rfl
@[simp] theorem State.dropClaim_counters (s : State) : s.dropClaim.counters = s.counters := rfl
@[simp] theorem State.dropClaim_now (s : State) : s.dropClaim.now = s.now := rfl
@[simp] theorem State.dropClaim_pending (s : State) : s.dropClaim.pending = s.pending := rfl

/-! ### `State.updatePending` -/

@[simp] theorem State.updatePending_receiver (s : State) (f : PendingReset → PendingReset) : (s.updatePending f).receiver = s.receiver := rfl
@[simp] theorem State.updatePending_nodeAddress (s : State) (f : PendingReset → PendingReset) : (s.updatePending f).nodeAddress = s.nodeAddress := rfl
@[simp] theorem State.updatePending_store (s : State) (f : PendingReset → PendingReset) : (s.updatePending f).store = s.store := rfl
@[simp] theorem State.updatePending_table (s : State) (f : PendingReset → PendingReset) : (s.updatePending f).table = s.table := rfl
@[simp] theorem State.updatePending_codeUnit (s : State) (f : PendingReset → PendingReset) : (s.updatePending f).codeUnit = s.codeUnit := rfl
@[simp] theorem State.updatePending_locator (s : State) (f : PendingReset → PendingReset) : (s.updatePending f).locator = s.locator := rfl
@[simp] theorem State.updatePending_order (s : State) (f : PendingReset → PendingReset) : (s.updatePending f).order = s.order := rfl
@[simp] theorem State.updatePending_egress (s : State) (f : PendingReset → PendingReset) : (s.updatePending f).egress = s.egress := rfl
@[simp] theorem State.updatePending_management (s : State) (f : PendingReset → PendingReset) :
    (s.updatePending f).management = { s.management with pendingReset := s.management.pendingReset.map f } := rfl
@[simp] theorem State.updatePending_events (s : State) (f : PendingReset → PendingReset) : (s.updatePending f).events = s.events := rfl
@[simp] theorem State.updatePending_counters (s : State) (f : PendingReset → PendingReset) : (s.updatePending f).counters = s.counters := rfl
@[simp] theorem State.updatePending_now (s : State) (f : PendingReset → PendingReset) : (s.updatePending f).now = s.now := rfl
@[simp] theorem State.updatePending_pending (s : State) (f : PendingReset → PendingReset) : (s.updatePending f).pending = s.pending := rfl

/-! ### `State.setReception` -/

@[simp] theorem State.setReception_receiver (s : State) (r : Reception) :
    (s.setReception r).receiver = { s.receiver with reception := r } := rfl
@[simp] theorem State.setReception_nodeAddress (s : State) (r : Reception) : (s.setReception r).nodeAddress = s.nodeAddress := rfl
@[simp] theorem State.setReception_store (s : State) (r : Reception) : (s.setReception r).store = s.store := rfl
@[simp] theorem State.setReception_table (s : State) (r : Reception) : (s.setReception r).table = s.table := rfl
@[simp] theorem State.setReception_codeUnit (s : State) (r : Reception) : (s.setReception r).codeUnit = s.codeUnit := rfl
@[simp] theorem State.setReception_locator (s : State) (r : Reception) : (s.setReception r).locator = s.locator := rfl
@[simp] theorem State.setReception_order (s : State) (r : Reception) : (s.setReception r).order = s.order := rfl
@[simp] theorem State.setReception_egress (s : State) (r : Reception) : (s.setReception r).egress = s.egress := rfl
@[simp] theorem State.setReception_management (s : State) (r : Reception) : (s.setReception r).management = s.management := rfl
@[simp] theorem State.setReception_events (s : State) (r : Reception) : (s.setReception r).events = s.events := rfl
@[simp] theorem State.setReception_counters (s : State) (r : Reception) : (s.setReception r).counters = s.counters := rfl
@[simp] theorem State.setReception_now (s : State) (r : Reception) : (s.setReception r).now = s.now := rfl
@[simp] theorem State.setReception_pending (s : State) (r : Reception) : (s.setReception r).pending = s.pending := rfl

/-! ### `State.endReception` -/

@[simp] theorem State.endReception_receiver (s : State) (r : Reception) :
    (s.endReception r).receiver = { s.receiver with reception := r, currentHeader := none } := rfl
@[simp] theorem State.endReception_nodeAddress (s : State) (r : Reception) : (s.endReception r).nodeAddress = s.nodeAddress := rfl
@[simp] theorem State.endReception_store (s : State) (r : Reception) : (s.endReception r).store = s.store := rfl
@[simp] theorem State.endReception_table (s : State) (r : Reception) : (s.endReception r).table = s.table := rfl
@[simp] theorem State.endReception_codeUnit (s : State) (r : Reception) :
    (s.endReception r).codeUnit = CodeUnit.idle := rfl
@[simp] theorem State.endReception_locator (s : State) (r : Reception) : (s.endReception r).locator = s.locator := rfl
@[simp] theorem State.endReception_order (s : State) (r : Reception) : (s.endReception r).order = s.order := rfl
@[simp] theorem State.endReception_egress (s : State) (r : Reception) : (s.endReception r).egress = s.egress := rfl
@[simp] theorem State.endReception_management (s : State) (r : Reception) : (s.endReception r).management = s.management := rfl
@[simp] theorem State.endReception_events (s : State) (r : Reception) : (s.endReception r).events = s.events := rfl
@[simp] theorem State.endReception_counters (s : State) (r : Reception) : (s.endReception r).counters = s.counters := rfl
@[simp] theorem State.endReception_now (s : State) (r : Reception) : (s.endReception r).now = s.now := rfl
@[simp] theorem State.endReception_pending (s : State) (r : Reception) : (s.endReception r).pending = s.pending := rfl

/-! ### `State.storePayload` -/

@[simp] theorem State.storePayload_receiver (s : State) (fr : Descriptor) (p : List Byte) : (s.storePayload fr p).receiver = s.receiver := rfl
@[simp] theorem State.storePayload_nodeAddress (s : State) (fr : Descriptor) (p : List Byte) : (s.storePayload fr p).nodeAddress = s.nodeAddress := rfl
@[simp] theorem State.storePayload_table (s : State) (fr : Descriptor) (p : List Byte) : (s.storePayload fr p).table = s.table := rfl
@[simp] theorem State.storePayload_codeUnit (s : State) (fr : Descriptor) (p : List Byte) : (s.storePayload fr p).codeUnit = s.codeUnit := rfl
@[simp] theorem State.storePayload_locator (s : State) (fr : Descriptor) (p : List Byte) : (s.storePayload fr p).locator = s.locator := rfl
@[simp] theorem State.storePayload_order (s : State) (fr : Descriptor) (p : List Byte) : (s.storePayload fr p).order = s.order := rfl
@[simp] theorem State.storePayload_egress (s : State) (fr : Descriptor) (p : List Byte) : (s.storePayload fr p).egress = s.egress := rfl
@[simp] theorem State.storePayload_management (s : State) (fr : Descriptor) (p : List Byte) : (s.storePayload fr p).management = s.management := rfl
@[simp] theorem State.storePayload_events (s : State) (fr : Descriptor) (p : List Byte) : (s.storePayload fr p).events = s.events := rfl
@[simp] theorem State.storePayload_counters (s : State) (fr : Descriptor) (p : List Byte) : (s.storePayload fr p).counters = s.counters := rfl
@[simp] theorem State.storePayload_now (s : State) (fr : Descriptor) (p : List Byte) : (s.storePayload fr p).now = s.now := rfl
@[simp] theorem State.storePayload_pending (s : State) (fr : Descriptor) (p : List Byte) : (s.storePayload fr p).pending = s.pending := rfl

/-! ### `State.storeArrived` -/

@[simp] theorem State.storeArrived_receiver (s : State) (p : List Byte) : (s.storeArrived p).receiver = s.receiver := by
  unfold State.storeArrived; split <;> first | rfl | (split <;> rfl)
@[simp] theorem State.storeArrived_nodeAddress (s : State) (p : List Byte) : (s.storeArrived p).nodeAddress = s.nodeAddress := by
  unfold State.storeArrived; split <;> first | rfl | (split <;> rfl)
@[simp] theorem State.storeArrived_table (s : State) (p : List Byte) : (s.storeArrived p).table = s.table := by
  unfold State.storeArrived; split <;> first | rfl | (split <;> rfl)
@[simp] theorem State.storeArrived_codeUnit (s : State) (p : List Byte) : (s.storeArrived p).codeUnit = s.codeUnit := by
  unfold State.storeArrived; split <;> first | rfl | (split <;> rfl)
@[simp] theorem State.storeArrived_locator (s : State) (p : List Byte) : (s.storeArrived p).locator = s.locator := by
  unfold State.storeArrived; split <;> first | rfl | (split <;> rfl)
@[simp] theorem State.storeArrived_order (s : State) (p : List Byte) : (s.storeArrived p).order = s.order := by
  unfold State.storeArrived; split <;> first | rfl | (split <;> rfl)
@[simp] theorem State.storeArrived_egress (s : State) (p : List Byte) : (s.storeArrived p).egress = s.egress := by
  unfold State.storeArrived; split <;> first | rfl | (split <;> rfl)
@[simp] theorem State.storeArrived_management (s : State) (p : List Byte) : (s.storeArrived p).management = s.management := by
  unfold State.storeArrived; split <;> first | rfl | (split <;> rfl)
@[simp] theorem State.storeArrived_events (s : State) (p : List Byte) : (s.storeArrived p).events = s.events := by
  unfold State.storeArrived; split <;> first | rfl | (split <;> rfl)
@[simp] theorem State.storeArrived_counters (s : State) (p : List Byte) : (s.storeArrived p).counters = s.counters := by
  unfold State.storeArrived; split <;> first | rfl | (split <;> rfl)
@[simp] theorem State.storeArrived_now (s : State) (p : List Byte) : (s.storeArrived p).now = s.now := by
  unfold State.storeArrived; split <;> first | rfl | (split <;> rfl)
@[simp] theorem State.storeArrived_pending (s : State) (p : List Byte) : (s.storeArrived p).pending = s.pending := by
  unfold State.storeArrived; split <;> first | rfl | (split <;> rfl)

/-! ### `State.giveHeadTo` -/

@[simp] theorem State.giveHeadTo_receiver (s : State) (x : Option EngineId) : (s.giveHeadTo x).receiver = s.receiver := rfl
@[simp] theorem State.giveHeadTo_nodeAddress (s : State) (x : Option EngineId) : (s.giveHeadTo x).nodeAddress = s.nodeAddress := rfl
@[simp] theorem State.giveHeadTo_store (s : State) (x : Option EngineId) : (s.giveHeadTo x).store = s.store := rfl
@[simp] theorem State.giveHeadTo_table (s : State) (x : Option EngineId) : (s.giveHeadTo x).table = s.table := rfl
@[simp] theorem State.giveHeadTo_codeUnit (s : State) (x : Option EngineId) : (s.giveHeadTo x).codeUnit = s.codeUnit := rfl
@[simp] theorem State.giveHeadTo_locator (s : State) (x : Option EngineId) :
    (s.giveHeadTo x).locator = { s.locator with
      firstFreed := if s.locator.queue.isEmpty then none else x.or s.locator.firstFreed } := rfl
@[simp] theorem State.giveHeadTo_order (s : State) (x : Option EngineId) : (s.giveHeadTo x).order = s.order := rfl
@[simp] theorem State.giveHeadTo_egress (s : State) (x : Option EngineId) : (s.giveHeadTo x).egress = s.egress := rfl
@[simp] theorem State.giveHeadTo_management (s : State) (x : Option EngineId) : (s.giveHeadTo x).management = s.management := rfl
@[simp] theorem State.giveHeadTo_events (s : State) (x : Option EngineId) : (s.giveHeadTo x).events = s.events := rfl
@[simp] theorem State.giveHeadTo_counters (s : State) (x : Option EngineId) : (s.giveHeadTo x).counters = s.counters := rfl
@[simp] theorem State.giveHeadTo_now (s : State) (x : Option EngineId) : (s.giveHeadTo x).now = s.now := rfl
@[simp] theorem State.giveHeadTo_pending (s : State) (x : Option EngineId) : (s.giveHeadTo x).pending = s.pending := rfl

/-! ### `State.setHoldIn` -/

@[simp] theorem State.setHoldIn_receiver (s : State) (b : Bool) : (s.setHoldIn b).receiver = s.receiver := rfl
@[simp] theorem State.setHoldIn_nodeAddress (s : State) (b : Bool) : (s.setHoldIn b).nodeAddress = s.nodeAddress := rfl
@[simp] theorem State.setHoldIn_store (s : State) (b : Bool) : (s.setHoldIn b).store = s.store := rfl
@[simp] theorem State.setHoldIn_table (s : State) (b : Bool) : (s.setHoldIn b).table = s.table := rfl
@[simp] theorem State.setHoldIn_codeUnit (s : State) (b : Bool) : (s.setHoldIn b).codeUnit = s.codeUnit := rfl
@[simp] theorem State.setHoldIn_locator (s : State) (b : Bool) : (s.setHoldIn b).locator = s.locator := rfl
@[simp] theorem State.setHoldIn_order (s : State) (b : Bool) : (s.setHoldIn b).order = s.order := rfl
@[simp] theorem State.setHoldIn_egress (s : State) (b : Bool) :
    (s.setHoldIn b).egress = { s.egress with holdIn := b } := rfl
@[simp] theorem State.setHoldIn_management (s : State) (b : Bool) : (s.setHoldIn b).management = s.management := rfl
@[simp] theorem State.setHoldIn_events (s : State) (b : Bool) : (s.setHoldIn b).events = s.events := rfl
@[simp] theorem State.setHoldIn_counters (s : State) (b : Bool) : (s.setHoldIn b).counters = s.counters := rfl
@[simp] theorem State.setHoldIn_now (s : State) (b : Bool) : (s.setHoldIn b).now = s.now := rfl
@[simp] theorem State.setHoldIn_pending (s : State) (b : Bool) : (s.setHoldIn b).pending = s.pending := rfl

/-! ### `State.grantPermission` -/

@[simp] theorem State.grantPermission_receiver (s : State) : s.grantPermission.receiver = s.receiver := rfl
@[simp] theorem State.grantPermission_nodeAddress (s : State) : s.grantPermission.nodeAddress = s.nodeAddress := rfl
@[simp] theorem State.grantPermission_store (s : State) : s.grantPermission.store = s.store := rfl
@[simp] theorem State.grantPermission_table (s : State) : s.grantPermission.table = s.table := rfl
@[simp] theorem State.grantPermission_codeUnit (s : State) : s.grantPermission.codeUnit = s.codeUnit := rfl
@[simp] theorem State.grantPermission_locator (s : State) : s.grantPermission.locator = s.locator := rfl
@[simp] theorem State.grantPermission_order (s : State) : s.grantPermission.order = s.order := rfl
@[simp] theorem State.grantPermission_egress (s : State) :
    s.grantPermission.egress = { s.egress with permission := true, holdWait := none } := rfl
@[simp] theorem State.grantPermission_management (s : State) : s.grantPermission.management = s.management := rfl
@[simp] theorem State.grantPermission_events (s : State) : s.grantPermission.events = s.events := rfl
@[simp] theorem State.grantPermission_counters (s : State) : s.grantPermission.counters = s.counters := rfl
@[simp] theorem State.grantPermission_now (s : State) : s.grantPermission.now = s.now := rfl
@[simp] theorem State.grantPermission_pending (s : State) : s.grantPermission.pending = s.pending := rfl

/-! ### `State.consumePermission` -/

@[simp] theorem State.consumePermission_receiver (s : State) : s.consumePermission.receiver = s.receiver := rfl
@[simp] theorem State.consumePermission_nodeAddress (s : State) : s.consumePermission.nodeAddress = s.nodeAddress := rfl
@[simp] theorem State.consumePermission_store (s : State) : s.consumePermission.store = s.store := rfl
@[simp] theorem State.consumePermission_table (s : State) : s.consumePermission.table = s.table := rfl
@[simp] theorem State.consumePermission_codeUnit (s : State) : s.consumePermission.codeUnit = s.codeUnit := rfl
@[simp] theorem State.consumePermission_locator (s : State) : s.consumePermission.locator = s.locator := rfl
@[simp] theorem State.consumePermission_order (s : State) : s.consumePermission.order = s.order := rfl
@[simp] theorem State.consumePermission_egress (s : State) :
    s.consumePermission.egress = { s.egress with permission := false } := rfl
@[simp] theorem State.consumePermission_management (s : State) : s.consumePermission.management = s.management := rfl
@[simp] theorem State.consumePermission_events (s : State) : s.consumePermission.events = s.events := rfl
@[simp] theorem State.consumePermission_counters (s : State) : s.consumePermission.counters = s.counters := rfl
@[simp] theorem State.consumePermission_now (s : State) : s.consumePermission.now = s.now := rfl
@[simp] theorem State.consumePermission_pending (s : State) : s.consumePermission.pending = s.pending := rfl

/-! ### `State.idleTransmitter` -/

@[simp] theorem State.idleTransmitter_receiver (s : State) : s.idleTransmitter.receiver = s.receiver := rfl
@[simp] theorem State.idleTransmitter_nodeAddress (s : State) : s.idleTransmitter.nodeAddress = s.nodeAddress := rfl
@[simp] theorem State.idleTransmitter_store (s : State) : s.idleTransmitter.store = s.store := rfl
@[simp] theorem State.idleTransmitter_table (s : State) : s.idleTransmitter.table = s.table := rfl
@[simp] theorem State.idleTransmitter_codeUnit (s : State) : s.idleTransmitter.codeUnit = s.codeUnit := rfl
@[simp] theorem State.idleTransmitter_locator (s : State) : s.idleTransmitter.locator = s.locator := rfl
@[simp] theorem State.idleTransmitter_order (s : State) : s.idleTransmitter.order = s.order := rfl
@[simp] theorem State.idleTransmitter_egress (s : State) :
    s.idleTransmitter.egress = { s.egress with transmitter := none } := rfl
@[simp] theorem State.idleTransmitter_management (s : State) : s.idleTransmitter.management = s.management := rfl
@[simp] theorem State.idleTransmitter_events (s : State) : s.idleTransmitter.events = s.events := rfl
@[simp] theorem State.idleTransmitter_counters (s : State) : s.idleTransmitter.counters = s.counters := rfl
@[simp] theorem State.idleTransmitter_now (s : State) : s.idleTransmitter.now = s.now := rfl
@[simp] theorem State.idleTransmitter_pending (s : State) : s.idleTransmitter.pending = s.pending := rfl

/-! ### `State.send` -/

@[simp] theorem State.send_receiver (s : State) (x : TxSource) (h : HeaderBytes) (p : List Byte) : (s.send x h p).receiver = s.receiver := rfl
@[simp] theorem State.send_nodeAddress (s : State) (x : TxSource) (h : HeaderBytes) (p : List Byte) : (s.send x h p).nodeAddress = s.nodeAddress := rfl
@[simp] theorem State.send_store (s : State) (x : TxSource) (h : HeaderBytes) (p : List Byte) : (s.send x h p).store = s.store := rfl
@[simp] theorem State.send_table (s : State) (x : TxSource) (h : HeaderBytes) (p : List Byte) : (s.send x h p).table = s.table := rfl
@[simp] theorem State.send_codeUnit (s : State) (x : TxSource) (h : HeaderBytes) (p : List Byte) : (s.send x h p).codeUnit = s.codeUnit := rfl
@[simp] theorem State.send_locator (s : State) (x : TxSource) (h : HeaderBytes) (p : List Byte) : (s.send x h p).locator = s.locator := rfl
@[simp] theorem State.send_order (s : State) (x : TxSource) (h : HeaderBytes) (p : List Byte) : (s.send x h p).order = s.order := rfl
@[simp] theorem State.send_management (s : State) (x : TxSource) (h : HeaderBytes) (p : List Byte) : (s.send x h p).management = s.management := rfl
@[simp] theorem State.send_events (s : State) (x : TxSource) (h : HeaderBytes) (p : List Byte) : (s.send x h p).events = s.events := rfl
@[simp] theorem State.send_counters (s : State) (x : TxSource) (h : HeaderBytes) (p : List Byte) : (s.send x h p).counters = s.counters := rfl
@[simp] theorem State.send_now (s : State) (x : TxSource) (h : HeaderBytes) (p : List Byte) : (s.send x h p).now = s.now := rfl
@[simp] theorem State.send_pending (s : State) (x : TxSource) (h : HeaderBytes) (p : List Byte) : (s.send x h p).pending = s.pending := rfl

/-! ### `State.loseLink` -/

@[simp] theorem State.loseLink_receiver (s : State) :
    s.loseLink.receiver = { s.receiver with link := .linkDown, reception := .between } := by
  unfold State.loseLink; simp
@[simp] theorem State.loseLink_nodeAddress (s : State) : s.loseLink.nodeAddress = s.nodeAddress := by
  unfold State.loseLink; simp
@[simp] theorem State.loseLink_store (s : State) : s.loseLink.store = s.store := by
  unfold State.loseLink; simp
@[simp] theorem State.loseLink_table (s : State) : s.loseLink.table = s.table := by
  unfold State.loseLink; simp
@[simp] theorem State.loseLink_codeUnit (s : State) : s.loseLink.codeUnit = s.codeUnit := by
  unfold State.loseLink; simp
@[simp] theorem State.loseLink_locator (s : State) : s.loseLink.locator = s.locator := by
  unfold State.loseLink; simp
@[simp] theorem State.loseLink_order (s : State) : s.loseLink.order = s.order := by
  unfold State.loseLink; simp
@[simp] theorem State.loseLink_egress (s : State) : s.loseLink.egress = s.egress := by
  unfold State.loseLink; simp
@[simp] theorem State.loseLink_management (s : State) : s.loseLink.management = s.management := by
  unfold State.loseLink; simp
@[simp] theorem State.loseLink_counters (s : State) : s.loseLink.counters = s.counters := by
  unfold State.loseLink; simp
@[simp] theorem State.loseLink_now (s : State) : s.loseLink.now = s.now := by
  unfold State.loseLink; simp
@[simp] theorem State.loseLink_pending (s : State) : s.loseLink.pending = s.pending := by
  unfold State.loseLink; simp

end Sys2Proof.Machine
end

