-- ==== Sys2Proof/Laws/Access.lean ====
section
/-! SUPPORT. What each named update of the state does to the reads the rules speak of: a descriptor, a
chain, a flow's counters, a class, an engine's run, and the parts of the store and of the scheduler. -/

namespace Sys2Proof.Machine

/-! ### Tables by flow, by class and by descriptor -/

@[simp] theorem atFlow_setFlow {α : Type} (v : Vector α 256) (f g : Byte) (a : α) :
    atFlow (setFlow v f a) g = if g = f then a else atFlow v g := by
  unfold atFlow setFlow
  rw [Vector.getElem_set]
  simp [BitVec.toNat_inj, eq_comm]

theorem classNumber_inj (a b : EventClass) : classNumber a = classNumber b ↔ a = b := by
  cases a <;> cases b <;> decide

@[simp] theorem State.putDesc_desc? (s : State) (d e : DescId) (fr : Option Descriptor) :
    (s.putDesc d fr).desc? e = if e = d then fr else s.desc? e := by
  unfold State.desc?
  simp only [State.putDesc_store, Fin.getElem_fin]
  rw [Vector.getElem_set]
  simp [Fin.ext_iff, eq_comm]

@[simp] theorem State.modDesc_desc? (s : State) (d e : DescId) (f : Descriptor → Descriptor) :
    (s.modDesc d f).desc? e = if e = d then (s.desc? d).map f else s.desc? e := by
  simp [State.modDesc]

@[simp] theorem State.putClass_classState (s : State) (c e : EventClass) (k : ClassState) :
    (s.putClass c k).classState e = if e = c then k else s.classState e := by
  unfold State.classState State.putClass
  simp only [Fin.getElem_fin]
  rw [Vector.getElem_set]
  simp [← classNumber_inj, Fin.ext_iff, eq_comm]

@[simp] theorem State.putEntry_classState (s : State) (c e : EventClass) (n : NoticeEntry) :
    (s.putEntry c n).classState e =
      if e = c then { s.classState c with entry := n } else s.classState e := by
  simp [State.putEntry]

@[simp] theorem State.issueNotice_classState (s : State) (c e : EventClass) :
    (s.issueNotice c).classState e =
      if e = c then
        { s.classState c with
          entry := .pendingSend s.events.noticeSequence none 0 s.events.nextAge }
      else s.classState e := by
  have h : (s.issueNotice c).classState e =
      (s.putEntry c (.pendingSend s.events.noticeSequence none 0 s.events.nextAge)).classState e := rfl
  rw [h, State.putEntry_classState]

@[simp] theorem State.setChain_chain (s : State) (f g : Byte) (l : List DescId) :
    (s.setChain f l).chain g = if g = f then l else s.chain g := by
  simp [State.chain]

@[simp] theorem State.countFlow_flowCounters (s : State) (f g : Byte) (c : FlowCounter) (n : Nat) :
    (s.countFlow f c n).flowCounters g =
      if g = f then (s.flowCounters f).count c n else s.flowCounters g := by
  simp [State.flowCounters, State.countFlow]

@[simp] theorem State.countFlow_globals (s : State) (f : Byte) (c : FlowCounter) (n : Nat) :
    (s.countFlow f c n).counters.globals = s.counters.globals := rfl

@[simp] theorem State.countGlobal_flowCounters (s : State) (c : GlobalCounter) (g : Byte) :
    (s.countGlobal c).flowCounters g = s.flowCounters g := rfl

@[simp] theorem State.setEngine_engineRun (s : State) (e x : EngineId) (r : Option Run) :
    (s.setEngine e r).engineRun x = if x = e then r else s.engineRun x := by
  cases e <;> cases x <;> rfl

@[simp] theorem State.setPlace_desc? (s : State) (d e : DescId) (p : Place) :
    (s.setPlace d p).desc? e =
      if e = d then (s.desc? d).map (fun fr => { fr with place := p }) else s.desc? e := by
  simp [State.setPlace]

@[simp] theorem State.setDamaged_desc? (s : State) (d e : DescId) :
    (s.setDamaged d).desc? e =
      if e = d then (s.desc? d).map (fun fr => { fr with header := withDamaged fr.header })
      else s.desc? e := by
  simp [State.setDamaged]

@[simp] theorem State.startDeadline_desc? (s : State) (d e : DescId) :
    (s.startDeadline d).desc? e =
      if e = d then
        (s.desc? d).map (fun fr =>
          { fr with deadline := some (s.now + Config.usec fr.entry.holdLimit) })
      else s.desc? e := by
  simp [State.startDeadline]

@[simp] theorem State.toForward_desc? (s : State) (d e : DescId) :
    (s.toForward d).desc? e =
      if e = d then (s.desc? d).map (fun fr => { fr with place := .forward, deadline := none })
      else s.desc? e := by
  have h : (s.toForward d).desc? e =
      (s.modDesc d fun fr => { fr with place := .forward, deadline := none }).desc? e := rfl
  rw [h, State.modDesc_desc?]

@[simp] theorem State.giveStamp_desc? (s : State) (d e : DescId) :
    (s.giveStamp d).desc? e =
      if e = d then (s.desc? d).map (fun fr => { fr with stamp := some s.order.nextStamp })
      else s.desc? e := by
  have h : (s.giveStamp d).desc? e =
      (s.modDesc d fun fr => { fr with stamp := some s.order.nextStamp }).desc? e := rfl
  rw [h, State.modDesc_desc?]

@[simp] theorem State.putMemory_desc? (s : State) (m : Memory) (e : DescId) :
    (s.putMemory m).desc? e = s.desc? e := rfl

@[simp] theorem State.storePayload_desc? (s : State) (fr : Descriptor) (p : List Byte) (e : DescId) :
    (s.storePayload fr p).desc? e = s.desc? e := rfl

@[simp] theorem State.storeArrived_desc? (s : State) (p : List Byte) (e : DescId) :
    (s.storeArrived p).desc? e = s.desc? e := by
  unfold State.storeArrived; split <;> first | rfl | (split <;> rfl)

@[simp] theorem State.giveHeadTo_engineRun (s : State) (x : Option EngineId) (e : EngineId) :
    (s.giveHeadTo x).engineRun e = s.engineRun e := by cases e <;> rfl

theorem FrameStore.released_descs (st : FrameStore) (d e : DescId) (fr : Descriptor) :
    (st.released d fr).descs[e] = if e = d then none else st.descs[e] := by
  simp only [FrameStore.released, FrameStore.evaluated, Fin.getElem_fin]
  rw [Vector.getElem_set]
  simp [Fin.ext_iff, eq_comm]

@[simp] theorem State.releaseDropped_desc? (s : State) (d e : DescId) :
    (s.releaseDropped d).desc? e = if e = d then none else s.desc? e := by
  unfold State.releaseDropped
  split
  · rename_i h
    split
    · next heq => rw [heq, h]
    · rfl
  · rename_i fr h
    split <;> exact FrameStore.released_descs s.store d e fr

@[simp] theorem State.releaseSent_desc? (s : State) (d e : DescId) :
    (s.releaseSent d).desc? e = if e = d then none else s.desc? e := by
  unfold State.releaseSent
  split
  · rename_i h
    split
    · next heq => rw [heq, h]
    · rfl
  · rename_i fr h
    split <;> exact FrameStore.released_descs s.store d e fr

/-! ### `State.evaluateHoldOut` -/

@[simp] theorem State.evaluateHoldOut_chain (s : State) (g : Byte) :
    s.evaluateHoldOut.chain g = s.chain g := by simp [State.chain]
@[simp] theorem State.evaluateHoldOut_flowCounters (s : State) (g : Byte) :
    s.evaluateHoldOut.flowCounters g = s.flowCounters g := by simp [State.flowCounters]
@[simp] theorem State.evaluateHoldOut_classState (s : State) (k : EventClass) :
    s.evaluateHoldOut.classState k = s.classState k := by simp [State.classState]
@[simp] theorem State.evaluateHoldOut_engineRun (s : State) (y : EngineId) :
    s.evaluateHoldOut.engineRun y = s.engineRun y := by simp [State.engineRun]

/-! ### `State.settle` -/

@[simp] theorem State.settle_desc? (s : State) (y : DescId) :
    s.settle.desc? y = s.desc? y := by simp [State.desc?]
@[simp] theorem State.settle_chain (s : State) (g : Byte) :
    s.settle.chain g = s.chain g := by simp [State.chain]
@[simp] theorem State.settle_flowCounters (s : State) (g : Byte) :
    s.settle.flowCounters g = s.flowCounters g := by simp [State.flowCounters]
@[simp] theorem State.settle_classState (s : State) (k : EventClass) :
    s.settle.classState k = s.classState k := by simp [State.classState]
@[simp] theorem State.settle_engineRun (s : State) (y : EngineId) :
    s.settle.engineRun y = s.engineRun y := by simp [State.engineRun]
@[simp] theorem State.settle_egress_forwardQueue (s : State) :
    s.settle.egress.forwardQueue = s.egress.forwardQueue := rfl
@[simp] theorem State.settle_egress_transmitter (s : State) :
    s.settle.egress.transmitter = s.egress.transmitter := rfl
@[simp] theorem State.settle_egress_holdIn (s : State) :
    s.settle.egress.holdIn = s.egress.holdIn := rfl
@[simp] theorem State.settle_egress_permission (s : State) :
    s.settle.egress.permission = s.egress.permission := rfl
@[simp] theorem State.settle_egress_cadenceDue (s : State) :
    s.settle.egress.cadenceDue = s.egress.cadenceDue := rfl
@[simp] theorem State.settle_egress_debt (s : State) :
    s.settle.egress.debt = s.egress.debt := rfl
@[simp] theorem State.settle_egress_overdue (s : State) :
    s.settle.egress.overdue = s.egress.overdue := rfl
@[simp] theorem State.settle_egress_tokenSequence (s : State) :
    s.settle.egress.tokenSequence = s.egress.tokenSequence := rfl
@[simp] theorem State.settle_egress_timing (s : State) :
    s.settle.egress.timing = s.egress.timing := rfl

/-! ### `State.advanceTo` -/

@[simp] theorem State.advanceTo_desc? (s : State) (n : Nat) (y : DescId) :
    (s.advanceTo n).desc? y = s.desc? y := by simp [State.desc?]
@[simp] theorem State.advanceTo_chain (s : State) (n : Nat) (g : Byte) :
    (s.advanceTo n).chain g = s.chain g := by simp [State.chain]
@[simp] theorem State.advanceTo_flowCounters (s : State) (n : Nat) (g : Byte) :
    (s.advanceTo n).flowCounters g = s.flowCounters g := by simp [State.flowCounters]
@[simp] theorem State.advanceTo_classState (s : State) (n : Nat) (k : EventClass) :
    (s.advanceTo n).classState k = s.classState k := by simp [State.classState]
@[simp] theorem State.advanceTo_engineRun (s : State) (n : Nat) (y : EngineId) :
    (s.advanceTo n).engineRun y = s.engineRun y := by simp [State.engineRun]

/-! ### `State.putDesc` -/

@[simp] theorem State.putDesc_chain (s : State) (d : DescId) (fr : Option Descriptor) (g : Byte) :
    (s.putDesc d fr).chain g = s.chain g := by simp [State.chain]
@[simp] theorem State.putDesc_flowCounters (s : State) (d : DescId) (fr : Option Descriptor) (g : Byte) :
    (s.putDesc d fr).flowCounters g = s.flowCounters g := by simp [State.flowCounters]
@[simp] theorem State.putDesc_classState (s : State) (d : DescId) (fr : Option Descriptor) (k : EventClass) :
    (s.putDesc d fr).classState k = s.classState k := by simp [State.classState]
@[simp] theorem State.putDesc_engineRun (s : State) (d : DescId) (fr : Option Descriptor) (y : EngineId) :
    (s.putDesc d fr).engineRun y = s.engineRun y := by simp [State.engineRun]

/-! ### `State.modDesc` -/

@[simp] theorem State.modDesc_chain (s : State) (d : DescId) (f : Descriptor → Descriptor) (g : Byte) :
    (s.modDesc d f).chain g = s.chain g := by simp [State.chain]
@[simp] theorem State.modDesc_flowCounters (s : State) (d : DescId) (f : Descriptor → Descriptor) (g : Byte) :
    (s.modDesc d f).flowCounters g = s.flowCounters g := by simp [State.flowCounters]
@[simp] theorem State.modDesc_classState (s : State) (d : DescId) (f : Descriptor → Descriptor) (k : EventClass) :
    (s.modDesc d f).classState k = s.classState k := by simp [State.classState]
@[simp] theorem State.modDesc_engineRun (s : State) (d : DescId) (f : Descriptor → Descriptor) (y : EngineId) :
    (s.modDesc d f).engineRun y = s.engineRun y := by simp [State.engineRun]
@[simp] theorem State.modDesc_store_memory (s : State) (d : DescId) (f : Descriptor → Descriptor) :
    (s.modDesc d f).store.memory = s.store.memory := rfl
@[simp] theorem State.modDesc_store_freeCells (s : State) (d : DescId) (f : Descriptor → Descriptor) :
    (s.modDesc d f).store.freeCells = s.store.freeCells := rfl
@[simp] theorem State.modDesc_store_freeDescs (s : State) (d : DescId) (f : Descriptor → Descriptor) :
    (s.modDesc d f).store.freeDescs = s.store.freeDescs := rfl
@[simp] theorem State.modDesc_store_holdOut (s : State) (d : DescId) (f : Descriptor → Descriptor) :
    (s.modDesc d f).store.holdOut = s.store.holdOut := rfl

/-! ### `State.putMemory` -/

@[simp] theorem State.putMemory_chain (s : State) (m : Memory) (g : Byte) :
    (s.putMemory m).chain g = s.chain g := by simp [State.chain]
@[simp] theorem State.putMemory_flowCounters (s : State) (m : Memory) (g : Byte) :
    (s.putMemory m).flowCounters g = s.flowCounters g := by simp [State.flowCounters]
@[simp] theorem State.putMemory_classState (s : State) (m : Memory) (k : EventClass) :
    (s.putMemory m).classState k = s.classState k := by simp [State.classState]
@[simp] theorem State.putMemory_engineRun (s : State) (m : Memory) (y : EngineId) :
    (s.putMemory m).engineRun y = s.engineRun y := by simp [State.engineRun]

/-! ### `State.setPlace` -/

@[simp] theorem State.setPlace_chain (s : State) (d : DescId) (p : Place) (g : Byte) :
    (s.setPlace d p).chain g = s.chain g := by simp [State.chain]
@[simp] theorem State.setPlace_flowCounters (s : State) (d : DescId) (p : Place) (g : Byte) :
    (s.setPlace d p).flowCounters g = s.flowCounters g := by simp [State.flowCounters]
@[simp] theorem State.setPlace_classState (s : State) (d : DescId) (p : Place) (k : EventClass) :
    (s.setPlace d p).classState k = s.classState k := by simp [State.classState]
@[simp] theorem State.setPlace_engineRun (s : State) (d : DescId) (p : Place) (y : EngineId) :
    (s.setPlace d p).engineRun y = s.engineRun y := by simp [State.engineRun]
@[simp] theorem State.setPlace_store_memory (s : State) (d : DescId) (p : Place) :
    (s.setPlace d p).store.memory = s.store.memory := rfl
@[simp] theorem State.setPlace_store_freeCells (s : State) (d : DescId) (p : Place) :
    (s.setPlace d p).store.freeCells = s.store.freeCells := rfl
@[simp] theorem State.setPlace_store_freeDescs (s : State) (d : DescId) (p : Place) :
    (s.setPlace d p).store.freeDescs = s.store.freeDescs := rfl
@[simp] theorem State.setPlace_store_holdOut (s : State) (d : DescId) (p : Place) :
    (s.setPlace d p).store.holdOut = s.store.holdOut := rfl

/-! ### `State.setDamaged` -/

@[simp] theorem State.setDamaged_chain (s : State) (d : DescId) (g : Byte) :
    (s.setDamaged d).chain g = s.chain g := by simp [State.chain]
@[simp] theorem State.setDamaged_flowCounters (s : State) (d : DescId) (g : Byte) :
    (s.setDamaged d).flowCounters g = s.flowCounters g := by simp [State.flowCounters]
@[simp] theorem State.setDamaged_classState (s : State) (d : DescId) (k : EventClass) :
    (s.setDamaged d).classState k = s.classState k := by simp [State.classState]
@[simp] theorem State.setDamaged_engineRun (s : State) (d : DescId) (y : EngineId) :
    (s.setDamaged d).engineRun y = s.engineRun y := by simp [State.engineRun]
@[simp] theorem State.setDamaged_store_memory (s : State) (d : DescId) :
    (s.setDamaged d).store.memory = s.store.memory := rfl
@[simp] theorem State.setDamaged_store_freeCells (s : State) (d : DescId) :
    (s.setDamaged d).store.freeCells = s.store.freeCells := rfl
@[simp] theorem State.setDamaged_store_freeDescs (s : State) (d : DescId) :
    (s.setDamaged d).store.freeDescs = s.store.freeDescs := rfl
@[simp] theorem State.setDamaged_store_holdOut (s : State) (d : DescId) :
    (s.setDamaged d).store.holdOut = s.store.holdOut := rfl

/-! ### `State.startDeadline` -/

@[simp] theorem State.startDeadline_chain (s : State) (d : DescId) (g : Byte) :
    (s.startDeadline d).chain g = s.chain g := by simp [State.chain]
@[simp] theorem State.startDeadline_flowCounters (s : State) (d : DescId) (g : Byte) :
    (s.startDeadline d).flowCounters g = s.flowCounters g := by simp [State.flowCounters]
@[simp] theorem State.startDeadline_classState (s : State) (d : DescId) (k : EventClass) :
    (s.startDeadline d).classState k = s.classState k := by simp [State.classState]
@[simp] theorem State.startDeadline_engineRun (s : State) (d : DescId) (y : EngineId) :
    (s.startDeadline d).engineRun y = s.engineRun y := by simp [State.engineRun]
@[simp] theorem State.startDeadline_store_memory (s : State) (d : DescId) :
    (s.startDeadline d).store.memory = s.store.memory := rfl
@[simp] theorem State.startDeadline_store_freeCells (s : State) (d : DescId) :
    (s.startDeadline d).store.freeCells = s.store.freeCells := rfl
@[simp] theorem State.startDeadline_store_freeDescs (s : State) (d : DescId) :
    (s.startDeadline d).store.freeDescs = s.store.freeDescs := rfl
@[simp] theorem State.startDeadline_store_holdOut (s : State) (d : DescId) :
    (s.startDeadline d).store.holdOut = s.store.holdOut := rfl

/-! ### `State.countFlow` -/

@[simp] theorem State.countFlow_desc? (s : State) (f : Byte) (c : FlowCounter) (n : Nat) (y : DescId) :
    (s.countFlow f c n).desc? y = s.desc? y := by simp [State.desc?]
@[simp] theorem State.countFlow_chain (s : State) (f : Byte) (c : FlowCounter) (n : Nat) (g : Byte) :
    (s.countFlow f c n).chain g = s.chain g := by simp [State.chain]
@[simp] theorem State.countFlow_classState (s : State) (f : Byte) (c : FlowCounter) (n : Nat) (k : EventClass) :
    (s.countFlow f c n).classState k = s.classState k := by simp [State.classState]
@[simp] theorem State.countFlow_engineRun (s : State) (f : Byte) (c : FlowCounter) (n : Nat) (y : EngineId) :
    (s.countFlow f c n).engineRun y = s.engineRun y := by simp [State.engineRun]

/-! ### `State.countGlobal` -/

@[simp] theorem State.countGlobal_desc? (s : State) (c : GlobalCounter) (y : DescId) :
    (s.countGlobal c).desc? y = s.desc? y := by simp [State.desc?]
@[simp] theorem State.countGlobal_chain (s : State) (c : GlobalCounter) (g : Byte) :
    (s.countGlobal c).chain g = s.chain g := by simp [State.chain]
@[simp] theorem State.countGlobal_classState (s : State) (c : GlobalCounter) (k : EventClass) :
    (s.countGlobal c).classState k = s.classState k := by simp [State.classState]
@[simp] theorem State.countGlobal_engineRun (s : State) (c : GlobalCounter) (y : EngineId) :
    (s.countGlobal c).engineRun y = s.engineRun y := by simp [State.engineRun]

/-! ### `State.putClass` -/

@[simp] theorem State.putClass_desc? (s : State) (c : EventClass) (k : ClassState) (y : DescId) :
    (s.putClass c k).desc? y = s.desc? y := by simp [State.desc?]
@[simp] theorem State.putClass_chain (s : State) (c : EventClass) (k : ClassState) (g : Byte) :
    (s.putClass c k).chain g = s.chain g := by simp [State.chain]
@[simp] theorem State.putClass_flowCounters (s : State) (c : EventClass) (k : ClassState) (g : Byte) :
    (s.putClass c k).flowCounters g = s.flowCounters g := by simp [State.flowCounters]
@[simp] theorem State.putClass_engineRun (s : State) (c : EventClass) (k : ClassState) (y : EngineId) :
    (s.putClass c k).engineRun y = s.engineRun y := by simp [State.engineRun]

/-! ### `State.putEntry` -/

@[simp] theorem State.putEntry_desc? (s : State) (c : EventClass) (e : NoticeEntry) (y : DescId) :
    (s.putEntry c e).desc? y = s.desc? y := by simp [State.desc?]
@[simp] theorem State.putEntry_chain (s : State) (c : EventClass) (e : NoticeEntry) (g : Byte) :
    (s.putEntry c e).chain g = s.chain g := by simp [State.chain]
@[simp] theorem State.putEntry_flowCounters (s : State) (c : EventClass) (e : NoticeEntry) (g : Byte) :
    (s.putEntry c e).flowCounters g = s.flowCounters g := by simp [State.flowCounters]
@[simp] theorem State.putEntry_engineRun (s : State) (c : EventClass) (e : NoticeEntry) (y : EngineId) :
    (s.putEntry c e).engineRun y = s.engineRun y := by simp [State.engineRun]

/-! ### `State.issueNotice` -/

@[simp] theorem State.issueNotice_desc? (s : State) (c : EventClass) (y : DescId) :
    (s.issueNotice c).desc? y = s.desc? y := by simp [State.desc?]
@[simp] theorem State.issueNotice_chain (s : State) (c : EventClass) (g : Byte) :
    (s.issueNotice c).chain g = s.chain g := by simp [State.chain]
@[simp] theorem State.issueNotice_flowCounters (s : State) (c : EventClass) (g : Byte) :
    (s.issueNotice c).flowCounters g = s.flowCounters g := by simp [State.flowCounters]
@[simp] theorem State.issueNotice_engineRun (s : State) (c : EventClass) (y : EngineId) :
    (s.issueNotice c).engineRun y = s.engineRun y := by simp [State.engineRun]

/-! ### `State.raise` -/

@[simp] theorem State.raise_desc? (s : State) (c : EventClass) (y : DescId) :
    (s.raise c).desc? y = s.desc? y := by simp [State.desc?]
@[simp] theorem State.raise_chain (s : State) (c : EventClass) (g : Byte) :
    (s.raise c).chain g = s.chain g := by simp [State.chain]
@[simp] theorem State.raise_flowCounters (s : State) (c : EventClass) (g : Byte) :
    (s.raise c).flowCounters g = s.flowCounters g := by simp [State.flowCounters]
@[simp] theorem State.raise_engineRun (s : State) (c : EventClass) (y : EngineId) :
    (s.raise c).engineRun y = s.engineRun y := by simp [State.engineRun]

/-! ### `State.releaseDropped` -/

@[simp] theorem State.releaseDropped_chain (s : State) (d : DescId) (g : Byte) :
    (s.releaseDropped d).chain g = s.chain g := by simp [State.chain]
@[simp] theorem State.releaseDropped_classState (s : State) (d : DescId) (k : EventClass) :
    (s.releaseDropped d).classState k = s.classState k := by simp [State.classState]
@[simp] theorem State.releaseDropped_engineRun (s : State) (d : DescId) (y : EngineId) :
    (s.releaseDropped d).engineRun y = s.engineRun y := by simp [State.engineRun]
@[simp] theorem State.releaseDropped_store_memory (s : State) (d : DescId) :
    (s.releaseDropped d).store.memory = s.store.memory := by
  unfold State.releaseDropped; dsimp only; split <;> first | rfl | (split <;> rfl)
@[simp] theorem State.releaseDropped_counters_globals (s : State) (d : DescId) :
    (s.releaseDropped d).counters.globals = s.counters.globals := by
  unfold State.releaseDropped; dsimp only; split <;> first | rfl | (split <;> rfl)

/-! ### `State.releaseSent` -/

@[simp] theorem State.releaseSent_chain (s : State) (d : DescId) (g : Byte) :
    (s.releaseSent d).chain g = s.chain g := by simp [State.chain]
@[simp] theorem State.releaseSent_classState (s : State) (d : DescId) (k : EventClass) :
    (s.releaseSent d).classState k = s.classState k := by simp [State.classState]
@[simp] theorem State.releaseSent_engineRun (s : State) (d : DescId) (y : EngineId) :
    (s.releaseSent d).engineRun y = s.engineRun y := by simp [State.engineRun]
@[simp] theorem State.releaseSent_store_memory (s : State) (d : DescId) :
    (s.releaseSent d).store.memory = s.store.memory := by
  unfold State.releaseSent; dsimp only; split <;> first | rfl | (split <;> rfl)
@[simp] theorem State.releaseSent_counters_globals (s : State) (d : DescId) :
    (s.releaseSent d).counters.globals = s.counters.globals := by
  unfold State.releaseSent; dsimp only; split <;> first | rfl | (split <;> rfl)

/-! ### `State.toForward` -/

@[simp] theorem State.toForward_chain (s : State) (d : DescId) (g : Byte) :
    (s.toForward d).chain g = s.chain g := by simp [State.chain]
@[simp] theorem State.toForward_flowCounters (s : State) (d : DescId) (g : Byte) :
    (s.toForward d).flowCounters g = s.flowCounters g := by simp [State.flowCounters]
@[simp] theorem State.toForward_classState (s : State) (d : DescId) (k : EventClass) :
    (s.toForward d).classState k = s.classState k := by simp [State.classState]
@[simp] theorem State.toForward_engineRun (s : State) (d : DescId) (y : EngineId) :
    (s.toForward d).engineRun y = s.engineRun y := by simp [State.engineRun]
@[simp] theorem State.toForward_store_memory (s : State) (d : DescId) :
    (s.toForward d).store.memory = s.store.memory := rfl
@[simp] theorem State.toForward_store_freeCells (s : State) (d : DescId) :
    (s.toForward d).store.freeCells = s.store.freeCells := rfl
@[simp] theorem State.toForward_store_freeDescs (s : State) (d : DescId) :
    (s.toForward d).store.freeDescs = s.store.freeDescs := rfl
@[simp] theorem State.toForward_store_holdOut (s : State) (d : DescId) :
    (s.toForward d).store.holdOut = s.store.holdOut := rfl

/-! ### `State.setChain` -/

@[simp] theorem State.setChain_desc? (s : State) (f : Byte) (l : List DescId) (y : DescId) :
    (s.setChain f l).desc? y = s.desc? y := by simp [State.desc?]
@[simp] theorem State.setChain_flowCounters (s : State) (f : Byte) (l : List DescId) (g : Byte) :
    (s.setChain f l).flowCounters g = s.flowCounters g := by simp [State.flowCounters]
@[simp] theorem State.setChain_classState (s : State) (f : Byte) (l : List DescId) (k : EventClass) :
    (s.setChain f l).classState k = s.classState k := by simp [State.classState]
@[simp] theorem State.setChain_engineRun (s : State) (f : Byte) (l : List DescId) (y : EngineId) :
    (s.setChain f l).engineRun y = s.engineRun y := by simp [State.engineRun]

/-! ### `State.giveStamp` -/

@[simp] theorem State.giveStamp_flowCounters (s : State) (d : DescId) (g : Byte) :
    (s.giveStamp d).flowCounters g = s.flowCounters g := by simp [State.flowCounters]
@[simp] theorem State.giveStamp_classState (s : State) (d : DescId) (k : EventClass) :
    (s.giveStamp d).classState k = s.classState k := by simp [State.classState]
@[simp] theorem State.giveStamp_engineRun (s : State) (d : DescId) (y : EngineId) :
    (s.giveStamp d).engineRun y = s.engineRun y := by simp [State.engineRun]
@[simp] theorem State.giveStamp_store_memory (s : State) (d : DescId) :
    (s.giveStamp d).store.memory = s.store.memory := rfl
@[simp] theorem State.giveStamp_store_freeCells (s : State) (d : DescId) :
    (s.giveStamp d).store.freeCells = s.store.freeCells := rfl
@[simp] theorem State.giveStamp_store_freeDescs (s : State) (d : DescId) :
    (s.giveStamp d).store.freeDescs = s.store.freeDescs := rfl
@[simp] theorem State.giveStamp_store_holdOut (s : State) (d : DescId) :
    (s.giveStamp d).store.holdOut = s.store.holdOut := rfl

/-! ### `State.joinCorrectionQueue` -/

@[simp] theorem State.joinCorrectionQueue_desc? (s : State) (d : DescId) (y : DescId) :
    (s.joinCorrectionQueue d).desc? y = s.desc? y := by simp [State.desc?]
@[simp] theorem State.joinCorrectionQueue_chain (s : State) (d : DescId) (g : Byte) :
    (s.joinCorrectionQueue d).chain g = s.chain g := by simp [State.chain]
@[simp] theorem State.joinCorrectionQueue_flowCounters (s : State) (d : DescId) (g : Byte) :
    (s.joinCorrectionQueue d).flowCounters g = s.flowCounters g := by simp [State.flowCounters]
@[simp] theorem State.joinCorrectionQueue_classState (s : State) (d : DescId) (k : EventClass) :
    (s.joinCorrectionQueue d).classState k = s.classState k := by simp [State.classState]

/-! ### `State.withdrawFromLocator` -/

@[simp] theorem State.withdrawFromLocator_desc? (s : State) (d : DescId) (y : DescId) :
    (s.withdrawFromLocator d).desc? y = s.desc? y := by simp [State.desc?]
@[simp] theorem State.withdrawFromLocator_chain (s : State) (d : DescId) (g : Byte) :
    (s.withdrawFromLocator d).chain g = s.chain g := by simp [State.chain]
@[simp] theorem State.withdrawFromLocator_flowCounters (s : State) (d : DescId) (g : Byte) :
    (s.withdrawFromLocator d).flowCounters g = s.flowCounters g := by simp [State.flowCounters]
@[simp] theorem State.withdrawFromLocator_classState (s : State) (d : DescId) (k : EventClass) :
    (s.withdrawFromLocator d).classState k = s.classState k := by simp [State.classState]
@[simp] theorem State.withdrawFromLocator_locator_queue (s : State) (d : DescId) :
    (s.withdrawFromLocator d).locator.queue = s.locator.queue.filter (· ≠ d) := rfl

/-! ### `State.setEngine` -/

@[simp] theorem State.setEngine_desc? (s : State) (e : EngineId) (r : Option Run) (y : DescId) :
    (s.setEngine e r).desc? y = s.desc? y := by simp [State.desc?]
@[simp] theorem State.setEngine_chain (s : State) (e : EngineId) (r : Option Run) (g : Byte) :
    (s.setEngine e r).chain g = s.chain g := by simp [State.chain]
@[simp] theorem State.setEngine_flowCounters (s : State) (e : EngineId) (r : Option Run) (g : Byte) :
    (s.setEngine e r).flowCounters g = s.flowCounters g := by simp [State.flowCounters]
@[simp] theorem State.setEngine_classState (s : State) (e : EngineId) (r : Option Run) (k : EventClass) :
    (s.setEngine e r).classState k = s.classState k := by simp [State.classState]
@[simp] theorem State.setEngine_locator_queue (s : State) (e : EngineId) (r : Option Run) :
    (s.setEngine e r).locator.queue = s.locator.queue := by cases e <;> rfl

/-! ### `State.queueResponse` -/

@[simp] theorem State.queueResponse_desc? (s : State) (q : QueuedResponse) (y : DescId) :
    (s.queueResponse q).desc? y = s.desc? y := by simp [State.desc?]
@[simp] theorem State.queueResponse_chain (s : State) (q : QueuedResponse) (g : Byte) :
    (s.queueResponse q).chain g = s.chain g := by simp [State.chain]
@[simp] theorem State.queueResponse_flowCounters (s : State) (q : QueuedResponse) (g : Byte) :
    (s.queueResponse q).flowCounters g = s.flowCounters g := by simp [State.flowCounters]
@[simp] theorem State.queueResponse_classState (s : State) (q : QueuedResponse) (k : EventClass) :
    (s.queueResponse q).classState k = s.classState k := by simp [State.classState]
@[simp] theorem State.queueResponse_engineRun (s : State) (q : QueuedResponse) (y : EngineId) :
    (s.queueResponse q).engineRun y = s.engineRun y := by simp [State.engineRun]

/-! ### `State.dropClaim` -/

@[simp] theorem State.dropClaim_desc? (s : State) (y : DescId) :
    s.dropClaim.desc? y = s.desc? y := by simp [State.desc?]
@[simp] theorem State.dropClaim_chain (s : State) (g : Byte) :
    s.dropClaim.chain g = s.chain g := by simp [State.chain]
@[simp] theorem State.dropClaim_flowCounters (s : State) (g : Byte) :
    s.dropClaim.flowCounters g = s.flowCounters g := by simp [State.flowCounters]
@[simp] theorem State.dropClaim_classState (s : State) (k : EventClass) :
    s.dropClaim.classState k = s.classState k := by simp [State.classState]
@[simp] theorem State.dropClaim_engineRun (s : State) (y : EngineId) :
    s.dropClaim.engineRun y = s.engineRun y := by simp [State.engineRun]

/-! ### `State.updatePending` -/

@[simp] theorem State.updatePending_desc? (s : State) (f : PendingReset → PendingReset) (y : DescId) :
    (s.updatePending f).desc? y = s.desc? y := by simp [State.desc?]
@[simp] theorem State.updatePending_chain (s : State) (f : PendingReset → PendingReset) (g : Byte) :
    (s.updatePending f).chain g = s.chain g := by simp [State.chain]
@[simp] theorem State.updatePending_flowCounters (s : State) (f : PendingReset → PendingReset) (g : Byte) :
    (s.updatePending f).flowCounters g = s.flowCounters g := by simp [State.flowCounters]
@[simp] theorem State.updatePending_classState (s : State) (f : PendingReset → PendingReset) (k : EventClass) :
    (s.updatePending f).classState k = s.classState k := by simp [State.classState]
@[simp] theorem State.updatePending_engineRun (s : State) (f : PendingReset → PendingReset) (y : EngineId) :
    (s.updatePending f).engineRun y = s.engineRun y := by simp [State.engineRun]

/-! ### `State.setReception` -/

@[simp] theorem State.setReception_desc? (s : State) (r : Reception) (y : DescId) :
    (s.setReception r).desc? y = s.desc? y := by simp [State.desc?]
@[simp] theorem State.setReception_chain (s : State) (r : Reception) (g : Byte) :
    (s.setReception r).chain g = s.chain g := by simp [State.chain]
@[simp] theorem State.setReception_flowCounters (s : State) (r : Reception) (g : Byte) :
    (s.setReception r).flowCounters g = s.flowCounters g := by simp [State.flowCounters]
@[simp] theorem State.setReception_classState (s : State) (r : Reception) (k : EventClass) :
    (s.setReception r).classState k = s.classState k := by simp [State.classState]
@[simp] theorem State.setReception_engineRun (s : State) (r : Reception) (y : EngineId) :
    (s.setReception r).engineRun y = s.engineRun y := by simp [State.engineRun]

/-! ### `State.endReception` -/

@[simp] theorem State.endReception_desc? (s : State) (r : Reception) (y : DescId) :
    (s.endReception r).desc? y = s.desc? y := by simp [State.desc?]
@[simp] theorem State.endReception_chain (s : State) (r : Reception) (g : Byte) :
    (s.endReception r).chain g = s.chain g := by simp [State.chain]
@[simp] theorem State.endReception_flowCounters (s : State) (r : Reception) (g : Byte) :
    (s.endReception r).flowCounters g = s.flowCounters g := by simp [State.flowCounters]
@[simp] theorem State.endReception_classState (s : State) (r : Reception) (k : EventClass) :
    (s.endReception r).classState k = s.classState k := by simp [State.classState]
@[simp] theorem State.endReception_engineRun (s : State) (r : Reception) (y : EngineId) :
    (s.endReception r).engineRun y = s.engineRun y := by simp [State.engineRun]

/-! ### `State.storePayload` -/

@[simp] theorem State.storePayload_chain (s : State) (fr : Descriptor) (p : List Byte) (g : Byte) :
    (s.storePayload fr p).chain g = s.chain g := by simp [State.chain]
@[simp] theorem State.storePayload_flowCounters (s : State) (fr : Descriptor) (p : List Byte) (g : Byte) :
    (s.storePayload fr p).flowCounters g = s.flowCounters g := by simp [State.flowCounters]
@[simp] theorem State.storePayload_classState (s : State) (fr : Descriptor) (p : List Byte) (k : EventClass) :
    (s.storePayload fr p).classState k = s.classState k := by simp [State.classState]
@[simp] theorem State.storePayload_engineRun (s : State) (fr : Descriptor) (p : List Byte) (y : EngineId) :
    (s.storePayload fr p).engineRun y = s.engineRun y := by simp [State.engineRun]
@[simp] theorem State.storePayload_store_freeCells (s : State) (fr : Descriptor) (p : List Byte) :
    (s.storePayload fr p).store.freeCells = s.store.freeCells := rfl
@[simp] theorem State.storePayload_store_freeDescs (s : State) (fr : Descriptor) (p : List Byte) :
    (s.storePayload fr p).store.freeDescs = s.store.freeDescs := rfl
@[simp] theorem State.storePayload_store_holdOut (s : State) (fr : Descriptor) (p : List Byte) :
    (s.storePayload fr p).store.holdOut = s.store.holdOut := rfl

/-! ### `State.storeArrived` -/

@[simp] theorem State.storeArrived_chain (s : State) (p : List Byte) (g : Byte) :
    (s.storeArrived p).chain g = s.chain g := by simp [State.chain]
@[simp] theorem State.storeArrived_flowCounters (s : State) (p : List Byte) (g : Byte) :
    (s.storeArrived p).flowCounters g = s.flowCounters g := by simp [State.flowCounters]
@[simp] theorem State.storeArrived_classState (s : State) (p : List Byte) (k : EventClass) :
    (s.storeArrived p).classState k = s.classState k := by simp [State.classState]
@[simp] theorem State.storeArrived_engineRun (s : State) (p : List Byte) (y : EngineId) :
    (s.storeArrived p).engineRun y = s.engineRun y := by simp [State.engineRun]
@[simp] theorem State.storeArrived_store_freeCells (s : State) (p : List Byte) :
    (s.storeArrived p).store.freeCells = s.store.freeCells := by
  unfold State.storeArrived; split <;> first | rfl | (split <;> rfl)
@[simp] theorem State.storeArrived_store_freeDescs (s : State) (p : List Byte) :
    (s.storeArrived p).store.freeDescs = s.store.freeDescs := by
  unfold State.storeArrived; split <;> first | rfl | (split <;> rfl)
@[simp] theorem State.storeArrived_store_holdOut (s : State) (p : List Byte) :
    (s.storeArrived p).store.holdOut = s.store.holdOut := by
  unfold State.storeArrived; split <;> first | rfl | (split <;> rfl)

/-! ### `State.giveHeadTo` -/

@[simp] theorem State.giveHeadTo_desc? (s : State) (x : Option EngineId) (y : DescId) :
    (s.giveHeadTo x).desc? y = s.desc? y := by simp [State.desc?]
@[simp] theorem State.giveHeadTo_chain (s : State) (x : Option EngineId) (g : Byte) :
    (s.giveHeadTo x).chain g = s.chain g := by simp [State.chain]
@[simp] theorem State.giveHeadTo_flowCounters (s : State) (x : Option EngineId) (g : Byte) :
    (s.giveHeadTo x).flowCounters g = s.flowCounters g := by simp [State.flowCounters]
@[simp] theorem State.giveHeadTo_classState (s : State) (x : Option EngineId) (k : EventClass) :
    (s.giveHeadTo x).classState k = s.classState k := by simp [State.classState]

/-! ### `State.setHoldIn` -/

@[simp] theorem State.setHoldIn_desc? (s : State) (b : Bool) (y : DescId) :
    (s.setHoldIn b).desc? y = s.desc? y := by simp [State.desc?]
@[simp] theorem State.setHoldIn_chain (s : State) (b : Bool) (g : Byte) :
    (s.setHoldIn b).chain g = s.chain g := by simp [State.chain]
@[simp] theorem State.setHoldIn_flowCounters (s : State) (b : Bool) (g : Byte) :
    (s.setHoldIn b).flowCounters g = s.flowCounters g := by simp [State.flowCounters]
@[simp] theorem State.setHoldIn_classState (s : State) (b : Bool) (k : EventClass) :
    (s.setHoldIn b).classState k = s.classState k := by simp [State.classState]
@[simp] theorem State.setHoldIn_engineRun (s : State) (b : Bool) (y : EngineId) :
    (s.setHoldIn b).engineRun y = s.engineRun y := by simp [State.engineRun]

/-! ### `State.grantPermission` -/

@[simp] theorem State.grantPermission_desc? (s : State) (y : DescId) :
    s.grantPermission.desc? y = s.desc? y := by simp [State.desc?]
@[simp] theorem State.grantPermission_chain (s : State) (g : Byte) :
    s.grantPermission.chain g = s.chain g := by simp [State.chain]
@[simp] theorem State.grantPermission_flowCounters (s : State) (g : Byte) :
    s.grantPermission.flowCounters g = s.flowCounters g := by simp [State.flowCounters]
@[simp] theorem State.grantPermission_classState (s : State) (k : EventClass) :
    s.grantPermission.classState k = s.classState k := by simp [State.classState]
@[simp] theorem State.grantPermission_engineRun (s : State) (y : EngineId) :
    s.grantPermission.engineRun y = s.engineRun y := by simp [State.engineRun]

/-! ### `State.consumePermission` -/

@[simp] theorem State.consumePermission_desc? (s : State) (y : DescId) :
    s.consumePermission.desc? y = s.desc? y := by simp [State.desc?]
@[simp] theorem State.consumePermission_chain (s : State) (g : Byte) :
    s.consumePermission.chain g = s.chain g := by simp [State.chain]
@[simp] theorem State.consumePermission_flowCounters (s : State) (g : Byte) :
    s.consumePermission.flowCounters g = s.flowCounters g := by simp [State.flowCounters]
@[simp] theorem State.consumePermission_classState (s : State) (k : EventClass) :
    s.consumePermission.classState k = s.classState k := by simp [State.classState]
@[simp] theorem State.consumePermission_engineRun (s : State) (y : EngineId) :
    s.consumePermission.engineRun y = s.engineRun y := by simp [State.engineRun]

/-! ### `State.idleTransmitter` -/

@[simp] theorem State.idleTransmitter_desc? (s : State) (y : DescId) :
    s.idleTransmitter.desc? y = s.desc? y := by simp [State.desc?]
@[simp] theorem State.idleTransmitter_chain (s : State) (g : Byte) :
    s.idleTransmitter.chain g = s.chain g := by simp [State.chain]
@[simp] theorem State.idleTransmitter_flowCounters (s : State) (g : Byte) :
    s.idleTransmitter.flowCounters g = s.flowCounters g := by simp [State.flowCounters]
@[simp] theorem State.idleTransmitter_classState (s : State) (k : EventClass) :
    s.idleTransmitter.classState k = s.classState k := by simp [State.classState]
@[simp] theorem State.idleTransmitter_engineRun (s : State) (y : EngineId) :
    s.idleTransmitter.engineRun y = s.engineRun y := by simp [State.engineRun]

/-! ### `State.send` -/

@[simp] theorem State.send_desc? (s : State) (x : TxSource) (h : HeaderBytes) (p : List Byte) (y : DescId) :
    (s.send x h p).desc? y = s.desc? y := by simp [State.desc?]
@[simp] theorem State.send_chain (s : State) (x : TxSource) (h : HeaderBytes) (p : List Byte) (g : Byte) :
    (s.send x h p).chain g = s.chain g := by simp [State.chain]
@[simp] theorem State.send_flowCounters (s : State) (x : TxSource) (h : HeaderBytes) (p : List Byte) (g : Byte) :
    (s.send x h p).flowCounters g = s.flowCounters g := by simp [State.flowCounters]
@[simp] theorem State.send_classState (s : State) (x : TxSource) (h : HeaderBytes) (p : List Byte) (k : EventClass) :
    (s.send x h p).classState k = s.classState k := by simp [State.classState]
@[simp] theorem State.send_engineRun (s : State) (x : TxSource) (h : HeaderBytes) (p : List Byte) (y : EngineId) :
    (s.send x h p).engineRun y = s.engineRun y := by simp [State.engineRun]
@[simp] theorem State.send_egress_forwardQueue (s : State) (x : TxSource) (h : HeaderBytes) (p : List Byte) :
    (s.send x h p).egress.forwardQueue = s.egress.forwardQueue := rfl
@[simp] theorem State.send_egress_holdIn (s : State) (x : TxSource) (h : HeaderBytes) (p : List Byte) :
    (s.send x h p).egress.holdIn = s.egress.holdIn := rfl
@[simp] theorem State.send_egress_holdWait (s : State) (x : TxSource) (h : HeaderBytes) (p : List Byte) :
    (s.send x h p).egress.holdWait = s.egress.holdWait := rfl
@[simp] theorem State.send_egress_permission (s : State) (x : TxSource) (h : HeaderBytes) (p : List Byte) :
    (s.send x h p).egress.permission = s.egress.permission := rfl
@[simp] theorem State.send_egress_cadenceDue (s : State) (x : TxSource) (h : HeaderBytes) (p : List Byte) :
    (s.send x h p).egress.cadenceDue = s.egress.cadenceDue := rfl
@[simp] theorem State.send_egress_debt (s : State) (x : TxSource) (h : HeaderBytes) (p : List Byte) :
    (s.send x h p).egress.debt = s.egress.debt := rfl
@[simp] theorem State.send_egress_overdue (s : State) (x : TxSource) (h : HeaderBytes) (p : List Byte) :
    (s.send x h p).egress.overdue = s.egress.overdue := rfl
@[simp] theorem State.send_egress_tokenSequence (s : State) (x : TxSource) (h : HeaderBytes) (p : List Byte) :
    (s.send x h p).egress.tokenSequence = s.egress.tokenSequence := rfl
@[simp] theorem State.send_egress_timing (s : State) (x : TxSource) (h : HeaderBytes) (p : List Byte) :
    (s.send x h p).egress.timing = s.egress.timing := rfl

/-! ### `State.loseLink` -/

@[simp] theorem State.loseLink_desc? (s : State) (y : DescId) :
    s.loseLink.desc? y = s.desc? y := by simp [State.desc?]
@[simp] theorem State.loseLink_chain (s : State) (g : Byte) :
    s.loseLink.chain g = s.chain g := by simp [State.chain]
@[simp] theorem State.loseLink_flowCounters (s : State) (g : Byte) :
    s.loseLink.flowCounters g = s.flowCounters g := by simp [State.flowCounters]
@[simp] theorem State.loseLink_engineRun (s : State) (y : EngineId) :
    s.loseLink.engineRun y = s.engineRun y := by simp [State.engineRun]

end Sys2Proof.Machine
end

