-- ==== Sys2Proof/Laws/Memory.lean ====
section
/-! SUPPORT. The laws of the cells' memory: a byte written is the byte read, every other byte is left alone,
and every operation keeps the canonical form. -/

namespace Sys2Proof.Machine

/-! ### Single bytes -/

/-- The canonical form, entry by entry. -/
theorem memoryWf_iff (m : Memory) :
    memoryWf m = true ↔
      m.Pairwise (fun x y => x.1 < y.1) ∧ ∀ c ∈ m, c.2 ≠ Config.blankByte := by
  simp [memoryWf]

theorem memoryWf_nil : memoryWf [] = true := by decide

/-- The canonical form of a list with a first entry. -/
theorem memoryWf_cons (c : Host.Cell) (m : Memory) :
    memoryWf (c :: m) = true ↔
      (∀ x ∈ m, c.1 < x.1) ∧ c.2 ≠ Config.blankByte ∧ memoryWf m = true := by
  simp only [memoryWf_iff, List.pairwise_cons, List.mem_cons, forall_eq_or_imp]
  tauto

/-- An address below every entry reads as the blank byte. -/
theorem readByte_of_lt (m : Memory) (a : Nat) (h : ∀ x ∈ m, a < x.1) :
    readByte m a = Config.blankByte := by
  induction m with
  | nil => rfl
  | cons c m ih =>
    have hc := h c (by simp)
    simp only [readByte]
    rw [if_neg (by omega)]
    exact ih fun x hx => h x (by simp [hx])

/-- A write leaves every other address as it reads, whatever the memory. -/
theorem readByte_writeByte_ne (m : Memory) (a a' : Nat) (b : Byte) (h : a' ≠ a) :
    readByte (writeByte m a b) a' = readByte m a' := by
  induction m with
  | nil =>
    simp only [writeByte]
    split
    · rfl
    · simp [readByte, h.symm]
  | cons c m ih =>
    simp only [writeByte]
    split
    · split
      · rfl
      · simp [readByte, h.symm]
    · split
      · rename_i _ hc
        split
        · simp [readByte, ← hc, h.symm]
        · simp [readByte, ← hc, h.symm]
      · simp [readByte, ih]

/-- Every entry of a written memory is the one written or an entry of the memory before. -/
theorem mem_writeByte (m : Memory) (a : Nat) (b : Byte) (x : Host.Cell)
    (h : x ∈ writeByte m a b) : x ∈ m ∨ x = (a, b) ∧ b ≠ Config.blankByte := by
  induction m with
  | nil =>
    simp only [writeByte] at h
    split at h
    · simp at h
    · right; simp_all
  | cons c m ih =>
    simp only [writeByte] at h
    split at h
    · split at h
      · exact .inl h
      · rcases List.mem_cons.1 h with h | h
        · right; simp_all
        · exact .inl h
    · split at h
      · split at h
        · exact .inl (List.mem_cons_of_mem _ h)
        · rcases List.mem_cons.1 h with h | h
          · right; simp_all
          · exact .inl (List.mem_cons_of_mem _ h)
      · rcases List.mem_cons.1 h with h | h
        · left; simp [h]
        · rcases ih h with h | h
          · left; simp [h]
          · exact .inr h

/-- A write keeps the canonical form. -/
theorem memoryWf_writeByte (m : Memory) (a : Nat) (b : Byte) (h : memoryWf m = true) :
    memoryWf (writeByte m a b) = true := by
  induction m with
  | nil =>
    simp only [writeByte]
    split
    · exact memoryWf_nil
    · simp [memoryWf_cons, *]
  | cons c m ih =>
    obtain ⟨h1, h2, h3⟩ := (memoryWf_cons c m).1 h
    simp only [writeByte]
    split
    · split
      · exact h
      · rename_i hlt hb
        refine (memoryWf_cons _ _).2 ⟨?_, hb, h⟩
        intro x hx
        rcases List.mem_cons.1 hx with rfl | hx
        · exact hlt
        · exact Nat.lt_trans hlt (h1 x hx)
    · split
      · rename_i _ heq
        split
        · exact h3
        · rename_i hb
          exact (memoryWf_cons _ _).2 ⟨fun x hx => heq ▸ h1 x hx, hb, h3⟩
      · refine (memoryWf_cons _ _).2 ⟨?_, h2, ih h3⟩
        intro x hx
        rcases mem_writeByte m a b x hx with hx | ⟨rfl, _⟩
        · exact h1 x hx
        · simp only; omega

/-- In a canonical memory a byte written is the byte read. -/
theorem readByte_writeByte_same (m : Memory) (a : Nat) (b : Byte) (h : memoryWf m = true) :
    readByte (writeByte m a b) a = b := by
  induction m with
  | nil =>
    simp only [writeByte]
    split
    · simp_all [readByte]
    · simp [readByte]
  | cons c m ih =>
    obtain ⟨h1, h2, h3⟩ := (memoryWf_cons c m).1 h
    simp only [writeByte]
    split
    · rename_i hlt
      split
      · rename_i hb
        rw [hb]
        refine readByte_of_lt _ _ fun x hx => ?_
        rcases List.mem_cons.1 hx with rfl | hx
        · exact hlt
        · exact Nat.lt_trans hlt (h1 x hx)
      · simp [readByte]
    · split
      · rename_i _ heq
        split
        · rename_i hb
          rw [hb]
          exact readByte_of_lt _ _ fun x hx => heq ▸ h1 x hx
        · simp [readByte]
      · rename_i hlt hne
        simp only [readByte]
        rw [if_neg (Ne.symm hne)]
        exact ih h3

/-! ### Frame bytes -/

theorem memoryWf_writeFrameByte (m : Memory) (cells : List CellId) (k : Nat) (b : Byte)
    (h : memoryWf m = true) : memoryWf (writeFrameByte m cells k b) = true := by
  unfold writeFrameByte
  split
  · exact memoryWf_writeByte _ _ _ h
  · exact h

theorem memoryWf_writeFrameBytes (bytes : List Byte) (m : Memory) (cells : List CellId) (k : Nat)
    (h : memoryWf m = true) : memoryWf (writeFrameBytes m cells k bytes) = true := by
  induction bytes generalizing m k with
  | nil => exact h
  | cons b rest ih => exact ih _ _ (memoryWf_writeFrameByte m cells k b h)

/-- A frame byte written leaves every address but its own as it reads. -/
theorem readByte_writeFrameByte_ne (m : Memory) (cells : List CellId) (k a : Nat) (b : Byte)
    (h : frameAddress cells k ≠ some a) :
    readByte (writeFrameByte m cells k b) a = readByte m a := by
  unfold writeFrameByte
  split
  · rename_i x hx
    exact readByte_writeByte_ne _ _ _ _ fun e => h (e ▸ hx)
  · rfl

/-- Frame bytes written leave every address but theirs as it reads. -/
theorem readByte_writeFrameBytes_ne (bytes : List Byte) (m : Memory) (cells : List CellId) (k a : Nat)
    (h : ∀ j, k ≤ j → j < k + bytes.length → frameAddress cells j ≠ some a) :
    readByte (writeFrameBytes m cells k bytes) a = readByte m a := by
  induction bytes generalizing m k with
  | nil => rfl
  | cons b rest ih =>
    simp only [writeFrameBytes]
    rw [ih _ _ fun j h1 h2 => h j (by omega) (by simp only [List.length_cons]; omega),
      readByte_writeFrameByte_ne _ _ _ _ _ (h k (Nat.le_refl k) (by simp))]

/-- Two frame bytes of a cell list without repeats have one address only if they are one byte (R20). -/
theorem frameAddress_inj (cells : List CellId) (h : cells.Nodup) (j k a : Nat)
    (hj : frameAddress cells j = some a) (hk : frameAddress cells k = some a) : j = k := by
  simp only [frameAddress, Option.map_eq_some_iff, Config.cellBytes] at hj hk
  obtain ⟨c, hc, hca⟩ := hj
  obtain ⟨e, he, hea⟩ := hk
  have hce : c.val = e.val := by omega
  obtain ⟨h1, h1'⟩ := List.getElem?_eq_some_iff.1 hc
  obtain ⟨h2, h2'⟩ := List.getElem?_eq_some_iff.1 he
  have : j / 64 = k / 64 := by
    refine (List.Nodup.getElem_inj_iff h (hi := h1) (hj := h2)).1 ?_
    rw [h1', h2']
    exact Fin.ext hce
  omega

/-- A frame byte lies in the frame's cells exactly if the cells reach to it. -/
theorem frameAddress_isSome (cells : List CellId) (k : Nat) :
    (frameAddress cells k).isSome = true ↔ k < 64 * cells.length := by
  simp only [frameAddress, Option.isSome_map, Config.cellBytes]
  rw [← Option.ne_none_iff_isSome, ne_eq, List.getElem?_eq_none_iff]
  omega

/-- In a canonical memory, with a cell list without repeats that reaches to them, frame bytes written are the
frame bytes read. -/
theorem readFrameByte_writeFrameBytes (bytes : List Byte) (m : Memory) (cells : List CellId)
    (k i : Nat) (hm : memoryWf m = true) (hc : cells.Nodup) (hi : i < bytes.length)
    (hk : k + i < 64 * cells.length) :
    readFrameByte (writeFrameBytes m cells k bytes) cells (k + i) = bytes[i] := by
  induction bytes generalizing m k i with
  | nil => simp at hi
  | cons b rest ih =>
    simp only [writeFrameBytes]
    cases i with
    | zero =>
      obtain ⟨a, ha⟩ := Option.isSome_iff_exists.1 ((frameAddress_isSome cells k).2 (by omega))
      have hr : ∀ m', readFrameByte m' cells k = readByte m' a := by
        intro m'; simp [readFrameByte, ha]
      simp only [Nat.add_zero, List.getElem_cons_zero]
      rw [hr, readByte_writeFrameBytes_ne]
      · simp only [writeFrameByte, ha]
        exact readByte_writeByte_same m a b hm
      · intro j h1 _ h3
        have := frameAddress_inj cells hc j k a h3 ha
        omega
    | succ n =>
      have h := ih (writeFrameByte m cells k b) (k + 1) n (memoryWf_writeFrameByte m cells k b hm)
        (by simpa using hi) (by omega)
      simpa [Nat.add_assoc, Nat.add_comm 1 n] using h

/-! ### The part -/

/-- The memory after power-on is canonical. -/
theorem memoryWf_reset : memoryWf State.reset.store.memory = true := memoryWf_nil

theorem memoryWf_storePayload (s : State) (fr : Descriptor) (p : List Byte)
    (h : memoryWf s.store.memory = true) : memoryWf (s.storePayload fr p).store.memory = true :=
  memoryWf_writeFrameBytes p _ _ _ h

theorem memoryWf_storeArrived (s : State) (p : List Byte) (h : memoryWf s.store.memory = true) :
    memoryWf (s.storeArrived p).store.memory = true := by
  unfold State.storeArrived
  split
  · exact h
  · exact h
  · exact h
  · split
    · exact h
    · exact memoryWf_storePayload s _ _ h

theorem memoryWf_granted (st : FrameStore) (d : DescId) (role : Role) (h : HeaderBytes)
    (hm : memoryWf st.memory = true) : memoryWf (st.granted d role h).memory = true :=
  memoryWf_writeFrameBytes _ _ _ _ hm

theorem memoryWf_applyList (entries : List ErrorEntry) (m : Memory) (cells : List CellId)
    (h : memoryWf m = true) : memoryWf (applyList m cells entries) = true := by
  induction entries generalizing m with
  | nil => exact h
  | cons e rest ih => exact ih _ (memoryWf_writeFrameByte _ _ _ _ h)

end Sys2Proof.Machine
end

