-- ==== Sys2Proof/Laws/Ops.lean ====
section
/-! SUPPORT. One lemma for each shared operation that says once everything it does, for the proofs to cite
in place of its definition. -/

namespace Sys2Proof.Machine

/-! ### Outcomes -/

/-- An event that ends here answers a next state, the settled one. -/
@[simp] theorem State.done_eq (s t : State) : s.done = .next t ↔ t = s.settle := by
  simp [State.done, eq_comm]

/-! ### Raises -/

/-- What a raise does depends on the event unit alone. -/
theorem State.raise_events_congr (s t : State) (c : EventClass) (h : t.events = s.events) :
    (t.raise c).events = (s.raise c).events := by
  have hk : t.classState c = s.classState c := by simp [State.classState, h]
  simp only [State.raise, hk]
  split <;>
    simp [State.issueNotice, State.putEntry, State.putClass, State.classState, h]

/-- A raise, in full (R154, R157, R158). -/
theorem State.raise_raisedOnce (s : State) (c : EventClass) : s.RaisedOnce (s.raise c) c := by
  have hseq : ∀ k, (s.putClass c k).events.noticeSequence = s.events.noticeSequence := fun _ => rfl
  have hage : ∀ k, (s.putClass c k).events.nextAge = s.events.nextAge := fun _ => rfl
  have iseq : ∀ u : State, (u.issueNotice c).events.noticeSequence = u.events.noticeSequence + 1 :=
    fun _ => rfl
  have iage : ∀ u : State, (u.issueNotice c).events.nextAge = u.events.nextAge + 1 := fun _ => rfl
  by_cases hb : ((s.classState c).enabled && (s.classState c).entry.takesNotice) = true
  · constructor <;> simp [State.raise, hb, hseq, hage, iseq, iage, Config.rawLimit]
    · simp_all
    · intro e he; simp [he]
  · constructor <;> simp [State.raise, hb, hseq, hage, Config.rawLimit]
    · simp_all
    · intro e he; simp [he]

/-- A raise within a larger event: what the event unit holds afterwards decides. -/
theorem State.RaisedOnce.of_events (s t u : State) (c : EventClass) (hu : u.events = s.events)
    (ht : t.events = (u.raise c).events) : s.RaisedOnce t c := by
  have h := s.raise_raisedOnce c
  have he : t.events = (s.raise c).events := ht.trans (State.raise_events_congr s u c hu)
  have hk : ∀ e, t.classState e = (s.raise c).classState e := fun e => by
    simp [State.classState, he]
  exact ⟨by rw [hk]; exact h.raw, by rw [hk]; exact h.enabled,
    fun a b => by rw [hk, he]; exact h.issued a b, fun a => by rw [hk, he]; exact h.kept a,
    fun e hne => by rw [hk]; exact h.others e hne⟩

/-! ### Counting -/

/-- A count against one flow, in full. -/
theorem State.countFlow_counted (s : State) (f : Byte) (c : FlowCounter) (n : Nat) :
    s.FlowCounted (s.countFlow f c n) f (fun k => k.count c n) := by
  intro g
  by_cases h : g = f <;> simp [h]

/-! ### Release -/

/-- The release of a descriptor that is not FREE, in full (R31). -/
theorem State.releaseDropped_freed (s : State) (d : DescId) (fr : Descriptor)
    (h : s.desc? d = some fr) :
    s.Freed (s.releaseDropped d) d fr ∧ s.OtherDescs (s.releaseDropped d) d ∧
      s.FlowCounted (s.releaseDropped d) fr.flow (fr.countIf .dropped) := by
  have hs : (s.releaseDropped d).store = s.store.released d fr := by
    simp only [State.releaseDropped, h]; split <;> rfl
  refine ⟨⟨by simp, by rw [hs]; rfl, by rw [hs]; rfl, by rw [hs]; rfl⟩, fun e he => by simp [he], ?_⟩
  intro g
  simp only [State.releaseDropped, h, Descriptor.countIf]
  have hc : ∀ u : State, ({ u with store := s.store.released d fr } : State).flowCounters g =
      u.flowCounters g := fun _ => rfl
  split
  · rename_i hd
    have := s.countFlow_flowCounters fr.flow g .dropped 1
    by_cases hg : g = fr.flow <;> simp_all [State.flowCounters]
  · simp [State.flowCounters]

/-- The release of a descriptor at its transmission completion, in full (R31, R106). -/
theorem State.releaseSent_freed (s : State) (d : DescId) (fr : Descriptor)
    (h : s.desc? d = some fr) :
    s.Freed (s.releaseSent d) d fr ∧ s.OtherDescs (s.releaseSent d) d ∧
      s.FlowCounted (s.releaseSent d) fr.flow (fr.countIf .sent) := by
  have hs : (s.releaseSent d).store = s.store.released d fr := by
    simp only [State.releaseSent, h]; split <;> rfl
  refine ⟨⟨by simp, by rw [hs]; rfl, by rw [hs]; rfl, by rw [hs]; rfl⟩, fun e he => by simp [he], ?_⟩
  intro g
  simp only [State.releaseSent, h, Descriptor.countIf]
  split
  · rename_i hd
    have := s.countFlow_flowCounters fr.flow g .sent 1
    by_cases hg : g = fr.flow <;> simp_all [State.flowCounters]
  · simp [State.flowCounters]

/-! ### The receive slot's payload (R20) -/

/-- A payload stored, in full. -/
theorem State.storePayload_stored (s : State) (fr : Descriptor) (p : List Byte) :
    s.PayloadStored (s.storePayload fr p) fr p := by
  refine ⟨fun a h => readByte_writeFrameBytes_ne p _ _ _ _ h, fun hm hc hl => ?_⟩
  refine List.ext_getElem (by simp [readPayload]) fun i h1 h2 => ?_
  simp only [readPayload, List.getElem_map, List.getElem_range]
  exact readFrameByte_writeFrameBytes p _ _ _ _ hm hc h2 (by simp only [Config.headerBytes]; omega)

/-- The payload bytes that had arrived of the frame in the receive slot, stored, in full. -/
theorem State.storeArrived_stored (s : State) (p : List Byte) (d : DescId) (fr : Descriptor)
    (hr : s.receiver.reception = .receiving d) (hd : s.desc? d = some fr) :
    s.ArrivedStored (s.storeArrived p) fr p := by
  have h : s.storeArrived p = s.storePayload fr (p.take (headerLength fr.header)) := by
    simp [State.storeArrived, hr, hd]
  rw [h]
  exact s.storePayload_stored fr _

/-- Without a frame in the receive slot nothing is stored. -/
theorem State.storeArrived_of_none (s : State) (p : List Byte)
    (h : ∀ d, s.receiver.reception ≠ .receiving d) : s.storeArrived p = s := by
  unfold State.storeArrived
  split <;> first | rfl | exact absurd ‹_› (h _)

/-! ### The turn of the engine freed first (R79) -/

/-- The engines on a descriptor are those whose run is on it, engine 0 first. -/
theorem Locator.mem_enginesOn (s : State) (d : DescId) (e : EngineId) :
    e ∈ s.locator.enginesOn d ↔ s.engineDesc e = some d := by
  cases e <;>
    by_cases h0 : s.locator.engine0.map Run.desc = some d <;>
    by_cases h1 : s.locator.engine1.map Run.desc = some d <;>
    simp [Locator.enginesOn, State.engineDesc, State.engineRun, h0, h1]

/-! ### The hold-wait timer (R108, R117) -/

/-- A non-token candidate waits, in the rule's terms. -/
theorem State.nonTokenWaits_iff (s : State) : s.nonTokenWaits = true ↔ s.NonTokenWaits := by
  have hr : s.responseWaits = true ↔
      if s.sending = some .response then 2 ≤ s.management.responses.length
      else 1 ≤ s.management.responses.length := by
    unfold State.responseWaits; split <;> simp
  have hc : ∀ c, s.noticeOfClassWaits c = true ↔
      ∃ q n r a, (s.classState c).entry = .pendingSend q n r a ∧ s.sending ≠ some (.notice c q) := by
    intro c
    unfold State.noticeOfClassWaits
    cases (s.classState c).entry <;> simp
  have hn : s.noticeWaits = true ↔ ∃ c, s.noticeOfClassWaits c = true := by
    simp only [State.noticeWaits, List.any_eq_true]
    exact ⟨fun ⟨c, _, h⟩ => ⟨c, h⟩, fun ⟨c, h⟩ => ⟨c, by cases c <;> simp [allClasses], h⟩⟩
  simp only [State.nonTokenWaits, State.NonTokenWaits, Bool.or_eq_true, hr, hn, hc, or_assoc]
  simp

/-- The conditions of the timer, in the rule's terms. -/
theorem State.holdWaitInv_iff (s : State) :
    s.HoldWaitInv ↔ s.egress.holdWait.isSome = s.holdWaitRuns := by
  rw [Bool.eq_iff_iff]
  simp only [State.HoldWaitInv, State.holdWaitRuns, Bool.and_eq_true, s.nonTokenWaits_iff,
    Bool.not_eq_true', and_assoc]

end Sys2Proof.Machine
end

