-- ==== Sys2Proof/Laws/Consistent.lean ====
section
/-! SUPPORT. A check of `State.Inv` that evaluates: each condition as a Bool, and that the checks imply
it. A witness on a concrete state is one evaluation. -/

namespace Sys2Proof.Machine

/-! ### Descriptors one by one -/

/-- Every descriptor that is not FREE passes the test. -/
def State.eachDesc (s : State) (p : DescId → Descriptor → Bool) : Bool :=
  (List.finRange 40).all fun d =>
    match s.desc? d with
    | none => true
    | some fr => p d fr

theorem State.eachDesc_spec {s : State} {p : DescId → Descriptor → Bool} (h : s.eachDesc p = true)
    {d : DescId} {fr : Descriptor} (hd : s.desc? d = some fr) : p d fr = true := by
  have := List.all_eq_true.mp h d (List.mem_finRange d)
  simpa [hd] using this

/-- The descriptor stands in the place given. -/
def State.inPlaceCheck (s : State) (d : DescId) (p : Place) : Bool :=
  match s.desc? d with
  | none => false
  | some fr => decide (fr.place = p)

theorem State.inPlace_iff (s : State) (d : DescId) (p : Place) :
    s.InPlace d p ↔ s.inPlaceCheck d p = true := by
  unfold State.InPlace State.inPlaceCheck
  cases s.desc? d <;> simp

/-- A list of descriptors is exactly the set in a place. -/
def State.listInPlace (s : State) (l : List DescId) (p : Place) : Bool :=
  (List.finRange 40).all fun d => decide (d ∈ l) == s.inPlaceCheck d p

theorem State.listInPlace_spec {s : State} {l : List DescId} {p : Place} (h : s.listInPlace l p = true)
    (d : DescId) : d ∈ l ↔ s.InPlace d p := by
  have := List.all_eq_true.mp h d (List.mem_finRange d)
  rw [State.inPlace_iff, ← eq_of_beq this, decide_eq_true_iff]

/-! ### Flows one by one -/

/-- Every item of a table indexed by flow passes the test. -/
def eachFlow {α : Type} (v : Vector α 256) (p : Nat → α → Bool) : Bool :=
  v.toList.zipIdx.all fun x => p x.2 x.1

theorem eachFlow_spec {α : Type} {v : Vector α 256} {p : Nat → α → Bool} (h : eachFlow v p = true)
    (f : Byte) : p f.toNat (atFlow v f) = true := by
  refine List.all_eq_true.mp h (atFlow v f, f.toNat) ?_
  have hf : f.toNat < v.toList.length := by simp [f.isLt]
  rw [List.mem_zipIdx_iff_getElem?]
  simp [atFlow]

/-! ### The blocks -/

/-- The frame store. -/
def State.storeCheck (s : State) : Bool :=
  decide ((s.store.freeCells ++ s.heldCells).Perm (List.finRange 128)) &&
  decide s.store.freeDescs.Nodup &&
  ((List.finRange 40).all fun d => decide (d ∈ s.store.freeDescs) == (s.desc? d).isNone) &&
  (s.eachDesc fun _ fr =>
    decide (fr.storedLength ≤ 255) && decide (fr.cells.length = cellsNeeded fr.storedLength)) &&
  (if s.store.holdOut then
    !(decide (24 ≤ s.store.freeCells.length) && decide (8 ≤ s.store.freeDescs.length))
  else decide (16 ≤ s.store.freeCells.length) && decide (4 ≤ s.store.freeDescs.length))

theorem State.storeCheck_spec {s : State} (h : s.storeCheck = true) : s.StoreInv := by
  simp only [State.storeCheck, Bool.and_eq_true, decide_eq_true_eq] at h
  obtain ⟨⟨⟨⟨h1, h2⟩, h3⟩, h4⟩, h5⟩ := h
  refine ⟨h1, ⟨h2, fun d => ?_⟩, fun d fr hd => ?_, ?_⟩
  · have := eq_of_beq (List.all_eq_true.mp h3 d (List.mem_finRange d))
    rw [← Option.isNone_iff_eq_none, ← this, decide_eq_true_iff]
  · have := State.eachDesc_spec h4 hd
    simpa [Descriptor.CellsFit] using this
  · unfold FrameStore.HoldOutAgrees
    cases hh : s.store.holdOut
    · simpa [hh] using h5
    · simp only [hh, if_true, Bool.not_eq_true', Bool.and_eq_false_iff, decide_eq_false_iff_not] at h5
      simp only [if_true]
      tauto

/-- The flow table and the snapshots. -/
def State.tableCheck (s : State) : Bool :=
  eachFlow s.table.bankA (fun _ e => e.valid) && eachFlow s.table.bankB (fun _ e => e.valid) &&
  s.eachDesc fun _ fr => fr.entry.valid

theorem State.tableCheck_spec {s : State} (h : s.tableCheck = true) : s.TableInv := by
  simp only [State.tableCheck, Bool.and_eq_true] at h
  exact ⟨fun f => eachFlow_spec h.1.1 f, fun f => eachFlow_spec h.1.2 f,
    fun _ _ hd => State.eachDesc_spec h.2 hd⟩

/-- The descriptor in the receive slot. -/
def State.slotDesc (s : State) : Option DescId :=
  match s.receiver.reception with
  | .receiving d => some d
  | .between => none
  | .beforeHeader => none
  | .skipping => none

theorem State.slotDesc_iff (s : State) (d : DescId) :
    s.slotDesc = some d ↔ s.receiver.reception = .receiving d := by
  unfold State.slotDesc
  cases s.receiver.reception <;> simp

/-- The receiver and the code unit. -/
def State.receiverCheck (s : State) : Bool :=
  (decide (s.receiver.link ≠ .linkDown) || decide (s.receiver.reception = .between)) &&
  (s.receiver.currentHeader.isSome == s.slotDesc.isSome) &&
  (decide (s.codeUnit ≠ .idle) == s.slotDesc.isSome) &&
  match s.slotDesc with
  | none => true
  | some d =>
    match s.desc? d with
    | none => true
    | some fr => decide (s.receiver.currentHeader = some fr.header) &&
        decide (s.codeUnit = codeUnitFor fr.role fr.header)

theorem State.receiverCheck_spec {s : State} (h : s.receiverCheck = true) :
    s.ReceiverInv ∧ s.SlotInv := by
  simp only [State.receiverCheck, Bool.and_eq_true, Bool.or_eq_true, decide_eq_true_eq, beq_iff_eq] at h
  obtain ⟨⟨⟨h1, h2⟩, h3⟩, h4⟩ := h
  have hs : s.slotDesc.isSome = true ↔ ∃ d, s.receiver.reception = .receiving d := by
    rw [Option.isSome_iff_exists]
    exact exists_congr fun d => s.slotDesc_iff d
  refine ⟨⟨fun hl => ?_, by rw [h2, hs], ?_⟩, fun d fr hr hd => ?_⟩
  · rcases h1 with h1 | h1
    · exact absurd hl h1
    · exact h1
  · rw [← hs, ← h3, decide_eq_true_iff]
  · rw [(s.slotDesc_iff d).mpr hr] at h4
    simpa [hd] using h4

/-- The places. -/
def State.placeCheck (s : State) : Bool :=
  s.listInPlace s.slotDesc.toList .receiving && s.listInPlace s.locator.queue .queued &&
  decide s.locator.queue.Nodup &&
  s.listInPlace ((s.engineDesc .engine0).toList ++ (s.engineDesc .engine1).toList) .locating &&
  ((List.finRange 40).all fun d =>
    !(decide (s.engineDesc .engine0 = some d) && decide (s.engineDesc .engine1 = some d))) &&
  s.listInPlace s.egress.forwardQueue .forward && decide s.egress.forwardQueue.Nodup &&
  s.listInPlace s.sendingDesc .sending

theorem State.placeCheck_spec {s : State} (h : s.placeCheck = true) : s.PlaceInv := by
  simp only [State.placeCheck, Bool.and_eq_true, decide_eq_true_eq] at h
  obtain ⟨⟨⟨⟨⟨⟨⟨h1, h2⟩, h3⟩, h4⟩, h5⟩, h6⟩, h7⟩, h8⟩ := h
  refine ⟨fun d => ?_, fun d => State.listInPlace_spec h2 d, h3, fun d => ?_, fun d => ?_,
    fun d => State.listInPlace_spec h6 d, h7, fun d => ?_⟩
  · rw [← State.listInPlace_spec h1 d, Option.mem_toList, State.slotDesc_iff]
  · rw [← State.listInPlace_spec h4 d]
    simp only [List.mem_append, Option.mem_toList]
    constructor
    · rintro ⟨e, he⟩
      cases e
      · exact .inl he
      · exact .inr he
    · rintro (he | he)
      · exact ⟨_, he⟩
      · exact ⟨_, he⟩
  · have := List.all_eq_true.mp h5 d (List.mem_finRange d)
    simp only [Bool.not_eq_true', Bool.and_eq_false_iff, decide_eq_false_iff_not] at this
    tauto
  · rw [← State.listInPlace_spec h8 d]
    unfold State.sendingDesc
    cases hs : s.sending with
    | none => simp
    | some x => cases x <;> simp [eq_comm]

/-- The runs. -/
def State.runCheck (s : State) : Bool :=
  ([EngineId.engine0, .engine1].all fun e =>
    match s.engineRun e with
    | none => true
    | some r =>
      match s.desc? r.desc with
      | none => true
      | some fr =>
        decide (fr.syndromes = some r.syndromes ∧ r.strength = fr.entry.strength ∧
          r.length = headerLength fr.header)) &&
  s.eachDesc fun _ fr =>
    !(decide (fr.place = .queued) || decide (fr.place = .locating)) || fr.syndromes.isSome

theorem State.runCheck_spec {s : State} (h : s.runCheck = true) : s.RunInv := by
  obtain ⟨h1, h2⟩ := Bool.and_eq_true_iff.1 h
  refine ⟨fun e r fr he hd => ?_, fun d fr hd hp => ?_⟩
  · have := List.all_eq_true.mp h1 e (by cases e <;> simp)
    simpa [he, hd] using this
  · have := State.eachDesc_spec h2 hd
    rcases hp with hp | hp <;> simpa [hp] using this

/-- The turn of the engine freed first. -/
def State.turnCheck (s : State) : Bool :=
  decide (s.locator.firstFreed = none) || (decide (s.locator.queue ≠ []) &&
    decide (s.locator.engine0 = none) && decide (s.locator.engine1 = none))

theorem State.turnCheck_spec {s : State} (h : s.turnCheck = true) : s.TurnInv := by
  intro hf
  simpa [State.turnCheck, hf, and_assoc] using h

/-- The chains, the queue's order and the stamps. -/
def State.chainCheck (s : State) : Bool :=
  eachFlow s.order.chains (fun n l =>
    decide (l.length ≤ 16) &&
    (l.all fun d =>
      match s.desc? d with
      | none => false
      | some fr => fr.isOrdered && fr.waits && decide (fr.flow.toNat = n)) &&
    decide (l.Pairwise fun a b => s.stampOf a < s.stampOf b) &&
    match l with
    | [] => true
    | d :: _ => s.inPlaceCheck d .queued || s.inPlaceCheck d .locating) &&
  (s.eachDesc fun d fr => !(fr.isOrdered && fr.waits) || decide (d ∈ s.chain fr.flow)) &&
  decide (s.locator.queue.Pairwise fun a b => s.stampOf a < s.stampOf b) &&
  (s.eachDesc fun _ fr =>
    (fr.stamp.isNone == decide (fr.place = .receiving)) &&
    (match fr.stamp with
      | none => true
      | some n => decide (n < s.order.nextStamp)) &&
    (decide (fr.place ≠ .held) || fr.isOrdered) && (!fr.waits || fr.isData))

theorem State.chainCheck_spec {s : State} (h : s.chainCheck = true) : s.ChainInv := by
  simp only [State.chainCheck, Bool.and_eq_true, decide_eq_true_eq] at h
  obtain ⟨⟨⟨h1, h2⟩, h3⟩, h4⟩ := h
  have hf := fun f => eachFlow_spec h1 f
  simp only [Bool.and_eq_true, decide_eq_true_eq] at hf
  refine ⟨fun f => (hf f).1.1.1, fun f d => ⟨fun hm => ?_, ?_⟩, fun f => (hf f).1.2, fun f d hh => ?_, h3,
    fun d fr hd => ⟨?_, fun n hn => ?_⟩, fun d fr hd hp => ?_, fun d fr hd hw => ?_⟩
  · have := List.all_eq_true.mp (hf f).1.1.2 d hm
    cases hd : s.desc? d with
    | none => simp [hd] at this
    | some fr =>
      simp only [hd, Bool.and_eq_true, decide_eq_true_eq] at this
      exact ⟨fr, rfl, this.1.1, this.1.2, BitVec.eq_of_toNat_eq this.2⟩
  · rintro ⟨fr, hd, ho, hw, rfl⟩
    have := State.eachDesc_spec h2 hd
    simpa [ho, hw] using this
  · have := (hf f).2
    unfold State.chain at hh
    cases hc : atFlow s.order.chains f with
    | nil => simp [hc] at hh
    | cons x rest =>
      rw [hc] at this hh
      cases hh
      simpa [State.inPlace_iff] using this
  · have := State.eachDesc_spec h4 hd
    simp only [Bool.and_eq_true, beq_iff_eq] at this
    rw [← Option.isNone_iff_eq_none, this.1.1.1, decide_eq_true_iff]
  · have := State.eachDesc_spec h4 hd
    simp only [Bool.and_eq_true, hn, decide_eq_true_eq] at this
    exact this.1.1.2
  · have := State.eachDesc_spec h4 hd
    simp only [Bool.and_eq_true, Bool.or_eq_true, decide_eq_true_eq] at this
    exact this.1.2.resolve_left (by simp [hp])
  · have := State.eachDesc_spec h4 hd
    simp only [Bool.and_eq_true, Bool.or_eq_true, Bool.not_eq_true'] at this
    exact this.2.resolve_left (by simp [hw])

/-- The stored frames and their deadlines. -/
def State.frameCheck (s : State) : Bool :=
  s.eachDesc fun _ fr =>
    decide (fr.storedLength = storedLengthOf fr.role fr.header) && decide (fr.entry.action ≠ .discard) &&
    (fr.deadline.isSome == fr.waits)

theorem State.frameCheck_spec {s : State} (h : s.frameCheck = true) : s.FrameInv ∧ s.DeadlineInv := by
  refine ⟨⟨fun d fr hd => ?_, fun d fr hd => ?_⟩, fun d fr hd => ?_⟩ <;>
    · have := State.eachDesc_spec h hd
      simp only [Bool.and_eq_true, decide_eq_true_eq, beq_iff_eq] at this
      simp [this]

/-- The scheduler and the transmitter. -/
def State.egressCheck (s : State) : Bool :=
  decide (s.egress.debt ≤ 8) && (!s.egress.overdue || decide (2 ≤ s.egress.debt)) &&
  s.egress.timing.valid && (s.egress.holdWait.isSome == s.holdWaitRuns) &&
  (decide (s.sending ≠ some .token) || decide (1 ≤ s.egress.debt)) &&
  (decide (s.sending ≠ some .response) || decide (s.management.responses ≠ []))

theorem State.egressCheck_spec {s : State} (h : s.egressCheck = true) :
    s.CadenceInv ∧ s.HoldWaitInv ∧ s.TransmitterInv := by
  simp only [State.egressCheck, Bool.and_eq_true, Bool.or_eq_true, decide_eq_true_eq, beq_iff_eq] at h
  obtain ⟨⟨⟨⟨⟨h1, h2⟩, h3⟩, h4⟩, h5⟩, h6⟩ := h
  exact ⟨⟨h1, fun ho => h2.resolve_left (by simp [ho]), h3⟩, s.holdWaitInv_iff.2 h4,
    ⟨fun ht => h5.resolve_left (by simp [ht]), fun ht => h6.resolve_left (by simp [ht])⟩⟩

/-- The management unit. -/
def State.managementCheck (s : State) : Bool :=
  decide (s.management.responses.length ≤ 4) &&
  (match s.management.claim with
    | none => true
    | some c => isNodeAddress c.holder) &&
  match s.management.pendingReset with
  | none => true
  | some p => !p.isDue

theorem State.managementCheck_spec {s : State} (h : s.managementCheck = true) : s.ManagementInv := by
  simp only [State.managementCheck, Bool.and_eq_true, decide_eq_true_eq] at h
  refine ⟨h.1.1, fun c hc => ?_, fun p hp => ?_⟩
  · simpa [hc] using h.1.2
  · simpa [hp] using h.2

/-- The event unit and the counters. -/
def State.countsCheck (s : State) : Bool :=
  (allClasses.all fun c =>
    let k := s.classState c
    decide (k.raw ≤ 65535) && (decide (k.entry = .idle) || (k.enabled && decide (0 < k.raw))) &&
    decide (k.entry.sentOrZero ≤ k.raw)) &&
  eachFlow s.counters.flows (fun _ k => k.values.all fun n => decide (n ≤ 4294967295)) &&
  s.counters.globals.values.all fun n => decide (n ≤ 4294967295)

theorem State.countsCheck_spec {s : State} (h : s.countsCheck = true) : s.EventInv ∧ s.CounterInv := by
  simp only [State.countsCheck, Bool.and_eq_true] at h
  refine ⟨fun c => ?_, fun f n hn => ?_, fun n hn => ?_⟩
  · have := List.all_eq_true.mp h.1.1 c (by cases c <;> simp [allClasses])
    simp only [Bool.and_eq_true, Bool.or_eq_true, decide_eq_true_eq] at this
    exact ⟨this.1.1, fun hne => this.1.2.resolve_left hne, this.2⟩
  · exact of_decide_eq_true (List.all_eq_true.mp (eachFlow_spec h.1.2 f) n hn)
  · exact of_decide_eq_true (List.all_eq_true.mp h.2 n hn)

/-- Every block's check. -/
def State.check (s : State) : Bool :=
  s.storeCheck && memoryWf s.store.memory && s.tableCheck && s.receiverCheck && s.placeCheck &&
  s.runCheck && s.turnCheck && s.chainCheck && s.frameCheck && s.egressCheck && s.managementCheck && s.countsCheck

/-- A state that passes the check is consistent. -/
theorem State.inv_of_check {s : State} (h : s.check = true) : s.Inv := by
  simp only [State.check, Bool.and_eq_true] at h
  obtain ⟨⟨⟨⟨⟨⟨⟨⟨⟨⟨⟨h1, h2⟩, h3⟩, h4⟩, h5⟩, h6⟩, ht⟩, h7⟩, h8⟩, h9⟩, h10⟩, h11⟩ := h
  exact
    { store := storeCheck_spec h1
      memory := h2
      table := tableCheck_spec h3
      receiver := (receiverCheck_spec h4).1
      slot := (receiverCheck_spec h4).2
      frames := (frameCheck_spec h8).1
      places := placeCheck_spec h5
      runs := runCheck_spec h6
      turn := turnCheck_spec ht
      chains := chainCheck_spec h7
      deadlines := (frameCheck_spec h8).2
      cadence := (egressCheck_spec h9).1
      holdWait := (egressCheck_spec h9).2.1
      transmitter := (egressCheck_spec h9).2.2
      management := managementCheck_spec h10
      events := (countsCheck_spec h11).1
      counters := (countsCheck_spec h11).2 }

/-! ### The syndromes and the order on the line -/

/-- The condition of `State.SyndromeInv`. -/
def State.syndromeCheck (s : State) : Bool :=
  s.eachDesc fun _ fr =>
    !(decide (fr.place = .queued) || decide (fr.place = .locating)) ||
      decide (fr.syndromes = some (syndromesOf fr.entry.strength.t
          (readPayload s.store.memory fr.cells (headerLength fr.header))) ∧
        (fr.entry.action = .correct ∨ fr.entry.action = .strip) ∧ codeFault fr.entry fr.header = false)

theorem State.syndromeInv_of_check {s : State} (h : s.syndromeCheck = true) : s.SyndromeInv := by
  intro d fr hd hp
  have := State.eachDesc_spec h hd
  rcases hp with hp | hp <;> simpa [hp] using this

/-- With nothing in the forward queue and no frame of it being sent, the chains are all that has still to
leave. -/
theorem State.orderInv_of_chains {s : State} (h : s.Inv) (hq : s.sendingDesc ++ s.egress.forwardQueue = []) :
    s.OrderInv := by
  intro f
  simpa [State.leaving, State.orderedOf, hq] using h.chains.inOrder f

end Sys2Proof.Machine
end

