-- ==== Sys2Proof/Tests/Slice0.lean ====
section
/-! SUPPORT. Tests on small states built by the helpers below: the smoke test of `WellFormed`, one or two
steps per command with the values the spec gives, and the states that meet the hypotheses of each
statement. -/

set_option maxRecDepth 100000

namespace Sys2Proof.Tests

open Sys2Proof Sys2Proof.Machine

/-! ### Well-formed terms -/

/-- A payload of 256 bytes, one more than a header can name. -/
def longPayload : List Byte := List.replicate 256 0

theorem test_wellFormed_loss : (Instr.loss longPayload).wellFormed = false := by decide
theorem test_wellFormed_startDelimiter :
    (Instr.startDelimiter longPayload).wellFormed = false := by decide
theorem test_wellFormed_transmissionCompletion :
    (Instr.transmissionCompletion longPayload).wellFormed = false := by decide
theorem test_wellFormed_abort : (Instr.abort .idleSymbol longPayload).wellFormed = false := by decide
theorem test_wellFormed_frameEnd : (Instr.frameEnd longPayload).wellFormed = false := by decide
theorem test_wellFormed_frameEnd_longest :
    (Instr.frameEnd (List.replicate 255 0)).wellFormed = true := by decide
theorem test_wellFormed_cutShort : (Instr.frameCutShort .dataByte).wellFormed = false := by decide
theorem test_wellFormed_skipEnd : (Instr.skipEnd .dataByte).wellFormed = false := by decide
theorem test_wellFormed_unknownKind : (Instr.unknownKind 0x0F#8 [0]).wellFormed = false := by decide
theorem test_wellFormed_bodies :
    ∀ i ∈ ([.probe, .unknownKind 0, .claim, .release, .readEntry, .writeEntry, .commit, .readFrames,
      .readCounters, .readGlobals, .clearCounters, .readStatus, .setTiming, .setEvents, .ackNotice,
      .resetPart] : List (List Byte → Instr)), (i (List.replicate 253 0)).wellFormed = false := by decide
theorem test_no_word_spells_a_command : decodeTableWord 8 0 = none := by decide

/-! ### The code and the checks, from chapters 04 and 11 -/

/-- The payload 05h encoded under t = 1 gets the check bytes 0Fh 0Ah (the worked example of chapter 04). -/
theorem test_checkBytes_example : checkBytesOf 1 [0x05#8] = [0x0F#8, 0x0A#8] := by decide
/-- CRC of the digits 1 to 9, the published value of the polynomial and start value of R178. -/
theorem test_payloadCrc_digits :
    payloadCrc [0x31#8, 0x32#8, 0x33#8, 0x34#8, 0x35#8, 0x36#8, 0x37#8, 0x38#8, 0x39#8] = 0x29B1#16 := by
  decide
/-- The header check's polynomial and start value over the digits 1 to 9, divided out by hand. -/
theorem test_headerCrc_digits :
    headerCrc [0x31#8, 0x32#8, 0x33#8, 0x34#8, 0x35#8, 0x36#8, 0x37#8, 0x38#8, 0x39#8] = 0xFB#8 := by decide
/-- The worked example of chapter 04: the syndromes of 05h 2Eh 0Ah, and the list of its run. -/
theorem test_syndromes_example : syndromesOf 1 [0x05#8, 0x2E#8, 0x0A#8] = [0x21#8, 0x42#8] := by decide
theorem test_locate_example : locate [0x21#8, 0x42#8] 1 3 = some [⟨1, 0x21#8⟩] := by decide
theorem test_locate_failed : locate [0x00#8, 0x05#8] 1 3 = none := by decide
theorem test_locate_miscorrection : locate [0x03#8, 0x06#8] 1 3 = some [⟨1, 0x03#8⟩] := by decide

/-! ### Helpers: headers, entries, states -/

/-- A header with the fields given, sequence 0 and its check. -/
def hdr (destination source kindFlags flow code length : Byte) : HeaderBytes :=
  withHeaderCheck ⟨destination, source, kindFlags, flow, code, length, 0, 0⟩

/-- A DATA header of flow 20. -/
def dataHdr (code length : Byte) : HeaderBytes := hdr 7 3 0x10 20 code length

/-- The settings the tests give flow 20. -/
def entry (action : Action) (strength : Strength) (order : FlowOrder) (depth : Nat) (policy : Policy) :
    FlowEntry := ⟨action, strength, order, depth, 10, policy⟩

/-- The role of a DATA frame of those settings. -/
def dataRole (e : FlowEntry) : Role := .data ⟨e, 0⟩

/-- A stored frame. -/
def frame (role : Role) (h : HeaderBytes) (cells : List CellId) (place : Place) (stamp : Option Nat) :
    Descriptor := ⟨role, h, storedLengthOf role h, cells, place, stamp, none, none, none⟩

/-- The part with node address 9, the link up, the receiver at the point given and the frames given in
descriptors 0, 1, … -/
def part (r : Reception) (frames : List Descriptor) : State :=
  { State.reset with
    nodeAddress := 9
    receiver := ⟨.linkUp, r, none, none⟩
    order := { OrderUnit.reset with nextStamp := 8 }
    store :=
      { memory := []
        freeCells := (List.finRange 128).filter fun c => !(frames.any fun fr => fr.cells.contains c)
        freeDescs := (List.finRange 40).drop frames.length
        descs := Vector.ofFn fun d : DescId => frames[d.val]?
        holdOut := false } }

/-- The part with flow 20's active entry as given. -/
def withEntry (s : State) (e : FlowEntry) : State :=
  { s with table := { s.table with bankA := setFlow s.table.bankA 20 e } }

/-- The part with the chain of flow 20 as given. -/
def withChain (s : State) (l : List DescId) : State := s.setChain 20 l

/-- The part with the frame given in the receive slot, in descriptor 0, and the others behind it. -/
def slot (fr : Descriptor) (others : List Descriptor := []) : State :=
  { part (.receiving 0) (fr :: others) with
    receiver := ⟨.linkUp, .receiving 0, some fr.header, none⟩
    codeUnit := codeUnitFor fr.role fr.header }

/-- A DATA frame of flow 20 being received, of three payload bytes and code field 1. -/
def dataFrame (e : FlowEntry) : Descriptor := frame (dataRole e) (dataHdr 1 3) [0] .receiving none

/-- A REQUEST frame being received, from manager 3, for a body of `n` bytes. -/
def requestFrame (destination : Byte) (n : Nat) : Descriptor :=
  frame .request (hdr destination 3 0x20 0 0 (byteOf (n + 3))) [0] .receiving none

/-- The part with a REQUEST to it in the receive slot, claimed by the manager that sent it. -/
def requestPart (n : Nat) : State :=
  let s := slot (requestFrame 9 n)
  { s with management := { s.management with claim := some ⟨3, Config.seconds 5⟩ } }

/-- A frame that waits for a locator: its syndromes are those of 05h 2Eh 0Ah, the payload in its cell. -/
def locatedFrame (e : FlowEntry) (place : Place) (stamp : Nat) (cell : CellId) (syndromes : List Byte) :
    Descriptor :=
  { frame (dataRole e) (dataHdr 1 3) [cell] place (some stamp) with
    syndromes := some syndromes, deadline := some 1000 }

/-- A frame that waits HELD. -/
def heldFrame (e : FlowEntry) (stamp : Nat) (cell : CellId) : Descriptor :=
  { frame (dataRole e) (dataHdr 1 3) [cell] .held (some stamp) with deadline := some 1000 }

/-- The run of engine 0 on descriptor 0. -/
def runOn (syndromes : List Byte) : Run := ⟨0, syndromes, .t1, 3, 0⟩

/-- The part with descriptor 0 on engine 0, the payload given in cell 0, and the frames behind it. -/
def locatingPart (e : FlowEntry) (payload : List Byte) (others : List Descriptor) : State :=
  let y := syndromesOf 1 payload
  let s := part .between (locatedFrame e .locating 1 0 y :: others)
  { s with
    locator := ⟨[], some (runOn y), none, none⟩
    store := { s.store with memory := writeFrameBytes [] [0] 8 payload } }

/-- STRIP with t = 1, FREE. -/
def stripFree (p : Policy) : FlowEntry := entry .strip .t1 .free 4 p

/-- STRIP with t = 1, ORDERED. -/
def stripOrdered (depth : Nat) (p : Policy) : FlowEntry := entry .strip .t1 .ordered depth p

/-- The payload of the worked example, with one spoiled byte. -/
def spoiled : List Byte := [0x05#8, 0x2E#8, 0x0A#8]

/-- The payload of the worked example with two spoiled bytes, which no list fits. -/
def beyond : List Byte := [0x04#8, 0x0F#8, 0x0B#8]

/-- A frame of descriptor 0 in transmission. -/
def sendingPart (fr : Descriptor) : State :=
  let s := part .between [{ fr with place := .sending, stamp := some 1 }]
  { s with egress := { s.egress with transmitter := some ⟨.forward 0, fr.header, [], 100⟩ } }

/-- A chain of flow 20: descriptor 0 on engine 0 at the head, descriptor 1 HELD behind it. -/
def chainedPart (p : Policy) : State :=
  withChain (locatingPart (stripOrdered 4 p) spoiled [heldFrame (stripOrdered 4 p) 2 1]) [0, 1]

/-- A chain of flow 20 on both engines, its head on engine 1, with descriptor 2 queued behind it. -/
def bothLocating : State :=
  let y : List Byte := [0x21#8, 0x42#8]
  let e := stripOrdered 4 .drop
  let s := withChain (part .between [locatedFrame e .locating 1 0 y, locatedFrame e .locating 2 1 y,
    locatedFrame e .queued 3 2 y]) [0, 1, 2]
  { s with locator := ⟨[2], some ⟨1, y, .t1, 3, 0⟩, some ⟨0, y, .t1, 3, 0⟩, none⟩ }

/-! ### One or two steps per command -/

/-- A command completes and its next state passes the test. -/
def completes (c : Instr) (s : State) (p : State → Bool) : Bool :=
  match exec c s with
  | .next t => p t
  | .fault _ => false
  | .refused _ => false

/-- The status and the results of the youngest response. -/
def lastAnswer (s : State) : Option (Status × List Byte) :=
  s.management.responses.getLast?.map fun q => (q.response.status, q.response.results)

/-- A frame of a foreign kind in the forward queue, in descriptor 0. -/
def forwardPart : State :=
  let s := part .between [frame .forwardedOther (hdr 7 3 0x90 0 0 0) [0] .forward (some 1)]
  { s with egress := { s.egress with forwardQueue := [0] } }

/-- The part with the debt given. -/
def owing (debt : Nat) (s : State) : State := { s with egress := { s.egress with debt := debt } }

theorem test_powerOn : completes (.powerOn true) forwardPart fun t =>
    decide (t.egress.holdIn = true ∧ t.egress.forwardQueue = [] ∧ t.store.freeDescs.length = 40) := by
  decide
theorem test_holdInAssertion_starts_the_wait : completes .holdInAssertion forwardPart fun t =>
    decide (t.egress.holdWait = some 50000) := by decide
theorem test_holdInRelease : completes .holdInRelease
    { forwardPart with egress := { forwardPart.egress with holdIn := true, holdWait := some 50000 } }
    fun t => decide (t.egress.holdIn = false ∧ t.egress.holdWait = none) := by decide
theorem test_acquisition : completes .acquisition State.reset fun t =>
    decide (t.receiver.link = .linkUp ∧ (t.classState .upstreamUp).raw = 1) := by decide
theorem test_loss_before_header : completes (.loss []) (part .beforeHeader []) fun t =>
    decide (t.counters.globals.upstreamAborts = 1 ∧ (t.classState .upstreamDown).raw = 1) := by decide
theorem test_startDelimiter : completes (.startDelimiter []) (part .between []) fun t =>
    decide (t.receiver.reception = .beforeHeader) := by decide
/-- The bytes that had arrived stand in the freed cell (R20). -/
theorem test_startDelimiter_stores_what_arrived :
    completes (.startDelimiter [0x05#8, 0x2E#8]) (slot (dataFrame (stripFree .drop))) fun t =>
      decide (readPayload t.store.memory [0] 3 = [0x05#8, 0x2E#8, 0] ∧ t.desc? 0 = none) := by decide
theorem test_frameCutShort : completes (.frameCutShort .endDelimiter) (part .beforeHeader []) fun t =>
    decide (t.counters.globals.headerFaults = 1 ∧ t.counters.globals.upstreamAborts = 0) := by decide
theorem test_skipEnd : completes (.skipEnd .startDelimiter) (part .skipping []) fun t =>
    decide (t.receiver.reception = .beforeHeader) := by decide
/-- L = 249 needs five cells (the table of R27). -/
theorem test_headerArrival_five_cells :
    completes (.headerArrival (hdr 7 3 0x10 20 0 249)) (part .beforeHeader []) fun t =>
      decide ((t.desc? 0).map Descriptor.cells = some [0, 1, 2, 3, 4] ∧
        (t.flowCounters 20).arrived = 1 ∧ t.store.freeCells.length = 123) := by decide
theorem test_headerArrival_bad_check :
    completes (.headerArrival { hdr 7 3 0x10 20 0 3 with check := 0 }) (part .beforeHeader []) fun t =>
      decide (t.counters.globals.headerFaults = 1 ∧ (t.flowCounters 20).arrived = 0) := by decide
theorem test_abort_overlong : completes (.abort .dataByte spoiled) (slot (dataFrame (stripFree .drop)))
    fun t => decide (t.receiver.reception = .skipping ∧ (t.flowCounters 20).dropped = 1 ∧
      t.counters.globals.upstreamAborts = 1) := by decide
/-- The worked example of chapter 04 at P: 05h leaves 05h 0Fh 0Ah in the cell. -/
theorem test_frameEnd_encodes :
    completes (.frameEnd [0x05#8])
      (slot (frame (dataRole (entry .encode .t1 .free 4 .drop)) (dataHdr 0 1) [0] .receiving none)) fun t =>
      decide (readPayload t.store.memory [0] 3 = [0x05#8, 0x0F#8, 0x0A#8] ∧
        (t.flowCounters 20).clean = 1 ∧ t.egress.forwardQueue = [0]) := by decide
/-- The worked example at Q: 05h 2Eh 0Ah waits for a locator with the syndromes 21h 42h. -/
theorem test_frameEnd_to_locate :
    completes (.frameEnd spoiled) (slot (dataFrame (stripFree .mark))) fun t =>
      decide (t.locator.queue = [0] ∧
        (t.desc? 0).bind Descriptor.syndromes = some [0x21#8, 0x42#8]) := by decide
theorem test_pickup :
    completes (.pickup .engine1)
      { part .between [locatedFrame (stripFree .drop) .queued 1 0 [0x21#8, 0x42#8]] with
        locator := ⟨[0], none, none, none⟩ } fun t =>
      decide (t.locator.queue = [] ∧ t.engineDesc .engine1 = some 0) := by decide
theorem test_pickup_waits_for_the_engine_freed_first :
    completes (.pickup .engine0)
      { part .between [locatedFrame (stripFree .drop) .queued 1 0 [0x21#8, 0x42#8]] with
        locator := ⟨[0], none, none, some .engine1⟩ } fun t =>
      decide (t.locator.queue = [0] ∧ t.engineDesc .engine0 = none) := by decide
theorem test_completion_with_list :
    completes (.locatorCompletionList .engine0) (locatingPart (stripFree .drop) spoiled []) fun t =>
      decide (readPayload t.store.memory [0] 3 = [0x05#8, 0x0F#8, 0x0A#8] ∧
        (t.flowCounters 20).corrected = 1 ∧ (t.flowCounters 20).symbolsFixed = 1) := by decide
theorem test_completion_failed_marks :
    completes (.locatorCompletionFailed .engine0) (locatingPart (stripFree .mark) beyond []) fun t =>
      decide ((t.desc? 0).map (fun fr => isDamaged fr.header) = some true ∧
        t.egress.forwardQueue = [0] ∧ (t.flowCounters 20).codeFailed = 1) := by decide
/-- The expiry of the HELD member abandons the head and sends the member (R96, R97). -/
theorem test_deadlineExpiry_of_a_member :
    completes (.deadlineExpiry 1) (chainedPart .drop) fun t =>
      decide (t.egress.forwardQueue = [1] ∧ t.desc? 0 = none ∧ t.chain 20 = [] ∧
        t.locator.engine0 = none ∧ (t.flowCounters 20).expired = 1 ∧
        (t.classState .deadlineExpired).raw = 1) := by decide
/-- One expiry frees both engines, engine 1 first, which then takes the head of the queue (R79). -/
theorem test_deadlineExpiry_frees_both_engines :
    completes (.deadlineExpiry 1) bothLocating fun t =>
      decide (t.locator = ⟨[2], none, none, some .engine1⟩) &&
        completes (.pickup .engine1) t fun u => decide (u.engineDesc .engine1 = some 2) := by decide
theorem test_transmissionStart_token : completes .transmissionStart (owing 1 (part .between [])) fun t =>
    decide (t.egress.transmitter.map (fun x => (x.source, x.header.kindFlags, x.header.source, x.endsAt)) =
      some (.token, 0x50#8, 9, 80)) := by decide
/-- The worked example at Q after its correction, at the head of the forward queue. -/
def correctedPart : State :=
  let s := part .between [frame (dataRole (stripFree .drop)) (dataHdr 1 3) [0] .forward (some 1)]
  { s with
    egress := { s.egress with forwardQueue := [0] }
    store := { s.store with memory := writeFrameBytes [] [0] 8 [0x05#8, 0x0F#8, 0x0A#8] } }

/-- The worked example at Q: the corrected frame leaves with code 0, length 1 and payload 05h. -/
theorem test_transmissionStart_strips : completes .transmissionStart correctedPart fun t =>
    decide (t.egress.transmitter.map (fun x => (x.header.code, x.header.length, x.payload)) =
      some (0, 1, [0x05#8])) := by decide
theorem test_transmissionCompletion_token :
    completes (.transmissionCompletion [])
      { owing 2 (part .between []) with egress := { State.reset.egress with
          debt := 2, overdue := true, tokenSequence := 255
          transmitter := some ⟨.token, hdr 0 9 0x50 0 0 0, [], 80⟩ } }
      fun t => decide (t.egress.debt = 1 ∧ t.egress.overdue = false ∧ t.egress.tokenSequence = 0 ∧
        t.counters.globals.tokensSent = 1) := by decide
theorem test_transmissionCompletion_forward :
    completes (.transmissionCompletion [])
      (sendingPart (frame (dataRole (stripFree .drop)) (dataHdr 1 3) [0] .sending none)) fun t =>
      decide ((t.flowCounters 20).sent = 1 ∧ (t.flowCounters 20).dropped = 0 ∧
        t.store.freeDescs.getLast? = some 0) := by decide
theorem test_cadenceExpiry_slips : completes .cadenceExpiry (owing 8 (part .between [])) fun t =>
    decide (t.egress.debt = 8 ∧ t.counters.globals.cadenceSlips = 1 ∧
      (t.classState .cadenceSlip).raw = 1) := by decide
theorem test_cadenceExpiry_sets_overdue : completes .cadenceExpiry (owing 5 (part .between [])) fun t =>
    decide (t.egress.debt = 6 ∧ t.egress.overdue = true) := by decide
theorem test_holdWaitExpiry :
    completes .holdWaitExpiry { forwardPart with egress := { forwardPart.egress with
        holdIn := true, holdWait := some 50000 } }
      fun t => decide (t.egress.permission = true ∧ t.egress.holdWait = none ∧
        t.counters.globals.holdForced = 1) := by decide
theorem test_leaseExpiry : completes .leaseExpiry (requestPart 1) fun t =>
    decide (t.management.claim = none ∧ (t.classState .leaseEnded).raw = 1) := by decide

/-- The part with a HEADER_FAULT notice, sequence 7, reporting 2 of 3 occurrences. -/
def noticePart (s : State) (e : NoticeEntry) : State := s.putClass .headerFault ⟨3, true, e⟩

theorem test_retryTimerExpiry_resends :
    completes (.retryTimerExpiry .headerFault) (noticePart State.reset (.awaitingAck 7 2 2 0)) fun t =>
      decide ((t.classState .headerFault).entry = .pendingSend 7 (some 2) 3 0) := by decide
theorem test_retryTimerExpiry_exhausts :
    completes (.retryTimerExpiry .headerFault) (noticePart State.reset (.awaitingAck 7 2 3 0)) fun t =>
      decide ((t.classState .headerFault).entry = .exhausted 7 2) := by decide
theorem test_copyCompletion :
    completes .copyCompletion { State.reset with table :=
        { (withEntry State.reset (stripFree .drop)).table with copyInFlight := true } } fun t =>
      decide (t.table.stagedEntry 20 = stripFree .drop ∧ t.table.copyInFlight = false) := by decide

theorem test_probe : completes (.probe [1]) (requestPart 1) fun t =>
    decide (lastAnswer t = some (.ok, [0x3C, 0x24, 1, 9, 0, 0])) := by decide
theorem test_unknownKind : completes (.unknownKind 0x10#8 [1]) (requestPart 1) fun t =>
    decide (lastAnswer t = some (.unknown, [])) := by decide
theorem test_claim : completes (.claim [1, 30]) (requestPart 2) fun t =>
    decide (lastAnswer t = some (.ok, [3, 30]) ∧
      t.management.claim = some ⟨3, Config.seconds 30⟩) := by decide
theorem test_release : completes (.release [1]) (requestPart 1) fun t =>
    decide (lastAnswer t = some (.ok, []) ∧ t.management.claim = none) := by decide
/-- The default entry as chapter 11.2 encodes it, generation 0, no older frames. -/
theorem test_readEntry : completes (.readEntry [1, 0, 20]) (requestPart 3) fun t =>
    decide (lastAnswer t = some (.ok, [0, 0, 0, 4, 0x03, 0xE8, 0, 0, 0, 0])) := by decide
theorem test_writeEntry : completes (.writeEntry [1, 20, 4, 1, 0, 4, 0, 10, 1]) (requestPart 9) fun t =>
    decide (t.table.stagedEntry 20 = stripFree .mark ∧
      t.table.activeEntry 20 = FlowEntry.default) := by decide
theorem test_writeEntry_invalid :
    completes (.writeEntry [1, 20, 4, 3, 0, 4, 0, 10, 1]) (requestPart 9) fun t =>
      decide (lastAnswer t = some (.badArg, [])) := by decide
theorem test_commit : completes (.commit [1]) (requestPart 1) fun t =>
    decide (lastAnswer t = some (.ok, [0, 1]) ∧ t.table.active = .bankB ∧
      t.table.copyInFlight = true) := by decide
theorem test_readFrames : completes (.readFrames [1]) (requestPart 1) fun t =>
    decide (lastAnswer t = some (.ok, [1, 0, 1, 255, 0, 4, 4])) := by decide
theorem test_readCounters : completes (.readCounters [1, 20]) (requestPart 2) fun t =>
    decide (lastAnswer t = some (.ok, 20 :: List.replicate 32 0)) := by decide
theorem test_readGlobals : completes (.readGlobals [1]) (requestPart 1) fun t =>
    decide (lastAnswer t = some (.ok, List.replicate 40 0)) := by decide
theorem test_clearCounters :
    completes (.clearCounters [1, 1, 0]) ((requestPart 3).countGlobal .loopStripped) fun t =>
      decide (lastAnswer t = some (.ok, [1, 0]) ∧ t.counters.globals.loopStripped = 0) := by decide
theorem test_readStatus : completes (.readStatus [1]) (requestPart 1) fun t =>
    decide ((lastAnswer t).map (fun a => (a.1, a.2.take 13, a.2.length)) =
      some (.ok, [9, 1, 0, 0, 0, 3, 5, 0, 0, 0, 0, 127, 39], 46)) := by decide
theorem test_setTiming : completes (.setTiming [1, 0x07, 0xD0, 1, 2, 0, 10, 1]) (requestPart 8) fun t =>
    decide (t.egress.timing = ⟨2000, 1, 2, 10, 1⟩ ∧ t.egress.cadenceDue = 200000) := by decide
theorem test_setTiming_invalid :
    completes (.setTiming [1, 0x07, 0xD1, 1, 2, 0, 10, 1]) (requestPart 8) fun t =>
      decide (lastAnswer t = some (.badArg, [0x03, 0xE8, 2, 6, 0x01, 0xF4, 10])) := by decide
theorem test_setEvents : completes (.setEvents [1, 0, 1]) ((requestPart 3).raise .headerFault) fun t =>
    decide (lastAnswer t = some (.ok, [0, 1]) ∧
      (t.classState .headerFault).entry = .pendingSend 0 none 0 0 ∧
      (t.classState .addressTaken).enabled = false) := by decide
theorem test_ackNotice :
    completes (.ackNotice [1, 0, 7]) (noticePart (requestPart 3) (.exhausted 7 2)) fun t =>
      decide (lastAnswer t = some (.ok, [0, 0, 1, 1, 0]) ∧ (t.classState .headerFault).raw = 1) := by
  decide
theorem test_resetPart : completes (.resetPart [1, 1]) (requestPart 2) fun t =>
    decide (t.management.pendingReset = some ⟨.flush, true, none⟩ ∧
      t.management.responses.map QueuedResponse.resetMark = [true]) := by decide

/-! ### States that meet the hypotheses of the statements -/

/-- The head of the example chain is one error away from a codeword. -/
theorem inv_chained (p : Policy) : (chainedPart p).Inv := by
  cases p <;> exact State.inv_of_check (by decide)
theorem inv_listed (p : Policy) : (locatingPart (stripFree p) spoiled []).Inv := by
  cases p <;> exact State.inv_of_check (by decide)
theorem inv_failing (p : Policy) : (locatingPart (stripFree p) beyond []).Inv := by
  cases p <;> exact State.inv_of_check (by decide)
theorem inv_request : (requestPart 1).Inv := State.inv_of_check (by decide)
theorem syndromes_chained (p : Policy) : (chainedPart p).SyndromeInv := by
  cases p <;> exact State.syndromeInv_of_check (by decide)

/-- The transmitter sends a token. -/
def tokenPart : State :=
  { part .between [] with egress := { State.reset.egress with
      debt := 1, transmitter := some ⟨.token, hdr 0 9 0x50 0 0 0, [], 80⟩ } }

/-- A queued response. -/
def response (resetMark : Bool) : QueuedResponse := ⟨3, ⟨0x0F#8, 1, .ok, [1]⟩, resetMark⟩

/-- The part with the responses given queued. -/
def answering (l : List QueuedResponse) (s : State) : State :=
  { s with management := { s.management with responses := l } }

/-- The transmitter sends the oldest response. -/
def sendingResponse (resetMark : Bool) : State :=
  let s := answering [response resetMark] (part .between [])
  { s with egress := { s.egress with transmitter := some ⟨.response, hdr 3 9 0x30 0 0 6, [], 100⟩ } }

/-- A broadcast request's copy being sent. -/
def copyFrame : Descriptor := frame .request (hdr 255 3 0x20 0 0 5) [0] .sending (some 1)

/-- The part with a pending reset. -/
def resetting (p : PendingReset) (s : State) : State :=
  { s with management := { s.management with pendingReset := some p } }

/-- An ENUM frame being received. -/
def enumFrame : Descriptor := frame .enumeration (hdr 255 3 0x60 0 0 3) [0] .receiving none

/-- An unassigned part that receives it. -/
def unassigned : State := { slot enumFrame with nodeAddress := 0 }

/-- Descriptor 0 holds the frame in the receive slot. -/
theorem slot_desc (fr : Descriptor) (others : List Descriptor) : (slot fr others).desc? 0 = some fr := by
  simp [slot, part, State.desc?]

/-- A request of `n` body bytes is in the receive slot. -/
theorem request_in_slot (n : Nat) (h : headerLength (requestFrame 9 n).header = n + 3) :
    (requestPart n).RequestInSlot 0 (requestFrame 9 n) n := ⟨rfl, slot_desc _ _, rfl, h⟩

/-- A request part whose replay slot holds the sequence given, of the same manager. -/
def replayPart (n : Nat) (sequence : Byte) : State :=
  let s := requestPart n
  { s with management := { s.management with replay := some ⟨3, sequence, ⟨1, sequence, .ok, []⟩⟩ } }

/-- A marked response's completion lets the reset take effect that waits for it alone. -/
theorem reset_at_response (scope : ResetScope) (received : List Byte) :
    (resetting ⟨scope, true, none⟩ (sendingResponse true)).ResetTakesEffect
      (.transmissionCompletion received) scope :=
  ⟨received, _, _, rfl, rfl, rfl, rfl, .inr ⟨rfl, _, _, rfl, rfl⟩, .inl rfl⟩

/-- The copy's completion lets the reset take effect that waits for it alone. -/
theorem reset_at_copy (scope : ResetScope) (received : List Byte) :
    (resetting ⟨scope, false, some 0⟩ (sendingPart copyFrame)).ResetTakesEffect
      (.transmissionCompletion received) scope :=
  ⟨received, _, _, rfl, rfl, rfl, rfl, .inl rfl, .inr ⟨0, { copyFrame with stamp := some 1 },
    rfl, rfl, rfl, rfl⟩⟩

/-- With no reset pending none takes effect. -/
theorem no_reset_pending (s : State) (h : s.management.pendingReset = none) (c : Instr)
    (scope : ResetScope) : ¬s.ResetTakesEffect c scope := by
  rintro ⟨_, _, p, _, _, hp, _⟩
  simp [h] at hp

/-- A command that ends no frame executes no request. -/
theorem executes_nothing (s : State) (c : Instr) (kind : Byte) (args : List Byte)
    (hr : requestOf c = none) (hf : ∀ p, c ≠ .frameEnd p) : ¬s.Executes c kind args := by
  rintro ⟨d, fr, q, h | h, _⟩
  · simp [hr] at h
  · exact hf _ h

/-- A marked response goes while a frame is in the receive slot. -/
def resettingInReception : State :=
  let s := slot (dataFrame (stripFree .drop))
  { resetting ⟨.flush, true, none⟩ (answering [response true] s) with
    egress := { s.egress with transmitter := some ⟨.response, hdr 3 9 0x30 0 0 6, [], 100⟩ } }

theorem witness_StepRunsTheFrontCommand : State.reset.pending = [] := rfl

theorem witness_EventsThatCannotOccurChangeNothing :
    (part .between []).receiver.link = .linkUp ∧ State.reset.receiver.link = .linkDown ∧
    State.reset.receiver.reception ≠ .beforeHeader ∧ State.reset.receiver.reception ≠ .skipping ∧
    (∀ d, State.reset.receiver.reception ≠ .receiving d) ∧
    (requestOf (.resetPart [])).isSome = true ∧ State.reset.locator.queue = [] ∧
    (chainedPart .drop).engineRun .engine0 ≠ none ∧ State.reset.engineRun .engine1 = none ∧
    (∀ d fr, State.reset.desc? d = some fr → fr.deadline = none) ∧
    ({ State.reset with locator := ⟨[0], none, none, some .engine1⟩ } : State).locator.firstFreed =
      some .engine1 ∧ EngineId.engine1 ≠ .engine0 ∧
    tokenPart.egress.transmitter ≠ none ∧ State.reset.egress.transmitter = none ∧
    State.reset.egress.holdWait = none ∧ State.reset.management.claim = none ∧
    (∀ c q n r due, (State.reset.classState c).entry ≠ .awaitingAck q n r due) ∧
    State.reset.table.copyInFlight = false := by
  refine ⟨rfl, rfl, by decide, by decide, by decide, rfl, rfl, by decide, rfl, fun d fr h => ?_, rfl,
    by decide, by decide, rfl, rfl, rfl, fun c q n r due => ?_, rfl⟩
  · have hd : ∀ d, State.reset.desc? d = none := by decide
    simp [hd] at h
  · have : (State.reset.classState c).entry = .idle := by cases c <;> rfl
    simp [this]

theorem witness_EveryCommandKeepsTheMemoryAndTheEntries :
    (∃ t, exec (.locatorCompletionList .engine0) (chainedPart .drop) = .next t) ∧
    (chainedPart .drop).MemoryInv ∧ (chainedPart .drop).TableInv ∧
    memoryWf [(3, 5#8), (8191, 1#8)] = true ∧ (8191, 1#8) ∈ ([(3, 5#8), (8191, 1#8)] : Memory) ∧
    ∀ b, (4, b) ∉ ([(3, 5#8), (8191, 1#8)] : Memory) :=
  ⟨⟨_, rfl⟩, (inv_chained .drop).memory, (inv_chained .drop).table, by decide, by decide,
    fun _ => by simp⟩

theorem witness_EveryCommandKeepsTheCadence :
    (∃ t, exec .cadenceExpiry (owing 8 State.reset) = .next t) ∧ (owing 8 State.reset).CadenceInv :=
  ⟨⟨_, rfl⟩, ⟨by decide, by decide, by decide⟩⟩

theorem witness_EveryCommandKeepsTheNoticeTableAndTheCounters :
    (∃ t, exec (.retryTimerExpiry .headerFault) (noticePart State.reset (.awaitingAck 7 3 3 0)) = .next t) ∧
    (noticePart State.reset (.awaitingAck 7 3 3 0)).EventInv ∧
    (noticePart State.reset (.awaitingAck 7 3 3 0)).CounterInv :=
  ⟨⟨_, rfl⟩, State.countsCheck_spec (by decide)⟩

theorem witness_TheClockOnlyGoesForward :
    (∃ t, exec (.deadlineExpiry 0) (chainedPart .drop) = .next t) ∧
    ((chainedPart .drop).desc? 0).bind Descriptor.deadline = some 1000 ∧
    (∃ t, exec .leaseExpiry (requestPart 1) = .next t) ∧ (requestPart 1).management.claim ≠ none ∧
    (∃ t, exec (.retryTimerExpiry .headerFault) (noticePart State.reset (.awaitingAck 7 3 3 0)) = .next t) ∧
    ((noticePart State.reset (.awaitingAck 7 3 3 0)).classState .headerFault).entry =
      .awaitingAck 7 3 3 0 ∧
    (∃ t, exec .holdWaitExpiry
      { State.reset with egress := { State.reset.egress with holdWait := some 5 } } = .next t) ∧
    (∃ t, exec .cadenceExpiry State.reset = .next t) ∧
    (∃ t, exec (.transmissionCompletion []) tokenPart = .next t) ∧ tokenPart.egress.transmitter ≠ none :=
  ⟨⟨_, rfl⟩, by decide, ⟨_, rfl⟩, by decide, ⟨_, rfl⟩, rfl, ⟨_, rfl⟩, ⟨_, rfl⟩, ⟨_, rfl⟩, by decide⟩

/-- A token's completion while the hold-wait timer runs. -/
def waitingToken : State :=
  { forwardPart with egress := { forwardPart.egress with
      holdIn := true, holdWait := some 50000, debt := 1
      transmitter := some ⟨.token, hdr 0 9 0x50 0 0 0, [], 80⟩ } }

/-- A timer that starts, one that runs on past a completion, a reset and power-on. -/
theorem witness_HoldWaitTimerRunsWithItsConditions :
    (forwardPart.HoldWaitInv ∧
      ∃ t, exec .holdInAssertion forwardPart = .next t ∧ t.egress.holdWait = some 50000) ∧
    (waitingToken.HoldWaitInv ∧
      (∀ scope, ¬waitingToken.ResetTakesEffect (.transmissionCompletion []) scope) ∧
      ∃ t, exec (.transmissionCompletion []) waitingToken = .next t ∧
        t.egress.holdWait = some 50000) ∧
    (resetting ⟨.restart, true, none⟩ (sendingResponse true)).HoldWaitInv ∧
    (resetting ⟨.restart, true, none⟩ (sendingResponse true)).ResetTakesEffect
      (.transmissionCompletion []) .restart ∧
    ∃ t, exec (.powerOn true) forwardPart = .next t :=
  ⟨⟨(State.holdWaitInv_iff _).2 (by decide), _, rfl, by decide⟩,
    ⟨(State.holdWaitInv_iff _).2 (by decide), no_reset_pending _ rfl _, _, rfl, by decide⟩,
    (State.holdWaitInv_iff _).2 (by decide), reset_at_response _ _, _, rfl⟩

/-- The example chain with a command waiting. -/
def chainedQueue (c : Instr) : State := { chainedPart .drop with pending := [c] }

theorem witness_EveryStepKeepsThePartConsistent :
    (chainedQueue (.locatorCompletionList .engine0)).Inv ∧
    ∃ t, step (chainedQueue (.locatorCompletionList .engine0)) = .next t :=
  ⟨State.inv_of_check (by decide), _, rfl⟩

theorem witness_NoCommandStopsAConsistentPart : (chainedPart .mark).Inv := inv_chained .mark

theorem witness_EveryStepKeepsOrderedFlowsInOrder :
    (chainedQueue (.deadlineExpiry 1)).Inv ∧ (chainedQueue (.deadlineExpiry 1)).OrderInv ∧
    ∃ t, step (chainedQueue (.deadlineExpiry 1)) = .next t :=
  have h : (chainedQueue (.deadlineExpiry 1)).Inv := State.inv_of_check (by decide)
  ⟨h, State.orderInv_of_chains h rfl, _, rfl⟩

theorem witness_EveryStepKeepsTheSyndromesOfStoredPayloads :
    (chainedQueue (.startDelimiter [])).Inv ∧ (chainedQueue (.startDelimiter [])).SyndromeInv ∧
    ∃ t, step (chainedQueue (.startDelimiter [])) = .next t :=
  ⟨State.inv_of_check (by decide), State.syndromeInv_of_check (by decide), _, rfl⟩

/-- The example chain with flow 20's two frames counted as arrived. -/
def countedPart : State :=
  let s := chainedPart .drop
  { s with counters := { s.counters with
      flows := setFlow s.counters.flows 20 ⟨2, 1, 0, 0, 0, 0, 0, 0⟩ } }

/-- The next state of a command that completes. -/
def next (c : Instr) (s : State) : State :=
  match exec c s with
  | .next t => t
  | .fault _ => s
  | .refused _ => s

/-- An expiry, power-on, a completion at which a RESTART takes effect, and a clear of flow 20. -/
theorem witness_EveryFrameIsAccountedFor :
    (countedPart.Inv ∧ countedPart.AccountedWith 20 0 ∧
      exec (.deadlineExpiry 0) countedPart = .next (next (.deadlineExpiry 0) countedPart) ∧
      ¬countedPart.ResetTakesEffect (.deadlineExpiry 0) .restart ∧
      ¬countedPart.ClearsFlow (.deadlineExpiry 0) 20 ∧
      (∀ n ∈ ((next (.deadlineExpiry 0) countedPart).flowCounters 20).values, n < 4294967295)) ∧
    (∃ t, exec (.powerOn true) countedPart = .next t) ∧
    ((resetting ⟨.restart, true, none⟩ (sendingResponse true)).Inv ∧
      (resetting ⟨.restart, true, none⟩ (sendingResponse true)).AccountedWith 20 0 ∧
      (resetting ⟨.restart, true, none⟩ (sendingResponse true)).ResetTakesEffect
        (.transmissionCompletion []) .restart ∧
      ∃ t, exec (.transmissionCompletion [])
        (resetting ⟨.restart, true, none⟩ (sendingResponse true)) = .next t) ∧
    ((requestPart 3).Inv ∧ (requestPart 3).AccountedWith 20 0 ∧
      (requestPart 3).ClearsFlow (.clearCounters [1, 0, 20]) 20 ∧
      ∃ t, exec (.clearCounters [1, 0, 20]) (requestPart 3) = .next t) := by
  refine ⟨⟨State.inv_of_check (by decide), ?_, rfl, no_reset_pending _ rfl _ _, ?_, by decide⟩, ⟨_, rfl⟩,
    ⟨State.inv_of_check (by decide), ?_, reset_at_response _ _, _, rfl⟩, State.inv_of_check (by decide), ?_,
    ?_, _, rfl⟩
  · unfold State.AccountedWith; decide
  · rintro ⟨_, _, h, _⟩
    exact executes_nothing _ _ _ _ rfl (by simp) h
  · unfold State.AccountedWith; decide
  · unfold State.AccountedWith; decide
  · exact ⟨0, 20, ⟨0, requestFrame 9 3, 1, .inl rfl, request_in_slot 3 (by decide),
      ⟨by decide, rfl, fun r hr => by cases hr⟩, fun _ => ⟨_, rfl, by decide⟩⟩, .inr ⟨rfl, rfl⟩⟩

theorem witness_PlacesAccountForEveryDescriptor :
    (requestPart 1).Inv ∧ (requestPart 1).receiver.reception = .receiving 0 := ⟨inv_request, rfl⟩

theorem witness_StoredFramesAreFixed :
    (locatingPart (stripFree .mark) beyond []).Inv ∧
    exec (.locatorCompletionFailed .engine0) (locatingPart (stripFree .mark) beyond []) =
      .next (next (.locatorCompletionFailed .engine0) (locatingPart (stripFree .mark) beyond [])) ∧
    (∃ fr, (locatingPart (stripFree .mark) beyond []).desc? 0 = some fr) ∧
    ∃ fr, (next (.locatorCompletionFailed .engine0)
      (locatingPart (stripFree .mark) beyond [])).desc? 0 = some fr :=
  ⟨inv_failing .mark, rfl, ⟨_, rfl⟩, _, rfl⟩

/-- Descriptor 1 waits HELD while descriptor 0 is corrected; frame byte 10 is its last. -/
theorem witness_StoredBytesAreKept :
    (chainedPart .drop).Inv ∧
    exec (.locatorCompletionList .engine0) (chainedPart .drop) =
      .next (next (.locatorCompletionList .engine0) (chainedPart .drop)) ∧
    ((chainedPart .drop).desc? 1).map (fun fr => (fr.storedLength, fr.place)) = some (3, .held) ∧
    ((next (.locatorCompletionList .engine0) (chainedPart .drop)).desc? 1).isSome = true ∧
    ∀ e, Instr.locatorCompletionList .engine0 = .locatorCompletionList e →
      (chainedPart .drop).engineDesc e ≠ some 1 :=
  ⟨inv_chained .drop, rfl, by decide, by decide, fun e _ => by cases e <;> decide⟩

/-- The last address taken, a COMMIT, a RESTART, power-on, and a command that is none of them. -/
theorem witness_AddressAndGenerationChangeOnlyAsStated :
    (unassigned.TakesAddress (.frameEnd (withPayloadCheck [254])) 254 ∧
      ∃ t, exec (.frameEnd (withPayloadCheck [254])) unassigned = .next t) ∧
    ((requestPart 1).Swaps (.commit [1]) ∧ ∃ t, exec (.commit [1]) (requestPart 1) = .next t) ∧
    ((resetting ⟨.restart, true, none⟩ (sendingResponse true)).ResetTakesEffect
        (.transmissionCompletion []) .restart ∧
      ∃ t, exec (.transmissionCompletion [])
        (resetting ⟨.restart, true, none⟩ (sendingResponse true)) = .next t) ∧
    (∃ t, exec (.powerOn true) (requestPart 1) = .next t) ∧
    (∃ t, exec .leaseExpiry (requestPart 1) = .next t) ∧
    (∀ a, ¬(requestPart 1).TakesAddress .leaseExpiry a) ∧
    ¬(requestPart 1).ResetTakesEffect .leaseExpiry .restart ∧ ¬(requestPart 1).Swaps .leaseExpiry :=
  ⟨⟨⟨rfl, by decide, by decide, rfl, 0, enumFrame, rfl, slot_desc _ _, rfl, by decide⟩, _, rfl⟩,
    ⟨⟨⟨0, requestFrame 9 1, 1, .inl rfl, request_in_slot 1 (by decide),
      ⟨by decide, rfl, fun r hr => by cases hr⟩, fun _ => ⟨_, rfl, by decide⟩⟩, rfl⟩, _, rfl⟩,
    ⟨reset_at_response _ _, _, rfl⟩, ⟨_, rfl⟩, ⟨_, rfl⟩, fun a h => by simp [State.TakesAddress] at h,
    no_reset_pending _ rfl _ _, fun h => executes_nothing _ _ _ _ rfl (by simp) h.1⟩

theorem witness_ForwardQueueIsAFifo :
    ∃ t, exec .transmissionStart forwardPart = .next t ∧ t.egress.forwardQueue = [] := ⟨_, rfl, by decide⟩

/-! The receiver. -/

theorem witness_AcquisitionBringsTheLinkUp : State.reset.receiver.link = .linkDown := rfl

theorem witness_LossTakesTheLinkDown :
    ((part .between []).receiver.link = .linkUp ∧ (part .between []).receiver.reception = .between) ∧
    ((part .skipping []).receiver.link = .linkUp ∧ (part .skipping []).receiver.reception = .skipping) ∧
    ((part .beforeHeader []).receiver.link = .linkUp ∧
      (part .beforeHeader []).receiver.reception = .beforeHeader) ∧
    (slot (dataFrame (stripFree .drop))).receiver.link = .linkUp ∧
    (slot (dataFrame (stripFree .drop))).receiver.reception = .receiving 0 ∧
    (slot (dataFrame (stripFree .drop))).desc? 0 = some (dataFrame (stripFree .drop)) := by decide

theorem witness_StartDelimitersBeginFramesAndSkipsEndUncounted :
    ((part .skipping []).receiver.reception = .skipping ∧ LineSymbol.startDelimiter.delimits = true ∧
      LineSymbol.codeViolation.delimits = true) ∧
    (part .between []).receiver.link = .linkUp ∧ (part .between []).receiver.reception = .between ∧
    (part .skipping []).receiver.link = .linkUp ∧ (part .beforeHeader []).receiver.link = .linkUp ∧
    (part .beforeHeader []).receiver.reception = .beforeHeader ∧
    (slot (dataFrame (stripFree .drop))).receiver.link = .linkUp ∧
    (slot (dataFrame (stripFree .drop))).receiver.reception = .receiving 0 ∧
    (slot (dataFrame (stripFree .drop))).desc? 0 = some (dataFrame (stripFree .drop)) := by decide

theorem witness_CutShortBeforeHeaderHoldsNothing :
    (part .beforeHeader []).receiver.reception = .beforeHeader := rfl

/-- L is 3: an end delimiter after 2 bytes, an excess byte after 3, a code violation after 3, a FRAME_END with
2 bytes and one with 4. -/
theorem witness_AbortFreesTheReceiveSlot :
    (slot (dataFrame (stripFree .drop))).receiver.reception = .receiving 0 ∧
    (slot (dataFrame (stripFree .drop))).desc? 0 = some (dataFrame (stripFree .drop)) ∧
    (spoiled.take 2).length < headerLength (dataFrame (stripFree .drop)).header ∧
    spoiled.length = headerLength (dataFrame (stripFree .drop)).header ∧
    LineSymbol.codeViolation ≠ .endDelimiter ∧ LineSymbol.codeViolation ≠ .dataByte ∧
    spoiled.length ≤ headerLength (dataFrame (stripFree .drop)).header ∧
    (spoiled.take 2).length ≠ headerLength (dataFrame (stripFree .drop)).header ∧
    (0 :: spoiled).length ≠ headerLength (dataFrame (stripFree .drop)).header := by decide

/-- The addresses 1 and 254 are own addresses; 0 and 255 are not. -/
theorem witness_FatesFollowTheTable :
    isNodeAddress 1 = true ∧ isNodeAddress 254 = true ∧ isNodeAddress 0 = false ∧
    isNodeAddress 255 = false ∧ frameKind (hdr 0 3 0x50 0 0 0) = .token ∧
    frameKind (hdr 9 3 0x20 0 0 0) = .request ∧ frameKind (hdr 255 3 0x60 0 0 0) = .enumeration ∧
    frameKind (hdr 0 3 0x10 0 0 0) = .data ∧ frameKind (hdr 0 3 0x30 0 0 0) = .response ∧
    frameKind (hdr 0 3 0x40 0 0 0) = .notice ∧ frameKind (hdr 0 3 0xF0 0 0 0) = .foreign ∧
    frameKind (hdr 0 3 0x00 0 0 0) = .foreign ∧ frameKind (hdr 0 3 0x7F 0 0 0) = .foreign ∧
    isDamaged (hdr 0 3 0x18 0 0 0) = true ∧ isDamaged (hdr 0 3 0xF7 0 0 0) = false ∧
    (withDamaged (hdr 0 3 0x17 0 0 0)).kindFlags = 0x1F ∧ (hdr 9 3 0x20 0 0 0).source ≠ 9 := by decide

theorem witness_FaultyStrippedAndTokenFramesAreSkipped :
    (part .beforeHeader []).receiver.reception = .beforeHeader ∧
    headerCheckPasses { hdr 7 3 0x10 20 0 3 with check := 0 } = false ∧
    headerCheckPasses (hdr 7 9 0x10 20 0 3) = true ∧
    fateOf (part .beforeHeader []).nodeAddress (hdr 7 9 0x10 20 0 3) = .loopStripped ∧
    headerCheckPasses (hdr 0 9 0x50 0 0 0) = true ∧
    fateOf (part .beforeHeader []).nodeAddress (hdr 0 9 0x50 0 0 0) = .tokenConsumed := by decide

/-- A part that awaits a header and discards flow 20. -/
def discardPart : State :=
  withEntry (part .beforeHeader []) ⟨.discard, .t0, .free, 4, 1000, .drop⟩

theorem witness_DiscardFramesAreDroppedAtHeaderArrival :
    discardPart.receiver.reception = .beforeHeader ∧ headerCheckPasses (dataHdr 9 255) = true ∧
    fateOf discardPart.nodeAddress (dataHdr 9 255) = .classified ∧
    (discardPart.table.activeEntry (dataHdr 9 255).flow).action = .discard ∧
    LineSymbol.endDelimiter.delimits = true := by decide

/-- The last descriptor and exactly the five cells the frame needs are free. -/
def lastRoom (cells : Nat) : State :=
  let s := part .beforeHeader []
  { s with store := { s.store with freeDescs := [39], freeCells := (List.finRange 128).take cells } }

theorem witness_KeptFrameTakesADescriptorAndItsCells :
    (lastRoom 5).receiver.reception = .beforeHeader ∧ headerCheckPasses (dataHdr 0 249) = true ∧
    (lastRoom 5).keptRole (dataHdr 0 249) = some (dataRole FlowEntry.default) ∧
    (lastRoom 5).store.freeDescs = 39 :: [] ∧
    cellsNeeded (storedLengthOf (dataRole FlowEntry.default) (dataHdr 0 249)) = 5 ∧
    5 ≤ (lastRoom 5).store.freeCells.length ∧ memoryWf (lastRoom 5).store.memory = true := by decide

theorem witness_RefusedFrameTakesNothing :
    (lastRoom 4).receiver.reception = .beforeHeader ∧ headerCheckPasses (dataHdr 0 249) = true ∧
    (lastRoom 4).keptRole (dataHdr 0 249) = some (dataRole FlowEntry.default) ∧
    (lastRoom 4).store.freeCells.length <
      cellsNeeded (storedLengthOf (dataRole FlowEntry.default) (dataHdr 0 249)) ∧
    (part .beforeHeader []).keptRole (hdr 255 3 0x60 0 0 3) = some .enumeration ∧
    ({ (lastRoom 5).store with freeDescs := [] } : FrameStore).freeDescs = [] := by decide

theorem witness_StoredLengthsCellsAndHoldOutThresholds :
    codeFault (entry .check .t2 .free 4 .drop) (dataHdr 2 5) = false ∧
    codeFault (entry .check .t2 .free 4 .drop) (dataHdr 2 4) = true ∧
    codeFault (entry .correct .t2 .free 4 .drop) (dataHdr 1 5) = true ∧
    codeFault (entry .strip .t8 .free 4 .drop) (dataHdr 8 17) = false ∧
    codeFault (entry .encode .t1 .free 4 .drop) (dataHdr 0 253) = false ∧
    codeFault (entry .encode .t1 .free 4 .drop) (dataHdr 0 254) = true ∧
    codeFault (entry .encode .t1 .free 4 .drop) (dataHdr 0 0) = true ∧
    codeFault FlowEntry.default (dataHdr 9 0) = false ∧
    codeUnitFor (dataRole (entry .check .t2 .free 4 .drop)) (dataHdr 2 5) = .syndrome [0, 0, 0, 0] ∧
    codeUnitFor (dataRole (entry .encode .t1 .free 4 .drop)) (dataHdr 0 253) = .encoding [0, 0] ∧
    codeUnitFor (dataRole (entry .encode .t1 .free 4 .drop)) (dataHdr 0 254) = .passing true ∧
    codeUnitFor (dataRole FlowEntry.default) (dataHdr 9 0) = .passing false ∧
    cellsNeeded 56 = 1 ∧ cellsNeeded 57 = 2 ∧ cellsNeeded 248 = 4 ∧ cellsNeeded 255 = 5 ∧
    (15 : Nat) < 16 ∧ (3 : Nat) < 4 ∧ (16 ≤ (16 : Nat) ∧ 4 ≤ (7 : Nat) ∧ ((16 : Nat) < 24 ∨ (7 : Nat) < 8)) := by
  decide

/-! Frame-end. -/

/-- A frame of a foreign kind being received, without payload. -/
def foreignFrame : Descriptor := frame .forwardedOther (hdr 7 3 0x90 0 0 0) [0] .receiving none

theorem witness_ForwardedOtherFramesGoOnUnchanged :
    (slot foreignFrame).receiver.reception = .receiving 0 ∧ (slot foreignFrame).desc? 0 = some foreignFrame ∧
    foreignFrame.role = .forwardedOther ∧ ([] : List Byte).length = headerLength foreignFrame.header := by decide

/-- The payloads carry the next addresses 254, the last one taken, and 255, which none takes. -/
theorem witness_EnumFramesAssignTheAddressAndFailedChecksAreDropped :
    unassigned.receiver.reception = .receiving 0 ∧ unassigned.desc? 0 = some enumFrame ∧
    enumFrame.role = .enumeration ∧ headerLength enumFrame.header = 3 ∧
    payloadCheckPasses [254, 0, 0] = false ∧
    payloadCheckPasses (withPayloadCheck [254]) = true ∧ (withPayloadCheck [254]).length = 3 ∧
    payloadCheckPasses (withPayloadCheck [255]) = true ∧ unassigned.nodeAddress = 0 ∧
    (slot enumFrame).nodeAddress ≠ 0 ∧
    (requestPart 1).desc? 0 = some (requestFrame 9 1) ∧ (requestFrame 9 1).role = .request ∧
    headerLength (requestFrame 9 1).header = 4 ∧ payloadCheckPasses [1, 1, 0, 0] = false := by decide

theorem witness_RequestRowsAreFrameEndsOfRequests :
    requestOf (.claim [1, 30]) = some (0x02#8, [1, 30]) ∧
    (requestPart 2).RequestInSlot 0 (requestFrame 9 2) [1, 30].length :=
  ⟨rfl, request_in_slot 2 (by decide)⟩

/-- A frame of descriptor 0 in the slot, with the chain of flow 20 holding descriptor 1. -/
def behindOne (fr : Descriptor) : State :=
  withChain (slot fr [locatedFrame (stripOrdered 4 .drop) .queued 1 1 [0x21#8, 0x42#8]]) [1]

/-- The receive slot holds a DATA frame of three bytes. -/
theorem data_in_slot (e : FlowEntry) (payload : List Byte) (hl : payload.length = 3)
    (hk : e.action ≠ .discard) :
    (slot (dataFrame e)).DataInSlot 0 (dataFrame e) ⟨e, 0⟩ payload :=
  ⟨rfl, slot_desc _ _, rfl, rfl, hl, hk⟩

theorem data_behind_one (e : FlowEntry) (payload : List Byte) (hl : payload.length = 3)
    (hk : e.action ≠ .discard) :
    (behindOne (dataFrame e)).DataInSlot 0 (dataFrame e) ⟨e, 0⟩ payload :=
  ⟨rfl, slot_desc _ _, rfl, rfl, hl, hk⟩

/-- The codeword of the worked example. -/
def codeword : List Byte := [0x05#8, 0x0F#8, 0x0A#8]

/-- A chain of one member and a hold depth of 2: the frame just fits. -/
theorem witness_ReadyFramesGoOnOrWaitHeld :
    (slot (dataFrame (stripFree .drop))).DataInSlot 0 (dataFrame (stripFree .drop)) ⟨stripFree .drop, 0⟩
      codeword ∧
    outcomeOf (stripFree .drop) (dataFrame (stripFree .drop)).header codeword = .ready ∧
    (slot (dataFrame (stripFree .drop))).goesOn (dataFrame (stripFree .drop)) ∧
    (behindOne (dataFrame (stripOrdered 2 .drop))).DataInSlot 0 (dataFrame (stripOrdered 2 .drop))
      ⟨stripOrdered 2 .drop, 0⟩ codeword ∧
    (behindOne (dataFrame (stripOrdered 2 .drop))).chain 20 = [1] ∧
    (behindOne (dataFrame (stripOrdered 2 .drop))).joins (dataFrame (stripOrdered 2 .drop)) :=
  ⟨data_in_slot _ _ rfl (by decide), by decide, .inl rfl, data_behind_one _ _ rfl (by decide), by decide,
    rfl, by decide⟩

theorem witness_FramesToLocateEnterTheCorrectionQueue :
    (slot (dataFrame (stripFree .drop))).DataInSlot 0 (dataFrame (stripFree .drop)) ⟨stripFree .drop, 0⟩
      spoiled ∧
    outcomeOf (stripFree .drop) (dataFrame (stripFree .drop)).header spoiled = .toLocate ∧
    (dataFrame (stripFree .drop)).entry.order = .free ∧
    (behindOne (dataFrame (stripOrdered 2 .drop))).DataInSlot 0 (dataFrame (stripOrdered 2 .drop))
      ⟨stripOrdered 2 .drop, 0⟩ spoiled ∧
    (behindOne (dataFrame (stripOrdered 2 .drop))).joins (dataFrame (stripOrdered 2 .drop)) :=
  ⟨data_in_slot _ _ rfl (by decide), by decide, rfl, data_behind_one _ _ rfl (by decide), rfl, by decide⟩

/-- CHECK with t = 1: a dirty frame fails at once. -/
def checkEntry (o : FlowOrder) (depth : Nat) (p : Policy) : FlowEntry := entry .check .t1 o depth p

theorem witness_FailedFramesFollowTheirPolicy :
    (slot (dataFrame (checkEntry .free 4 .drop))).DataInSlot 0 (dataFrame (checkEntry .free 4 .drop))
      ⟨checkEntry .free 4 .drop, 0⟩ spoiled ∧
    outcomeOf (checkEntry .free 4 .drop) (dataFrame (checkEntry .free 4 .drop)).header spoiled = .failed ∧
    (slot (dataFrame (checkEntry .free 4 .mark))).DataInSlot 0 (dataFrame (checkEntry .free 4 .mark))
      ⟨checkEntry .free 4 .mark, 0⟩ spoiled ∧
    (slot (dataFrame (checkEntry .free 4 .mark))).goesOn (dataFrame (checkEntry .free 4 .mark)) ∧
    (behindOne (dataFrame (checkEntry .ordered 2 .mark))).DataInSlot 0
      (dataFrame (checkEntry .ordered 2 .mark)) ⟨checkEntry .ordered 2 .mark, 0⟩ spoiled ∧
    (behindOne (dataFrame (checkEntry .ordered 2 .mark))).chain 20 ≠ [] ∧
    (behindOne (dataFrame (checkEntry .ordered 2 .mark))).joins (dataFrame (checkEntry .ordered 2 .mark)) :=
  ⟨data_in_slot _ _ rfl (by decide), by decide, data_in_slot _ _ rfl (by decide), .inl rfl,
    data_behind_one _ _ rfl (by decide), by decide, rfl, by decide⟩

/-- ENCODE with hold depth 1 and policy MARK: a header of code field 1 is a code fault. -/
def encodeOrdered : FlowEntry := entry .encode .t1 .ordered 1 .mark

/-- A chain of one member and a hold depth of 1: the frame does not fit. -/
theorem witness_OverflowingFramesAreFreed :
    (behindOne (dataFrame (stripOrdered 1 .drop))).DataInSlot 0 (dataFrame (stripOrdered 1 .drop))
      ⟨stripOrdered 1 .drop, 0⟩ spoiled ∧
    (stripOrdered 1 .drop).order = .ordered ∧
    (stripOrdered 1 .drop).holdDepth <
      ((behindOne (dataFrame (stripOrdered 1 .drop))).chain 20).length + 1 ∧
    outcomeOf (stripOrdered 1 .drop) (dataFrame (stripOrdered 1 .drop)).header spoiled = .toLocate ∧
    outcomeOf (stripOrdered 1 .drop) (dataFrame (stripOrdered 1 .drop)).header codeword = .ready ∧
    (behindOne (dataFrame (checkEntry .ordered 1 .mark))).DataInSlot 0
      (dataFrame (checkEntry .ordered 1 .mark)) ⟨checkEntry .ordered 1 .mark, 0⟩ spoiled ∧
    outcomeOf (checkEntry .ordered 1 .mark) (dataFrame (checkEntry .ordered 1 .mark)).header spoiled =
      .failed :=
  ⟨data_behind_one _ _ rfl (by decide), rfl, by decide, by decide, by decide,
    data_behind_one _ _ rfl (by decide), by decide⟩

/-- The same for an ENCODE frame of code field 1 (R57): it fails, three bytes are stored and none behind them
(R59, R67). -/
theorem witness_OverflowingFramesAreFreed_encode :
    (behindOne (dataFrame encodeOrdered)).DataInSlot 0 (dataFrame encodeOrdered) ⟨encodeOrdered, 0⟩ spoiled ∧
    encodeOrdered.order = .ordered ∧ encodeOrdered.policy = .mark ∧
    encodeOrdered.holdDepth < ((behindOne (dataFrame encodeOrdered)).chain 20).length + 1 ∧
    (behindOne (dataFrame encodeOrdered)).chain 20 ≠ [] ∧
    outcomeOf encodeOrdered (dataFrame encodeOrdered).header spoiled = .failed ∧
    (dataFrame encodeOrdered).storedLength = 3 ∧
    completes (.frameEnd spoiled) (behindOne (dataFrame encodeOrdered)) (fun t =>
      ([8, 9, 10, 11, 12].map (readByte t.store.memory) == spoiled ++ [0, 0])) = true :=
  ⟨data_behind_one _ _ rfl (by decide), rfl, rfl, by decide, by decide, by decide, by decide, by decide⟩

/-! The code and the locator. -/

theorem witness_SymbolsFormTheField :
    (254 : Nat) < 255 ∧ alphaPow 254 = alphaPow 254 ∧ (0x8E#8 : Byte) ≠ 0 ∧ alphaPow 254 = 0x8E#8 := by decide

theorem witness_LocatorFindsUpToTErrors :
    codeword.length ≤ 255 ∧ 2 * Strength.t1.t + 1 ≤ codeword.length ∧
    isClean (syndromesOf Strength.t1.t codeword) = true ∧
    ([⟨2, 0x21#8⟩] : List ErrorEntry).length ≤ Strength.t1.t ∧
    (([⟨2, 0x21#8⟩] : List ErrorEntry).map ErrorEntry.position).Nodup ∧
    (∀ e ∈ ([⟨2, 0x21#8⟩] : List ErrorEntry), e.position < codeword.length ∧ e.value ≠ 0) ∧
    locate (syndromesOf Strength.t1.t (withErrors codeword [⟨2, 0x21#8⟩])) Strength.t1.t 3 =
      some [⟨2, 0x21#8⟩] := by decide

/-- Descriptor 0 waits for a locator. -/
def queuedPart : State :=
  { part .between [locatedFrame (stripFree .drop) .queued 1 0 [0x21#8, 0x42#8]] with
    locator := ⟨[0], none, none, none⟩ }

theorem witness_PickupStartsARunOnTheHead :
    queuedPart.engineRun .engine1 = none ∧ queuedPart.locator.queue = 0 :: [] ∧
    queuedPart.desc? 0 = some (locatedFrame (stripFree .drop) .queued 1 0 [0x21#8, 0x42#8]) ∧
    (∀ x, queuedPart.locator.firstFreed = some x → x = .engine1) ∧
    (∀ x, ({ queuedPart with locator := ⟨[0], none, none, some .engine1⟩ } : State).locator.firstFreed =
      some x → x = .engine1) ∧ EngineId.engine1 ≠ .engine0 :=
  ⟨rfl, rfl, by decide, fun x h => by simp [queuedPart] at h, fun x h => by simpa [eq_comm] using h,
    by decide⟩

theorem witness_CompletionWithAListCorrectsTheFrame :
    (chainedPart .drop).Inv ∧ (chainedPart .drop).engineRun .engine0 = some (runOn [0x21#8, 0x42#8]) ∧
    (chainedPart .drop).desc? 0 =
      some (locatedFrame (stripOrdered 4 .drop) .locating 1 0 [0x21#8, 0x42#8]) ∧
    locate [0x21#8, 0x42#8] Strength.t1.t 3 = some [⟨1, 0x21#8⟩] :=
  ⟨inv_chained .drop, by decide, by decide, by decide⟩

theorem witness_FailedCompletionAppliesThePolicy (p : Policy) :
    (locatingPart (stripFree p) beyond []).Inv ∧
    (locatingPart (stripFree p) beyond []).engineRun .engine0 = some (runOn [0x00#8, 0x05#8]) ∧
    (locatingPart (stripFree p) beyond []).desc? 0 =
      some (locatedFrame (stripFree p) .locating 1 0 [0x00#8, 0x05#8]) ∧
    locate [0x00#8, 0x05#8] Strength.t1.t 3 = none ∧
    (locatedFrame (stripFree p) .locating 1 0 [0x00#8, 0x05#8]).entry.policy = p := by
  refine ⟨inv_failing p, ?_⟩
  cases p <;> decide

theorem witness_CorrectedFramesAreCodewords :
    (chainedPart .drop).Inv ∧ (chainedPart .drop).SyndromeInv ∧
    (chainedPart .drop).engineRun .engine0 = some (runOn [0x21#8, 0x42#8]) ∧
    (chainedPart .drop).desc? 0 =
      some (locatedFrame (stripOrdered 4 .drop) .locating 1 0 [0x21#8, 0x42#8]) ∧
    locate [0x21#8, 0x42#8] Strength.t1.t 3 = some [⟨1, 0x21#8⟩] ∧
    ∃ t, exec (.locatorCompletionList .engine0) (chainedPart .drop) = .next t :=
  ⟨inv_chained .drop, syndromes_chained .drop, by decide, by decide, by decide, _, rfl⟩

theorem witness_ExpiryOfAFreeFrameAbandonsItAlone (p : Policy) :
    (locatingPart (stripFree p) spoiled []).Inv ∧
    (locatingPart (stripFree p) spoiled []).desc? 0 =
      some (locatedFrame (stripFree p) .locating 1 0 [0x21#8, 0x42#8]) ∧
    (locatedFrame (stripFree p) .locating 1 0 [0x21#8, 0x42#8]).isOrdered = false ∧
    (locatedFrame (stripFree p) .locating 1 0 [0x21#8, 0x42#8]).deadline = some 1000 ∧
    (locatedFrame (stripFree p) .locating 1 0 [0x21#8, 0x42#8]).entry.policy = p := by
  refine ⟨inv_listed p, ?_⟩
  cases p <;> decide

theorem witness_ExpiryOfAChainedFrameResolvesUpToIt :
    (chainedPart .mark).Inv ∧
    (chainedPart .mark).desc? 1 = some (heldFrame (stripOrdered 4 .mark) 2 1) ∧
    (heldFrame (stripOrdered 4 .mark) 2 1).isOrdered = true ∧
    (heldFrame (stripOrdered 4 .mark) 2 1).deadline = some 1000 :=
  ⟨inv_chained .mark, by decide, by decide, by decide⟩

/-- The same on a chain that holds both engines, with a frame queued behind it. -/
theorem witness_ExpiryOfAChainedFrameFreesBothEngines :
    bothLocating.Inv ∧
    bothLocating.desc? 1 = some (locatedFrame (stripOrdered 4 .drop) .locating 2 1 [0x21#8, 0x42#8]) ∧
    (locatedFrame (stripOrdered 4 .drop) .locating 2 1 [0x21#8, 0x42#8]).isOrdered = true ∧
    (locatedFrame (stripOrdered 4 .drop) .locating 2 1 [0x21#8, 0x42#8]).deadline = some 1000 :=
  ⟨State.inv_of_check (by decide), by decide, by decide, by decide⟩

/-! The scheduler. -/

theorem witness_HoldInAndTheSchedulerTimers :
    ({ State.reset with egress := { State.reset.egress with holdWait := some 5 } } : State).egress.holdWait =
      some 5 ∧
    (owing 8 State.reset).egress.debt ≤ 8 ∧ (owing 8 State.reset).egress.debt = 8 ∧
    (owing 7 State.reset).egress.debt < 8 := by decide

/-- A HEADER_FAULT notice waits. -/
def waitingNotice : State := noticePart State.reset (.pendingSend 7 none 0 0)

theorem mayStart_of_open (s : State) (h : s.egress.nonTokenMayStart = true) : s.mayStart := by
  unfold Egress.nonTokenMayStart at h
  unfold State.mayStart
  revert h
  cases s.egress.overdue <;> cases s.egress.holdIn <;> cases s.egress.permission <;> simp

theorem witness_TransmissionStartTakesTheFirstTier :
    (State.reset.egress.transmitter = none ∧ State.reset.mayStart ∧ State.reset.noNotice ∧
      State.reset.management.responses = [] ∧ State.reset.egress.forwardQueue = [] ∧
      State.reset.egress.debt = 0) ∧
    (answering [response false] State.reset).management.responses = response false :: [] ∧
    ((owing 2 State.reset).egress.timing.dueThreshold ≤ (owing 2 State.reset).egress.debt ∧
      (owing 1 State.reset).egress.debt < (owing 1 State.reset).egress.timing.dueThreshold ∧
      1 ≤ (owing 1 State.reset).egress.debt) ∧
    (¬({ State.reset with egress := { State.reset.egress with holdIn := true } } : State).mayStart) ∧
    ((waitingNotice.classState .headerFault).entry = .pendingSend 7 none 0 0 ∧
      (∀ e, e ≠ .headerFault → (waitingNotice.classState e).entry.waitingAge = none)) ∧
    forwardPart.noNotice ∧ forwardPart.egress.forwardQueue = 0 :: [] ∧
    forwardPart.desc? 0 = some (frame .forwardedOther (hdr 7 3 0x90 0 0 0) [0] .forward (some 1)) := by
  refine ⟨⟨rfl, mayStart_of_open _ rfl, fun c => by cases c <;> rfl, rfl, rfl, rfl⟩, rfl, by decide, ?_,
    ⟨rfl, fun e he => by cases e <;> first | rfl | exact absurd rfl he⟩, fun c => by cases c <;> rfl, rfl,
    by decide⟩
  unfold State.mayStart; decide

theorem witness_StripAndEncodeFramesAreRewrittenAsTheyLeave :
    (dataFrame (stripFree .drop)).storedLength =
      storedLengthOf (dataFrame (stripFree .drop)).role (dataFrame (stripFree .drop)).header ∧
    (dataFrame (stripFree .drop)).role = .data ⟨stripFree .drop, 0⟩ ∧ (stripFree .drop).action = .strip ∧
    isDamaged (dataFrame (stripFree .drop)).header = false ∧
    isDamaged (withDamaged (dataFrame (stripFree .drop)).header) = true ∧
    2 * (stripFree .drop).strength.t < headerLength (dataFrame (stripFree .drop)).header ∧
    codeFault (entry .encode .t1 .free 4 .drop) (dataHdr 0 253) = false ∧
    codeFault (entry .encode .t1 .free 4 .drop) (dataHdr 0 254) = true ∧ 1 ≤ Strength.t1.t ∧
    (checkEntry .free 4 .drop).action = .check := by decide

/-- The transmitter sends a HEADER_FAULT notice of sequence 7. -/
def sendingNotice (e : NoticeEntry) : State :=
  let s := noticePart (part .between []) e
  { s with egress := { s.egress with
      transmitter := some ⟨.notice .headerFault 7, hdr 3 9 0x40 0 0 6, [], 100⟩ } }

theorem witness_CompletionsGoToTheirSource :
    (tokenPart.egress.transmitter.map Transmission.source = some .token ∧
      ∀ scope, ¬tokenPart.ResetTakesEffect (.transmissionCompletion []) scope) ∧
    ((resetting ⟨.flush, true, some 0⟩ (sendingResponse true)).egress.transmitter.map
        Transmission.source = some .response ∧
      (resetting ⟨.flush, true, some 0⟩ (sendingResponse true)).management.responses =
        response true :: [] ∧
      ∀ scope, ¬(resetting ⟨.flush, true, some 0⟩ (sendingResponse true)).ResetTakesEffect
        (.transmissionCompletion []) scope) ∧
    ((sendingNotice (.pendingSend 7 (some 2) 0 0)).egress.transmitter.map Transmission.source =
        some (.notice .headerFault 7) ∧
      ((sendingNotice (.pendingSend 7 (some 2) 0 0)).classState .headerFault).entry =
        .pendingSend 7 (some 2) 0 0 ∧
      ((sendingNotice (.pendingSend 8 none 0 0)).classState .headerFault).entry = .pendingSend 8 none 0 0 ∧
      ∀ scope, ¬(sendingNotice (.pendingSend 8 none 0 0)).ResetTakesEffect
        (.transmissionCompletion []) scope) ∧
    ((resetting ⟨.flush, true, some 0⟩ (sendingPart copyFrame)).egress.transmitter.map
        Transmission.source = some (.forward 0) ∧
      (resetting ⟨.flush, true, some 0⟩ (sendingPart copyFrame)).desc? 0 = some copyFrame ∧
      copyFrame.role = .request ∧
      ∀ scope, ¬(resetting ⟨.flush, true, some 0⟩ (sendingPart copyFrame)).ResetTakesEffect
        (.transmissionCompletion []) scope) := by
  refine ⟨⟨rfl, no_reset_pending _ rfl _⟩, ⟨rfl, rfl, ?_⟩, ⟨rfl, rfl, rfl, no_reset_pending _ rfl _⟩,
    ⟨rfl, by decide, rfl, ?_⟩⟩
  · rintro scope ⟨_, tx, p, _, ht, hp, _, _, h | ⟨d, fr, h, _⟩⟩
    · cases hp; simp at h
    · cases ht; simp at h
  · rintro scope ⟨_, tx, p, _, ht, hp, _, h | ⟨h, _⟩, _⟩
    · cases hp; simp at h
    · cases ht; simp at h

/-- The reset waits for the marked response, for the copy, and for the response with a frame in the receive
slot, whose two bytes so far stand in its freed cell (R20). -/
theorem witness_PendingResetTakesEffectAtTheLastDeparture :
    ((resetting ⟨.restart, true, none⟩ (sendingResponse true)).Inv ∧
      (resetting ⟨.restart, true, none⟩ (sendingResponse true)).ResetTakesEffect
        (.transmissionCompletion []) .restart) ∧
    ((resetting ⟨.flush, false, some 0⟩ (sendingPart copyFrame)).Inv ∧
      (resetting ⟨.flush, false, some 0⟩ (sendingPart copyFrame)).ResetTakesEffect
        (.transmissionCompletion []) .flush) ∧
    (resettingInReception.Inv ∧
      resettingInReception.ResetTakesEffect (.transmissionCompletion [0x05#8, 0x2E#8]) .flush) ∧
    completes (.transmissionCompletion [0x05#8, 0x2E#8]) resettingInReception fun t =>
      decide (readPayload t.store.memory [0] 3 = [0x05#8, 0x2E#8, 0] ∧ t.desc? 0 = none) :=
  ⟨⟨State.inv_of_check (by decide), reset_at_response _ _⟩,
    ⟨State.inv_of_check (by decide), reset_at_copy _ _⟩,
    ⟨State.inv_of_check (by decide), _, _, _, rfl, rfl, rfl, rfl, .inr ⟨rfl, _, _, rfl, rfl⟩, .inl rfl⟩,
    by decide⟩

/-! Requests. -/

theorem witness_RequestsShedReplayedStaleOrRefused :
    requestOf (.probe [5]) = some (0x01#8, 5 :: []) ∧
    (requestPart 1).RequestInSlot 0 (requestFrame 9 1) (([] : List Byte).length + 1) ∧
    4 ≤ (answering (List.replicate 4 (response false)) (requestPart 1)).management.responses.length ∧
    (answering (List.replicate 3 (response false)) (requestPart 1)).management.responses.length < 4 ∧
    (replayPart 1 5).management.replay =
      some ⟨(requestFrame 9 1).header.source, 5, ⟨1, 5, .ok, []⟩⟩ ∧
    ((6 : Byte) - 5).toNat = 1 ∧ ((132 : Byte) - 5).toNat = 127 ∧ ((133 : Byte) - 5).toNat = 128 ∧
    (resetting ⟨.flush, true, none⟩ (requestPart 1)).management.pendingReset ≠ none ∧
    (requestPart 1).management.replay = none :=
  ⟨rfl, request_in_slot 1 (by decide), by decide, by decide, rfl, by decide, by decide, by decide, by decide,
    rfl⟩

/-- The request is taken: the slot's sequence is at a distance of 128. -/
theorem takes_at_128 (n : Nat) : (replayPart n 133).Takes (requestFrame 9 n).header.source 5 :=
  ⟨Nat.succ_pos 3, rfl, fun r hr _ => by cases hr; exact Nat.le_refl 128⟩

theorem replay_in_slot (n : Nat) (h : headerLength (requestFrame 9 n).header = n + 3) :
    (replayPart n 133).RequestInSlot 0 (requestFrame 9 n) n := ⟨rfl, slot_desc _ _, rfl, h⟩

/-- The same part with no claim, and with another holder. -/
def heldBy (c : Option Claim) (s : State) : State :=
  { s with management := { s.management with claim := c } }

theorem takes_any_claim (n : Nat) (c : Option Claim) :
    (heldBy c (replayPart n 133)).Takes (requestFrame 9 n).header.source 5 :=
  ⟨Nat.succ_pos 3, rfl, fun r hr _ => by cases hr; exact Nat.le_refl 128⟩

theorem slot_any_claim (n : Nat) (c : Option Claim) (h : headerLength (requestFrame 9 n).header = n + 3) :
    (heldBy c (replayPart n 133)).RequestInSlot 0 (requestFrame 9 n) n := ⟨rfl, slot_desc _ _, rfl, h⟩

/-- A request of two payload bytes, its check alone, being received. -/
def checkAlone : Descriptor := frame .request (hdr 9 3 0x20 0 0 2) [0] .receiving none

theorem witness_TakenRequestsAreCheckedInOrder :
    ((slot checkAlone).receiver.reception = .receiving 0 ∧ (slot checkAlone).desc? 0 = some checkAlone ∧
      checkAlone.role = .request ∧ headerLength checkAlone.header = 2) ∧
    (requestOf (.commit []) = some (0x06#8, []) ∧
      (requestPart 0).RequestInSlot 0 (requestFrame 9 0) 0) ∧
    (requestOf (.unknownKind 0x10#8 [5]) = some (0x10#8, 5 :: []) ∧ argumentBytes 0x10#8 = none ∧
      (replayPart 1 133).RequestInSlot 0 (requestFrame 9 1) (([] : List Byte).length + 1) ∧
      (replayPart 1 133).Takes (requestFrame 9 1).header.source 5) ∧
    (requestOf (.commit [5]) = some (0x06#8, 5 :: []) ∧
      argumentBytes 0x06#8 = some ([] : List Byte).length ∧ argumentBytes 0x02#8 = some 1 ∧
      needsClaim 0x06#8 = true ∧ (heldBy none (replayPart 1 133)).management.claim = none ∧
      (heldBy (some ⟨4, 0⟩) (replayPart 1 133)).management.claim = some ⟨4, 0⟩ ∧
      (heldBy (some ⟨4, 0⟩) (replayPart 1 133)).Takes (requestFrame 9 1).header.source 5 ∧
      (heldBy (some ⟨4, 0⟩) (replayPart 1 133)).RequestInSlot 0 (requestFrame 9 1) 1 ∧
      (4 : Byte) ≠ (requestFrame 9 1).header.source ∧ argumentBytes 0x0E#8 = some 2) :=
  ⟨⟨rfl, slot_desc _ _, rfl, by decide⟩, ⟨rfl, request_in_slot 0 (by decide)⟩,
    ⟨rfl, rfl, replay_in_slot 1 (by decide), takes_at_128 1⟩, rfl, rfl,
    rfl, rfl, rfl, rfl, takes_any_claim 1 _, slot_any_claim 1 _ (by decide), by decide, rfl⟩

theorem witness_ReadingRequestsAnswerWithTheState :
    (replayPart 1 133).Takes (requestFrame 9 1).header.source 5 ∧
    (replayPart 1 133).RequestInSlot 0 (requestFrame 9 1) 1 ∧
    (replayPart 2 133).Takes (requestFrame 9 2).header.source 5 ∧
    (replayPart 2 133).RequestInSlot 0 (requestFrame 9 2) 2 ∧
    (replayPart 3 133).Takes (requestFrame 9 3).header.source 5 ∧
    (replayPart 3 133).RequestInSlot 0 (requestFrame 9 3) 3 ∧
    (replayPart 3 133).table.copyInFlight = false ∧ (2 : Byte) ≠ 0 ∧ (2 : Byte) ≠ 1 :=
  ⟨takes_at_128 1, replay_in_slot 1 (by decide), takes_at_128 2, replay_in_slot 2 (by decide), takes_at_128 3,
    replay_in_slot 3 (by decide), rfl, by decide, by decide⟩

/-- The copy is in flight. -/
def copying (s : State) : State := { s with table := { s.table with copyInFlight := true } }

theorem takes_copying (n : Nat) : (copying (replayPart n 133)).Takes (requestFrame 9 n).header.source 5 :=
  ⟨Nat.succ_pos 3, rfl, fun r hr _ => by cases hr; exact Nat.le_refl 128⟩

theorem slot_copying (n : Nat) (h : headerLength (requestFrame 9 n).header = n + 3) :
    (copying (replayPart n 133)).RequestInSlot 0 (requestFrame 9 n) n := ⟨rfl, slot_desc _ _, rfl, h⟩

theorem witness_ReadingRequestsDuringTheCopy :
    (copying (replayPart 3 133)).Takes (requestFrame 9 3).header.source 5 ∧
    (copying (replayPart 3 133)).RequestInSlot 0 (requestFrame 9 3) 3 ∧
    (copying (replayPart 3 133)).table.copyInFlight = true :=
  ⟨takes_copying 3, slot_copying 3 (by decide), rfl⟩

theorem witness_TheClaimIsGivenReleasedAndEnds (c : Option Claim) :
    (heldBy c (replayPart 2 133)).Takes (requestFrame 9 2).header.source 5 ∧
    (heldBy c (replayPart 2 133)).RequestInSlot 0 (requestFrame 9 2) 2 ∧
    (heldBy c (replayPart 1 133)).Takes (requestFrame 9 1).header.source 5 ∧
    (heldBy c (replayPart 1 133)).RequestInSlot 0 (requestFrame 9 1) 1 ∧
    (requestFrame 9 2).header.source ≠ 0 ∧ (requestFrame 9 2).header.source ≠ 255 ∧
    (heldBy c (replayPart 1 133)).management.claim = c :=
  ⟨takes_any_claim 2 c, slot_any_claim 2 c (by decide), takes_any_claim 1 c, slot_any_claim 1 c (by decide),
    by decide, by decide, rfl⟩

/-- A CLAIM from the address 255, and the claim of a part at the end of its lease. -/
theorem witness_TheClaimRefusedAndEnding :
    (slot (frame .request (hdr 9 255 0x20 0 0 5) [0] .receiving none)).Takes 255 5 ∧
    (slot (frame .request (hdr 9 255 0x20 0 0 5) [0] .receiving none)).RequestInSlot 0
      (frame .request (hdr 9 255 0x20 0 0 5) [0] .receiving none) 2 ∧
    (heldBy (some ⟨4, 0⟩) State.reset).management.claim = some ⟨4, 0⟩ ∧
    State.reset.now < Config.seconds 255 ∧ Config.seconds 255 ≤ State.reset.now + Config.seconds 255 :=
  ⟨⟨by decide, rfl, fun r hr _ => by cases hr⟩, ⟨rfl, rfl, rfl, by decide⟩, rfl, by decide, by decide⟩

theorem witness_TheFlowTableIsWrittenAndCommitted :
    (replayPart 9 133).Takes (requestFrame 9 9).header.source 5 ∧
    (replayPart 9 133).RequestInSlot 0 (requestFrame 9 9) 9 ∧
    (replayPart 9 133).management.claim = some ⟨3, Config.seconds 5⟩ ∧
    (3 : Byte) = (requestFrame 9 9).header.source ∧ (replayPart 9 133).table.copyInFlight = false ∧
    decodeEntry [4, 1, 0, 4, 0, 9, 1] = none ∧
    decodeEntry [4, 1, 0, 4, 0, 10, 1] = some (stripFree .mark) ∧
    (copying (replayPart 9 133)).Takes (requestFrame 9 9).header.source 5 ∧
    (copying (replayPart 9 133)).RequestInSlot 0 (requestFrame 9 9) 9 ∧
    (replayPart 1 133).Takes (requestFrame 9 1).header.source 5 ∧
    (replayPart 1 133).RequestInSlot 0 (requestFrame 9 1) 1 ∧
    (copying State.reset).table.copyInFlight = true :=
  ⟨takes_at_128 9, replay_in_slot 9 (by decide), rfl, by decide, rfl, by decide, by decide, takes_copying 9,
    slot_copying 9 (by decide), takes_at_128 1, replay_in_slot 1 (by decide), rfl⟩

theorem witness_CountersTimingAndResetRequestsTakeEffect :
    (replayPart 3 133).Takes (requestFrame 9 3).header.source 5 ∧
    (replayPart 3 133).RequestInSlot 0 (requestFrame 9 3) 3 ∧
    (replayPart 3 133).management.claim = some ⟨3, Config.seconds 5⟩ ∧
    (3 : Byte) = (requestFrame 9 3).header.source ∧ (2 : Byte) ≠ 0 ∧ (2 : Byte) ≠ 1 ∧
    (replayPart 8 133).Takes (requestFrame 9 8).header.source 5 ∧
    (replayPart 8 133).RequestInSlot 0 (requestFrame 9 8) 8 ∧
    decodeTiming [0, 50, 1, 2, 0, 10, 1] = some ⟨50, 1, 2, 10, 1⟩ ∧
    decodeTiming [0, 50, 2, 2, 0, 10, 1] = none ∧
    (replayPart 2 133).Takes (requestFrame 9 2).header.source 5 ∧
    (replayPart 2 133).RequestInSlot 0 (requestFrame 9 2) 2 ∧ (3 : Byte) ≠ 1 ∧ (3 : Byte) ≠ 2 :=
  ⟨takes_at_128 3, replay_in_slot 3 (by decide), rfl, by decide, by decide, by decide, takes_at_128 8,
    replay_in_slot 8 (by decide), by decide, by decide, takes_at_128 2, replay_in_slot 2 (by decide), by decide,
    by decide⟩

theorem witness_SetEventsWithdrawsAndIssues :
    (replayPart 3 133).Takes (requestFrame 9 3).header.source 5 ∧
    (replayPart 3 133).RequestInSlot 0 (requestFrame 9 3) 3 ∧
    (replayPart 3 133).management.claim = some ⟨3, Config.seconds 5⟩ ∧
    (3 : Byte) = (requestFrame 9 3).header.source ∧ 16 ≤ (16 : Byte).toNat ∧ (15 : Byte).toNat < 16 :=
  ⟨takes_at_128 3, replay_in_slot 3 (by decide), rfl, by decide, by decide, by decide⟩

/-- HEADER_FAULT's entry, at each of the two remainders. -/
theorem witness_NoticesAreAcknowledgedAndRetried :
    (noticePart (replayPart 3 133) (.exhausted 7 2)).Takes (requestFrame 9 3).header.source 5 ∧
    (noticePart (replayPart 3 133) (.exhausted 7 2)).RequestInSlot 0 (requestFrame 9 3) 3 ∧
    (∀ c, (noticePart (replayPart 3 133) (.exhausted 7 2)).management.claim = some c →
      c.holder = (requestFrame 9 3).header.source) ∧
    12 ≤ (12 : Byte).toNat ∧ (0 : Byte) = byteOf (classNumber .headerFault).val ∧
    ((noticePart (replayPart 3 133) (.exhausted 7 2)).classState .headerFault).entry.sequence? = some 7 ∧
    ((noticePart (replayPart 3 133) (.exhausted 7 2)).classState .headerFault).raw - 2 = 1 ∧
    ((noticePart (replayPart 3 133) (.exhausted 7 3)).classState .headerFault).raw - 3 = 0 ∧
    ((noticePart State.reset (.awaitingAck 7 2 2 5)).classState .headerFault).entry = .awaitingAck 7 2 2 5 ∧
    ((noticePart State.reset (.awaitingAck 7 2 3 5)).classState .headerFault).entry = .awaitingAck 7 2 3 5 :=
  ⟨⟨by decide, rfl, fun r hr _ => by cases hr; decide⟩, ⟨rfl, rfl, rfl, by decide⟩,
    fun c hc => by cases hc; decide, by decide, by decide, by decide, by decide, by decide, rfl, rfl⟩

theorem witness_FormatsDecodeAsTheyAreEncoded :
    (stripFree .mark).valid = true ∧ decodeEntry [4, 1, 0, 4, 0, 10, 1] = some (stripFree .mark) ∧
    Timing.default.valid = true ∧ decodeTiming [0, 50, 1, 2, 0, 10, 1] = some ⟨50, 1, 2, 10, 1⟩ ∧
    (⟨.check, .t1, .free, 16, 65535, .mark⟩ : FlowEntry).valid = true ∧
    (⟨.check, .t1, .free, 17, 10, .mark⟩ : FlowEntry).valid = false ∧
    (⟨.forward, .t1, .free, 1, 10, .mark⟩ : FlowEntry).valid = false ∧
    (⟨10000, 7, 8, 65535, 255⟩ : Timing).valid = true ∧ (⟨55, 1, 2, 10, 1⟩ : Timing).valid = false ∧
    (⟨50, 2, 2, 10, 1⟩ : Timing).valid = false := by decide

end Sys2Proof.Tests
end

section
/-! The calculus of the frame conditions: `State.SameBut` composes, and each named update of the state
keeps every piece but the ones it writes. -/

namespace Sys2Proof.Machine

/-! ### Composition -/

theorem State.samePiece.trans {s t u : State} {p : Piece} (hst : s.samePiece t p)
    (htu : t.samePiece u p) : s.samePiece u p := by
  cases p
  case cells | descriptors | chains | flowCounters => exact fun x => (htu x).trans (hst x)
  case freeLists => exact ⟨htu.1.trans hst.1, htu.2.trans hst.2⟩
  case cadence =>
    obtain ⟨due, debt, overdue, seq⟩ := hst
    obtain ⟨due', debt', overdue', seq'⟩ := htu
    exact ⟨due'.trans due, debt'.trans debt, overdue'.trans overdue, seq'.trans seq⟩
  all_goals exact Eq.trans htu hst

theorem State.samePiece.refl (s : State) (p : Piece) : s.samePiece s p := by
  cases p <;> simp [State.samePiece]

/-- What two events in a row change is what the one or the other changes. -/
theorem State.SameBut.trans {s t u : State} {l m : List Piece} (hst : s.SameBut t l)
    (htu : t.SameBut u m) : s.SameBut u (l ++ m) := by
  refine ⟨htu.1.trans hst.1, fun p hp => ?_⟩
  rw [List.mem_append, not_or] at hp
  exact (hst.2 p hp.1).trans (htu.2 p hp.2)

theorem State.SameBut.mono {s t : State} {l m : List Piece} (h : s.SameBut t l) (hlm : l ⊆ m) :
    s.SameBut t m :=
  ⟨h.1, fun p hp => h.2 p fun hl => hp (hlm hl)⟩

theorem State.SameBut.refl (s : State) (l : List Piece) : s.SameBut s l :=
  ⟨rfl, fun p _ => .refl s p⟩

/-! ### The pieces each update writes -/

theorem State.settle_sameBut (s : State) : s.SameBut s.settle [.holdWait] :=
  ⟨rfl, fun p hp => by cases p <;> simp [State.samePiece] at hp ⊢⟩

/-- A command whose event ends here changes what its handler changed, and the hold-wait timer. -/
theorem State.SameBut.settle {s t : State} {l : List Piece} (h : s.SameBut t l) :
    s.SameButTimer t.settle l :=
  (h.trans t.settle_sameBut).mono (by simp)

theorem State.setReception_sameBut (s : State) (r : Reception) :
    s.SameBut (s.setReception r) [.receiver] :=
  ⟨rfl, fun p hp => by cases p <;> simp [State.samePiece] at hp ⊢⟩

theorem State.endReception_sameBut (s : State) (r : Reception) :
    s.SameBut (s.endReception r) [.receiver, .codeUnit] :=
  ⟨rfl, fun p hp => by cases p <;> simp [State.samePiece] at hp ⊢⟩

theorem State.countFlow_sameBut (s : State) (f : Byte) (c : FlowCounter) (n : Nat) :
    s.SameBut (s.countFlow f c n) [.flowCounters] :=
  ⟨rfl, fun p hp => by cases p <;> simp [State.samePiece] at hp ⊢⟩

theorem State.toForward_sameBut (s : State) (d : DescId) :
    s.SameBut (s.toForward d) [.descriptors, .forwardQueue] :=
  ⟨rfl, fun p hp => by cases p <;> simp [State.samePiece] at hp ⊢⟩

/-- The release of a frame that is not DATA counts nothing. -/
theorem State.releaseDropped_sameBut (s : State) (d : DescId) (fr : Descriptor)
    (hd : s.desc? d = some fr) (hrole : fr.isData = false) :
    s.SameBut (s.releaseDropped d) [.freeLists, .descriptors, .holdOut] := by
  refine ⟨by simp, fun p hp => ?_⟩
  obtain ⟨_, _, counted⟩ := s.releaseDropped_freed d fr hd
  cases p
  case flowCounters => exact fun f => by simpa [Descriptor.countIf, hrole] using counted f
  all_goals simp [State.samePiece] at hp ⊢

theorem State.storePayload_sameBut (s : State) (fr : Descriptor) (payload : List Byte) :
    s.SameBut (s.storePayload fr payload) [.cells] :=
  ⟨rfl, fun p hp => by cases p <;> simp [State.samePiece] at hp ⊢⟩

theorem State.giveStamp_sameBut (s : State) (d : DescId) :
    s.SameBut (s.giveStamp d) [.descriptors, .nextStamp] :=
  ⟨rfl, fun p hp => by cases p <;> simp [State.samePiece, State.chain] at hp ⊢⟩

theorem State.codeUnit_sameBut (s : State) (c : CodeUnit) :
    s.SameBut { s with codeUnit := c } [.codeUnit] :=
  ⟨rfl, fun p hp => by
    cases p <;> simp [State.samePiece, State.desc?, State.chain, State.flowCounters] at hp ⊢⟩

theorem State.arrivePayload_sameBut (s : State) (d : DescId) (fr : Descriptor) (payload : List Byte) :
    s.SameBut (s.arrivePayload d fr payload) [.cells, .codeUnit, .descriptors, .nextStamp] :=
  ((s.storePayload_sameBut fr payload).trans (State.codeUnit_sameBut _ _)).trans
    (State.giveStamp_sameBut _ d)

end Sys2Proof.Machine
end

section
/-! The course of a taken request, once for all kinds: its frame's payload arrives, the owning block
executes it, its answer is recorded, and its frame ends (R14, R125 to R134). -/

namespace Sys2Proof.Machine

/-! ### The end of the frame -/

/-- The pieces that the end of a request's frame changes, whatever the request. -/
def framePieces : List Piece :=
  [.receiver, .codeUnit, .cells, .freeLists, .descriptors, .holdOut, .nextStamp, .forwardQueue]

/-- The frame of the receive slot has arrived with the payload given, and is still in the slot. What else
may have changed beside it is left open. -/
structure State.FrameArrived (s w : State) (d : DescId) (fr : Descriptor) (payload : List Byte) :
    Prop where
  receiver : w.receiver = s.receiver
  nextStamp : w.order.nextStamp = s.order.nextStamp + 1
  desc : w.desc? d = some { fr with stamp := some s.order.nextStamp }
  others : s.OtherDescs w d
  bytes : s.PayloadStored w fr payload
  store : s.StoreKept w
  forwardQueue : w.egress.forwardQueue = s.egress.forwardQueue

/-- The end of a request's frame after the management unit has decided (R14, R15). -/
def State.closeRequest (s : State) (d : DescId) (fr : Descriptor) : State :=
  ((if fr.header.destination = Config.broadcast then s.toForward d
    else s.releaseDropped d).endReception .between).settle

@[simp] theorem State.closeRequest_management (s : State) (d : DescId) (fr : Descriptor) :
    (s.closeRequest d fr).management = s.management := by
  unfold State.closeRequest
  split <;> simp

/-- A stored payload stays stored while every byte reads the same. -/
theorem State.PayloadStored.of_sameReads {s t u : State} {fr : Descriptor} {bytes : List Byte}
    (h : s.PayloadStored t fr bytes)
    (hu : ∀ a, readByte u.store.memory a = readByte t.store.memory a) :
    s.PayloadStored u fr bytes := by
  have reads : readPayload u.store.memory = readPayload t.store.memory := by
    funext cells n
    simp [readPayload, readFrameByte, hu]
  exact ⟨fun a ha => (hu a).trans (h.others a ha), fun hm hc hl => reads ▸ h.stored hm hc hl⟩

theorem State.arrivePayload_frameArrived (s : State) (d : DescId) (fr : Descriptor)
    (payload : List Byte) (hd : s.desc? d = some fr) :
    s.FrameArrived (s.arrivePayload d fr payload) d fr payload := by
  have hdesc : ∀ e, (s.arrivePayload d fr payload).desc? e =
      if e = d then (s.desc? d).map (fun fr => { fr with stamp := some s.order.nextStamp })
      else s.desc? e := fun e => State.giveStamp_desc? _ d e
  exact {
    receiver := rfl
    nextStamp := rfl
    desc := by simp [hdesc, hd]
    others := fun e he => by simp [hdesc, he]
    bytes := (s.storePayload_stored fr payload).of_sameReads fun _ => rfl
    store := ⟨rfl, rfl, rfl⟩
    forwardQueue := rfl }

/-- An execution that leaves the frame's own pieces alone leaves the frame arrived. -/
theorem State.FrameArrived.of_sameBut {s u w : State} {d : DescId} {fr : Descriptor}
    {payload : List Byte} {changed : List Piece} (hu : s.FrameArrived u d fr payload)
    (hw : u.SameBut w changed) (hframe : ∀ p ∈ framePieces, p ∉ changed) :
    s.FrameArrived w d fr payload := by
  have kept : ∀ p ∈ framePieces, u.samePiece w p := fun p hp => hw.2 p (hframe p hp)
  have hdesc : ∀ e, w.desc? e = u.desc? e := kept .descriptors (by decide)
  have hfree : w.store.freeCells = u.store.freeCells ∧ w.store.freeDescs = u.store.freeDescs :=
    kept .freeLists (by decide)
  obtain ⟨hdescs, hcells, hholdOut⟩ := hu.store
  exact {
    receiver := Eq.trans (kept .receiver (by decide)) hu.receiver
    nextStamp := Eq.trans (kept .nextStamp (by decide)) hu.nextStamp
    desc := (hdesc d).trans hu.desc
    others := fun e he => (hdesc e).trans (hu.others e he)
    bytes := hu.bytes.of_sameReads (kept .cells (by decide))
    store := ⟨hfree.2.trans hdescs, hfree.1.trans hcells,
      Eq.trans (kept .holdOut (by decide)) hholdOut⟩
    forwardQueue := Eq.trans (kept .forwardQueue (by decide)) hu.forwardQueue }

/-- The end of an arrived request frame, in full: the slot is empty, and the frame is in the forward queue
or freed. -/
theorem State.FrameArrived.closeRequest_ended {s w : State} {d : DescId} {fr : Descriptor}
    {payload : List Byte} (hw : s.FrameArrived w d fr payload) :
    s.RequestEnded (w.closeRequest d fr) d fr payload := by
  obtain ⟨hdescs, hcells, hholdOut⟩ := hw.store
  by_cases hb : fr.header.destination = Config.broadcast
  · exact {
      slot := ⟨by simp [State.closeRequest, hb, hw.receiver], rfl,
        by simp [State.closeRequest, hb, hw.nextStamp]⟩
      others := fun e he => by simp [State.closeRequest, hb, he, hw.others e he]
      bytes := hw.bytes.of_sameReads fun a => by simp [State.closeRequest, hb]
      own := fun hne => absurd hb hne
      broadcast := fun _ => ⟨by simp [State.closeRequest, hb, hw.desc],
        by simp [State.closeRequest, hb, hw.forwardQueue],
        by simpa [State.StoreKept, State.closeRequest, hb] using hw.store⟩ }
  · obtain ⟨freed, _, _⟩ := w.releaseDropped_freed d _ hw.desc
    exact {
      slot := ⟨by simp [State.closeRequest, hb, hw.receiver], rfl,
        by simp [State.closeRequest, hb, hw.nextStamp]⟩
      others := fun e he => by simp [State.closeRequest, hb, he, hw.others e he]
      bytes := hw.bytes.of_sameReads fun a => by simp [State.closeRequest, hb]
      own := fun _ => ⟨⟨by simp [State.closeRequest, hb],
          by simp [State.closeRequest, hb, freed.descs, hdescs],
          by simp [State.closeRequest, hb, freed.cells, hcells],
          by simp [State.closeRequest, hb, freed.holdOut, hholdOut]⟩,
        by simp [State.closeRequest, hb, hw.forwardQueue]⟩
      broadcast := fun heq => absurd heq hb }

/-- The end of a request's frame changes the frame's pieces and the hold-wait timer alone. -/
theorem State.closeRequest_sameBut (w : State) (d : DescId) (fr fr' : Descriptor)
    (hd : w.desc? d = some fr') (hrole : fr'.role = .request) :
    w.SameButTimer (w.closeRequest d fr) framePieces := by
  have hdata : fr'.isData = false := by simp [Descriptor.isData, hrole]
  unfold State.closeRequest
  split
  · exact (((w.toForward_sameBut d).trans (State.endReception_sameBut _ _)).mono (by decide)).settle
  · exact (((w.releaseDropped_sameBut d fr' hd hdata).trans
      (State.endReception_sameBut _ _)).mono (by decide)).settle

/-! ### Acceptance and execution -/

/-- The part with the answer of a taken request in the replay slot and at the tail of the response queue
(R130, R134). -/
def State.recordAnswer (s : State) (address kind sequence : Byte) (a : Answer) : State :=
  let r : Response := ⟨kind, sequence, a.status, a.results⟩
  { s with management := { s.management with
      replay := some ⟨address, sequence, r⟩
      responses := s.management.responses ++ [⟨address, r, a.resetMark⟩] } }

@[simp] theorem State.recordAnswer_management (s : State) (address kind sequence : Byte) (a : Answer) :
    (s.recordAnswer address kind sequence a).management = { s.management with
      replay := some ⟨address, sequence, ⟨kind, sequence, a.status, a.results⟩⟩
      responses := s.management.responses ++
        [⟨address, ⟨kind, sequence, a.status, a.results⟩, a.resetMark⟩] } := rfl

theorem State.recordAnswer_sameBut (s : State) (address kind sequence : Byte) (a : Answer) :
    s.SameBut (s.recordAnswer address kind sequence a) [.replay, .responses] :=
  ⟨rfl, fun p hp => by
    cases p <;> simp [State.recordAnswer, State.samePiece, State.desc?, State.chain,
      State.flowCounters] at hp ⊢⟩

theorem State.take_eq (s : State) (rq : Requester) (kind sequence : Byte) (h : Option Handler)
    (args : List Byte) :
    s.take rq kind sequence h args =
      (s.execute rq h args).1.recordAnswer rq.address kind sequence (s.execute rq h args).2 := rfl

theorem State.Takes.course {s : State} {address sequence : Byte} (h : s.Takes address sequence) :
    s.course address sequence = .taken := by
  have room : ¬ Config.responseSlots ≤ s.management.responses.length := Nat.not_le.mpr h.room
  simp only [State.course, room, if_false, h.noReset]
  cases hr : s.management.replay with
  | none => rfl
  | some r =>
    by_cases ha : r.requester = address
    · have far : 128 ≤ (r.sequence - sequence).toNat := h.fresh r hr ha
      have hne : r.sequence ≠ sequence := by
        rintro rfl
        simp at far
      have hstale : ¬ sequenceDistance r.sequence sequence ≤ 127 := by
        unfold sequenceDistance
        omega
      simp [ha, hne, hstale]
    · simp [ha]

/-- The management unit reads kind, sequence and arguments off a request's payload. -/
theorem State.manage_requestPayload (s : State) (rq : Requester) (h : Option Handler)
    (kind sequence : Byte) (args : List Byte) :
    s.manage rq h (requestPayload kind (sequence :: args)) = s.accept rq kind sequence h args := by
  simp [State.manage, requestPayload, withPayloadCheck, bytes16]

theorem requestPayload_length (kind : Byte) (body : List Byte) :
    (requestPayload kind body).length = body.length + 3 := by
  simp [requestPayload, withPayloadCheck, bytes16]

/-- The holder passes the claim check (R135). -/
theorem claimRefusal_of_holder (need : ClaimNeed) (s : State) (c : Claim)
    (hc : s.management.claim = some c) : claimRefusal need c.holder s = none := by
  cases need <;> simp [claimRefusal, hc]

/-- A request of the holder with the argument bytes of its kind is executed by the owning block. -/
theorem State.execute_of_holder (s : State) (rq : Requester) (h : Handler) (args : List Byte)
    (c : Claim) (hc : s.management.claim = some c) (hh : c.holder = rq.address)
    (hlen : args.length = h.argCount) : s.execute rq (some h) args = h.run rq args s := by
  simp [State.execute, hlen, ← hh, claimRefusal_of_holder h.need s c hc]

/-! ### The command -/

/-- A request row is the frame-end of a REQUEST with the handler of its kind byte. -/
theorem exec_requestOf (i : Instr) (s : State) (kind : Byte) (body : List Byte)
    (hi : requestOf i = some (kind, body)) :
    exec i s = requestFrameEnd kind body (handlerFor kind) s := by
  cases i <;> simp only [requestOf, Option.some.injEq, Prod.mk.injEq, reduceCtorEq] at hi
  all_goals obtain ⟨rfl, rfl⟩ := hi; rfl

/-- The requester that a request's frame names (R125, R146). -/
def requesterOf (d : DescId) (fr : Descriptor) : Requester :=
  ⟨fr.header.source, d, decide (fr.header.destination = Config.broadcast)⟩

/-- The frame-end of a request in the receive slot that acceptance takes: arrival, execution, answer, end of
the frame. -/
theorem requestFrameEnd_taken (s : State) (d : DescId) (fr : Descriptor) (kind sequence : Byte)
    (args : List Byte) (h : Option Handler) (v : State) (a : Answer)
    (hslot : s.RequestInSlot d fr (args.length + 1)) (htakes : s.Takes fr.header.source sequence)
    (hrun : (s.arrivePayload d fr (requestPayload kind (sequence :: args))).execute
      (requesterOf d fr) h args = (v, a)) :
    requestFrameEnd kind (sequence :: args) h s =
      .next ((v.recordAnswer fr.header.source kind sequence a).closeRequest d fr) := by
  have hlen : (requestPayload kind (sequence :: args)).length = headerLength fr.header := by
    rw [requestPayload_length, hslot.length, List.length_cons]
  have hcourse : (s.arrivePayload d fr (requestPayload kind (sequence :: args))).course
      fr.header.source sequence = .taken := htakes.course
  have haccept : (s.arrivePayload d fr (requestPayload kind (sequence :: args))).accept
      (requesterOf d fr) kind sequence h args =
        v.recordAnswer fr.header.source kind sequence a := by
    simp only [State.accept, requesterOf] at hrun ⊢
    rw [hcourse]
    simp only [State.take_eq, hrun]
  simp only [requestFrameEnd, hslot.slot, hslot.desc, hslot.role, hlen, and_self, if_true,
    State.endRequest, State.manage_requestPayload]
  rw [requesterOf] at haccept
  simp only [haccept, State.done, State.closeRequest, decide_eq_true_eq]

/-- A request row that acceptance takes has been answered, and what its execution changed is what the command
changed beside the answer and the frame (R130, R134). -/
theorem exec_taken_answered {i : Instr} {s v : State} {d : DescId} {fr : Descriptor}
    {kind sequence : Byte} {args : List Byte} {a : Answer} {changed : List Piece}
    (hi : requestOf i = some (kind, sequence :: args))
    (hslot : s.RequestInSlot d fr (args.length + 1)) (htakes : s.Takes fr.header.source sequence)
    (hrun : (s.arrivePayload d fr (requestPayload kind (sequence :: args))).execute
      (requesterOf d fr) (handlerFor kind) args = (v, a))
    (hv : (s.arrivePayload d fr (requestPayload kind (sequence :: args))).SameBut v changed)
    (hfree : ∀ p ∈ .replay :: requestPieces, p ∉ changed) :
    ∃ t, exec i s = .next t ∧ v.SameButTimer t (.replay :: requestPieces) ∧
      s.Answered t d fr kind sequence args a.status a.results changed a.resetMark := by
  have harrived := s.arrivePayload_frameArrived d fr (requestPayload kind (sequence :: args)) hslot.desc
  have hframe : ∀ p ∈ framePieces, p ∉ changed := fun p hp =>
    hfree p (List.mem_cons_of_mem _ (by revert p; decide))
  have hresponses : v.management.responses = s.management.responses :=
    hv.2 .responses (hfree _ (by decide))
  have hrecord := v.recordAnswer_sameBut fr.header.source kind sequence a
  have hrecorded := (harrived.of_sameBut hv hframe).of_sameBut hrecord (by decide)
  have hclose := State.closeRequest_sameBut _ d fr _ hrecorded.desc hslot.role
  refine ⟨_, (exec_requestOf i s kind _ hi).trans
    (requestFrameEnd_taken s d fr kind sequence args _ v a hslot htakes hrun),
    (hrecord.trans hclose).mono (by decide), ?_⟩
  exact {
    replay := by simp
    queued := by simp [hresponses, answerOf]
    ended := hrecorded.closeRequest_ended
    frame := (((s.arrivePayload_sameBut d fr _).trans hv).trans (hrecord.trans hclose)).mono
      (fun p hp => by simp [framePieces, requestPieces] at hp ⊢; tauto) }

/-- A request of the holder whose owning block gives the part `v` and the answer `a` is answered so, and what
the block changed is what the command changed beside the answer and the frame (R134, R135, R140). -/
theorem exec_holder_answered {i : Instr} {s v : State} {d : DescId} {fr : Descriptor}
    {kind sequence : Byte} {args : List Byte} {a : Answer} {changed : List Piece} {c : Claim}
    {h : Handler}
    (hi : requestOf i = some (kind, sequence :: args)) (hkind : handlerFor kind = some h)
    (hlen : args.length = h.argCount)
    (hslot : s.RequestInSlot d fr (args.length + 1)) (htakes : s.Takes fr.header.source sequence)
    (hclaim : s.management.claim = some c) (hholder : c.holder = fr.header.source)
    (hrun : h.run (requesterOf d fr) args
      (s.arrivePayload d fr (requestPayload kind (sequence :: args))) = (v, a))
    (hv : (s.arrivePayload d fr (requestPayload kind (sequence :: args))).SameBut v changed)
    (hfree : ∀ p ∈ .replay :: requestPieces, p ∉ changed) :
    ∃ t, exec i s = .next t ∧ v.SameButTimer t (.replay :: requestPieces) ∧
      s.Answered t d fr kind sequence args a.status a.results changed a.resetMark := by
  refine exec_taken_answered hi hslot htakes ?_ hv hfree
  rw [hkind]
  exact (State.execute_of_holder (s.arrivePayload d fr _) (requesterOf d fr) h args c hclaim hholder
    hlen).trans hrun

end Sys2Proof.Machine
end

section
/-! The flow table (chapter 03): its banks, WRITE ENTRY, COMMIT and the completion of the copy, and the frames
that a DISCARD entry drops. -/

namespace Sys2Proof.Machine

/-! ### The banks -/

@[simp] theorem BankId.other_ne (b : BankId) : b.other ≠ b := by cases b <;> decide

theorem BankId.other_eq (b : BankId) : b.other = if b = .bankA then .bankB else .bankA := by
  cases b <;> rfl

@[simp] theorem FlowTable.putBank_active (t : FlowTable) (b : BankId) (v : Vector FlowEntry 256) :
    (t.putBank b v).active = t.active := by cases b <;> rfl

@[simp] theorem FlowTable.putBank_generation (t : FlowTable) (b : BankId) (v : Vector FlowEntry 256) :
    (t.putBank b v).generation = t.generation := by cases b <;> rfl

@[simp] theorem FlowTable.putBank_copyInFlight (t : FlowTable) (b : BankId) (v : Vector FlowEntry 256) :
    (t.putBank b v).copyInFlight = t.copyInFlight := by cases b <;> rfl

@[simp] theorem FlowTable.bank_putBank (t : FlowTable) (b b' : BankId) (v : Vector FlowEntry 256) :
    (t.putBank b v).bank b' = if b' = b then v else t.bank b' := by
  cases b <;> cases b' <;> rfl

/-! ### Writing, swapping, copying -/

theorem FlowTable.stagedEntry_writeStaged (t : FlowTable) (f g : Byte) (e : FlowEntry) :
    (t.writeStaged f e).stagedEntry g = if g = f then e else t.stagedEntry g := by
  simp [FlowTable.stagedEntry, FlowTable.staged, FlowTable.writeStaged]

theorem FlowTable.activeEntry_writeStaged (t : FlowTable) (f g : Byte) (e : FlowEntry) :
    (t.writeStaged f e).activeEntry g = t.activeEntry g := by
  simp [FlowTable.activeEntry, FlowTable.staged, FlowTable.writeStaged, (BankId.other_ne _).symm]

/-- The swap makes the staged entries the active ones. -/
theorem FlowTable.activeEntry_swapped (t : FlowTable) (g : Byte) :
    t.swapped.activeEntry g = t.stagedEntry g := rfl

/-- After the completion either bank holds the active entries (R49). -/
theorem FlowTable.bank_copied (t : FlowTable) (b : BankId) : t.copied.bank b = t.bank t.active := by
  obtain ⟨entriesA, entriesB, active, generation, copyInFlight⟩ := t
  cases active <;> cases b <;> rfl

theorem FlowTable.copied_active (t : FlowTable) : t.copied.active = t.active := t.putBank_active _ _

theorem FlowTable.copied_generation (t : FlowTable) : t.copied.generation = t.generation :=
  t.putBank_generation _ _

theorem FlowTable.stagedEntry_copied (t : FlowTable) (g : Byte) :
    t.copied.stagedEntry g = t.activeEntry g := by
  rw [FlowTable.stagedEntry, FlowTable.bank_copied, FlowTable.activeEntry]

theorem FlowTable.activeEntry_copied (t : FlowTable) (g : Byte) :
    t.copied.activeEntry g = t.activeEntry g := by
  rw [FlowTable.activeEntry, FlowTable.bank_copied, FlowTable.activeEntry]

theorem State.table_sameBut (s : State) (table : FlowTable) :
    s.SameBut { s with table := table } [.table] :=
  ⟨rfl, fun p hp => by
    cases p <;> simp [State.samePiece, State.desc?, State.chain, State.flowCounters] at hp ⊢⟩

/-! ### WRITE ENTRY and COMMIT -/

theorem runWriteEntry_busy (rq : Requester) (f : Byte) (entry : List Byte) (s : State)
    (hcopy : s.table.copyInFlight = true) :
    runWriteEntry rq (f :: entry) s = (s, Answer.with .busy [busyCopy]) := by
  simp [runWriteEntry, hcopy]

theorem runWriteEntry_invalid (rq : Requester) (f : Byte) (entry : List Byte) (s : State)
    (hcopy : s.table.copyInFlight = false) (he : decodeEntry entry = none) :
    runWriteEntry rq (f :: entry) s = (s, Answer.bare .badArg) := by
  simp [runWriteEntry, hcopy, he]

theorem runWriteEntry_valid (rq : Requester) (f : Byte) (entry : List Byte) (s : State) (e : FlowEntry)
    (hcopy : s.table.copyInFlight = false) (he : decodeEntry entry = some e) :
    runWriteEntry rq (f :: entry) s =
      ({ s with table := s.table.writeStaged f e },
        Answer.with .ok (f :: bytes16 s.table.generation.toNat)) := by
  simp [runWriteEntry, hcopy, he, State.generationNat]

theorem runCommit_busy (rq : Requester) (args : List Byte) (s : State)
    (hcopy : s.table.copyInFlight = true) :
    runCommit rq args s = (s, Answer.with .busy [busyCopy]) := by
  simp [runCommit, hcopy]

theorem runCommit_idle (rq : Requester) (args : List Byte) (s : State)
    (hcopy : s.table.copyInFlight = false) :
    runCommit rq args s =
      ({ s with table := s.table.swapped },
        Answer.with .ok (bytes16 (s.table.generation + 1).toNat)) := by
  simp [runCommit, hcopy, State.generationNat, FlowTable.swapped]

section

variable {s : State} {d : DescId} {fr : Descriptor} {seq : Byte} {c : Claim}
  (htakes : s.Takes fr.header.source seq) (hclaim : s.management.claim = some c)
  (hholder : c.holder = fr.header.source)

include htakes hclaim hholder

/-- WRITE ENTRY of the holder while the copy is in flight. -/
theorem exec_writeEntry_busy {f : Byte} {entry : List Byte}
    (hentry : entry.length = 7) (hslot : s.RequestInSlot d fr 9)
    (hcopy : s.table.copyInFlight = true) :
    ∃ t, exec (.writeEntry (seq :: f :: entry)) s = .next t ∧
      s.Answered t d fr 0x05 seq (f :: entry) .busy [2] [] := by
  obtain ⟨t, hnext, _, hanswered⟩ := exec_holder_answered (i := .writeEntry (seq :: f :: entry))
    (h := writeEntryHandler) rfl rfl (congrArg (· + 1) hentry) (by simpa [hentry] using hslot) htakes
    hclaim hholder (runWriteEntry_busy (requesterOf d fr) f entry _ hcopy) (.refl _ []) (by simp)
  exact ⟨t, hnext, hanswered⟩

/-- WRITE ENTRY of the holder with an entry that is not valid. -/
theorem exec_writeEntry_invalid {f : Byte} {entry : List Byte}
    (hentry : entry.length = 7) (hslot : s.RequestInSlot d fr 9)
    (hcopy : s.table.copyInFlight = false) (he : decodeEntry entry = none) :
    ∃ t, exec (.writeEntry (seq :: f :: entry)) s = .next t ∧
      s.Answered t d fr 0x05 seq (f :: entry) .badArg [] [] := by
  obtain ⟨t, hnext, _, hanswered⟩ := exec_holder_answered (i := .writeEntry (seq :: f :: entry))
    (h := writeEntryHandler) rfl rfl (congrArg (· + 1) hentry) (by simpa [hentry] using hslot) htakes
    hclaim hholder (runWriteEntry_invalid (requesterOf d fr) f entry _ hcopy he) (.refl _ []) (by simp)
  exact ⟨t, hnext, hanswered⟩

/-- WRITE ENTRY of the holder with a valid entry: the table is the one written. -/
theorem exec_writeEntry_valid {f : Byte} {entry : List Byte} {e : FlowEntry}
    (hentry : entry.length = 7) (hslot : s.RequestInSlot d fr 9)
    (hcopy : s.table.copyInFlight = false) (he : decodeEntry entry = some e) :
    ∃ t, exec (.writeEntry (seq :: f :: entry)) s = .next t ∧ t.table = s.table.writeStaged f e ∧
      s.Answered t d fr 0x05 seq (f :: entry) .ok (f :: bytes16 s.table.generation.toNat) [.table] := by
  obtain ⟨t, hnext, hkept, hanswered⟩ := exec_holder_answered (i := .writeEntry (seq :: f :: entry))
    (h := writeEntryHandler) rfl rfl (congrArg (· + 1) hentry) (by simpa [hentry] using hslot) htakes
    hclaim hholder (runWriteEntry_valid (requesterOf d fr) f entry _ e hcopy he)
    (State.table_sameBut _ _) (by decide)
  exact ⟨t, hnext, hkept.2 .table (by decide), hanswered⟩

/-- COMMIT of the holder while the copy is in flight. -/
theorem exec_commit_busy (hslot : s.RequestInSlot d fr 1)
    (hcopy : s.table.copyInFlight = true) :
    ∃ t, exec (.commit [seq]) s = .next t ∧ s.Answered t d fr 0x06 seq [] .busy [2] [] := by
  obtain ⟨t, hnext, _, hanswered⟩ := exec_holder_answered (i := .commit [seq]) (h := commitHandler)
    rfl rfl rfl hslot htakes hclaim hholder (runCommit_busy (requesterOf d fr) [] _ hcopy)
    (.refl _ []) (by simp)
  exact ⟨t, hnext, hanswered⟩

/-- COMMIT of the holder with no copy in flight: the table is the one swapped. -/
theorem exec_commit_idle (hslot : s.RequestInSlot d fr 1)
    (hcopy : s.table.copyInFlight = false) :
    ∃ t, exec (.commit [seq]) s = .next t ∧ t.table = s.table.swapped ∧
      s.Answered t d fr 0x06 seq [] .ok (bytes16 (s.table.generation + 1).toNat) [.table] := by
  obtain ⟨t, hnext, hkept, hanswered⟩ := exec_holder_answered (i := .commit [seq])
    (h := commitHandler) rfl rfl rfl hslot htakes hclaim hholder
    (runCommit_idle (requesterOf d fr) [] _ hcopy) (State.table_sameBut _ _) (by decide)
  exact ⟨t, hnext, hkept.2 .table (by decide), hanswered⟩

end

/-- The completion of a copy in flight. -/
theorem exec_copyCompletion (s : State) (hcopy : s.table.copyInFlight = true) :
    exec .copyCompletion s = .next ({ s with table := s.table.copied } : State).settle := by
  simp [exec, execCopyCompletion, hcopy, State.done]

/-! ### DISCARD (R43) -/

/-- A DATA frame under a DISCARD entry is counted twice and skipped. -/
theorem exec_headerArrival_discard (s : State) (h : HeaderBytes)
    (hrec : s.receiver.reception = .beforeHeader) (hcheck : headerCheckPasses h = true)
    (hfate : fateOf s.nodeAddress h = .classified)
    (hdiscard : (s.table.activeEntry h.flow).action = .discard) :
    exec (.headerArrival h) s = .next
      (((s.countFlow h.flow .arrived 1).countFlow h.flow .dropped 1).setReception .skipping).settle := by
  simp [exec, execHeaderArrival, hrec, State.arriveHeader, hcheck, hfate, State.classify,
    State.snapshotOf, hdiscard, State.done]

/-- The end of a skip moves the receiver and counts nothing (R12). -/
theorem exec_skipEnd (s : State) (y : LineSymbol) (hrec : s.receiver.reception = .skipping) :
    exec (.skipEnd y) s = .next (s.setReception (afterSymbol y)).settle := by
  simp [exec, execSkipEnd, hrec, State.done]

/-- Two counts against one flow. -/
theorem State.countFlow_countFlow_counted (s : State) (f : Byte) (c c' : FlowCounter) (n n' : Nat) :
    s.FlowCounted ((s.countFlow f c n).countFlow f c' n') f
      (fun k => (k.count c n).count c' n') := by
  intro g
  by_cases hg : g = f <;> simp [hg]

end Sys2Proof.Machine

section

open Sys2Proof Sys2Proof.Machine

/-- Settles O56: the owning block's answer to each request, and the table it leaves, carried through the
common course of a taken request. -/
theorem theFlowTableIsWrittenAndCommitted : Obligations.TheFlowTableIsWrittenAndCommitted := by
  refine ⟨fun s d fr seq c htakes hclaim hholder =>
    ⟨fun f entry hentry hslot => ⟨fun hcopy => ?busyWrite, fun hcopy he => ?invalid,
      fun e hcopy he => ?written⟩, fun hslot => ⟨fun hcopy => ?busyCommit, fun hcopy => ?committed⟩⟩,
    fun s hcopy => ?completed⟩
  case busyWrite => exact exec_writeEntry_busy htakes hclaim hholder hentry hslot hcopy
  case invalid => exact exec_writeEntry_invalid htakes hclaim hholder hentry hslot hcopy he
  case written =>
    obtain ⟨t, hnext, htable, hanswered⟩ :=
      exec_writeEntry_valid htakes hclaim hholder hentry hslot hcopy he
    refine ⟨t, hnext, fun g => ?_, fun g => ?_, ?_, ?_, ?_, hanswered⟩ <;> rw [htable]
    · exact s.table.stagedEntry_writeStaged f g e
    · exact s.table.activeEntry_writeStaged f g e
    · exact s.table.putBank_active _ _
    · exact s.table.putBank_generation _ _
    · exact (s.table.putBank_copyInFlight _ _).trans hcopy
  case busyCommit => exact exec_commit_busy htakes hclaim hholder hslot hcopy
  case committed =>
    obtain ⟨t, hnext, htable, hanswered⟩ := exec_commit_idle htakes hclaim hholder hslot hcopy
    refine ⟨t, hnext, ?_, ?_, ?_, fun g => ?_, hanswered⟩ <;> rw [htable]
    · exact s.table.active.other_eq
    · rfl
    · rfl
    · exact s.table.activeEntry_swapped g
  case completed =>
    refine ⟨_, exec_copyCompletion s hcopy, fun g => ⟨?_, ?_⟩, ?_, ?_, ?_, ?_⟩
    · exact s.table.stagedEntry_copied g
    · exact s.table.activeEntry_copied g
    · exact s.table.copied_active
    · exact s.table.copied_generation
    · rfl
    · exact (s.table_sameBut _).settle

/-- Settles O27: the header arrival counts and skips, and the end of the skip moves the receiver alone. -/
theorem discardFramesAreDroppedAtHeaderArrival :
    Obligations.DiscardFramesAreDroppedAtHeaderArrival := by
  intro s h hrec hcheck hfate hdiscard
  refine ⟨_, exec_headerArrival_discard s h hrec hcheck hfate hdiscard, rfl, ?counted, ?frame,
    fun y _ => ⟨_, exec_skipEnd _ y rfl, (State.setReception_sameBut _ _).settle⟩⟩
  case counted => exact s.countFlow_countFlow_counted h.flow .arrived .dropped 1 1
  case frame =>
    exact ((((s.countFlow_sameBut _ _ _).trans (State.countFlow_sameBut _ _ _ _)).trans
      (State.setReception_sameBut _ _)).mono (by decide)).settle

end
end

section
/-! The symbol field (R54). The product is a sum of shifted copies, `timesAlpha` iterated on 01h gives every
non-zero symbol, and from these the field laws. -/

namespace Sys2Proof.Machine

/-! ### Maps that respect exclusive-or -/

theorem ite_xor_eq {w : Nat} (p : Bool) (x y : BitVec w) :
    (if p then x ^^^ y else x) = x ^^^ (if p then y else 0#w) := by
  cases p <;> simp

theorem ite_bne_eq {w : Nat} (p q : Bool) (y : BitVec w) :
    (if p ^^ q then y else 0#w) = (if p then y else 0#w) ^^^ (if q then y else 0#w) := by
  cases p <;> cases q <;> simp

/-- The exclusive-or of the elements that a test chooses. -/
def xorChosen {ι : Type} {w : Nat} (c : ι → Bool) (g : ι → BitVec w) (l : List ι) (acc : BitVec w) :
    BitVec w :=
  l.foldl (fun acc i => if c i then acc ^^^ g i else acc) acc

theorem xorChosen_cons {ι : Type} {w : Nat} (c : ι → Bool) (g : ι → BitVec w) (i : ι) (l : List ι)
    (acc : BitVec w) :
    xorChosen c g (i :: l) acc = xorChosen c g l (if c i then acc ^^^ g i else acc) := rfl

theorem xorChosen_map {ι : Type} {v w : Nat} {f : BitVec v → BitVec w}
    (hf : ∀ x y, f (x ^^^ y) = f x ^^^ f y) (c : ι → Bool) (g : ι → BitVec v) (l : List ι) (acc : BitVec v) :
    f (xorChosen c g l acc) = xorChosen c (fun i => f (g i)) l (f acc) := by
  induction l generalizing acc with
  | nil => rfl
  | cons i l ih =>
    rw [xorChosen_cons, xorChosen_cons, ih]
    congr 1
    split
    · exact hf acc (g i)
    · rfl

theorem xorChosen_congr {ι : Type} {w : Nat} {c : ι → Bool} {g g' : ι → BitVec w} {l : List ι}
    (h : ∀ i ∈ l, g i = g' i) (acc : BitVec w) : xorChosen c g l acc = xorChosen c g' l acc := by
  induction l generalizing acc with
  | nil => rfl
  | cons i l ih =>
    rw [xorChosen_cons, xorChosen_cons, h i (by simp), ih fun j hj => h j (by simp [hj])]

theorem xorChosen_xor {ι : Type} {w : Nat} (c : ι → Bool) (g g' : ι → BitVec w) (l : List ι)
    (acc acc' : BitVec w) :
    xorChosen c (fun i => g i ^^^ g' i) l (acc ^^^ acc') = xorChosen c g l acc ^^^ xorChosen c g' l acc' := by
  induction l generalizing acc acc' with
  | nil => rfl
  | cons i l ih =>
    rw [xorChosen_cons, xorChosen_cons, xorChosen_cons, ← ih]
    congr 1
    split
    · ac_rfl
    · rfl

theorem map_zero_of_xor {v w : Nat} {f : BitVec v → BitVec w} (hf : ∀ x y, f (x ^^^ y) = f x ^^^ f y) :
    f 0#v = 0#w := by
  have h := hf 0#v 0#v
  rwa [BitVec.xor_self, BitVec.xor_self] at h

theorem xorChosen_bits (a : Byte) : xorChosen a.getLsbD (fun k => 1#8 <<< k) (List.range 8) 0#8 = a := by
  revert a
  decide

/-- Two maps that respect exclusive-or are equal if they agree on the eight powers of x. -/
theorem eq_of_xor_linear {f g : Byte → Byte} (hf : ∀ x y, f (x ^^^ y) = f x ^^^ f y)
    (hg : ∀ x y, g (x ^^^ y) = g x ^^^ g y) (h : ∀ k < 8, f (1#8 <<< k) = g (1#8 <<< k)) (a : Byte) :
    f a = g a := by
  rw [← xorChosen_bits a, xorChosen_map hf, xorChosen_map hg, map_zero_of_xor hf, map_zero_of_xor hg]
  exact xorChosen_congr (fun k hk => h k (List.mem_range.mp hk)) _

/-! ### Multiplication by α -/

theorem timesAlpha_eq (a : Byte) : timesAlpha a = (a <<< 1) ^^^ if a.msb then 0x1D#8 else 0#8 :=
  ite_xor_eq a.msb (a <<< 1) 0x1D#8

theorem timesAlpha_xor (a b : Byte) : timesAlpha (a ^^^ b) = timesAlpha a ^^^ timesAlpha b := by
  rw [timesAlpha_eq, timesAlpha_eq, timesAlpha_eq, BitVec.msb_xor, ite_bne_eq, BitVec.shiftLeft_xor_distrib]
  ac_rfl

@[simp] theorem timesAlpha_zero : timesAlpha 0#8 = 0#8 := map_zero_of_xor timesAlpha_xor

theorem iterate_timesAlpha_xor (n : Nat) (a b : Byte) :
    timesAlpha^[n] (a ^^^ b) = timesAlpha^[n] a ^^^ timesAlpha^[n] b := by
  induction n generalizing a b with
  | zero => rfl
  | succ n ih => rw [Function.iterate_succ_apply, timesAlpha_xor, ih]; rfl

theorem timesAlpha_injective : Function.Injective timesAlpha := by
  intro a b hab
  have hker : ∀ x : Byte, timesAlpha x = 0#8 → x = 0#8 := by decide
  exact BitVec.xor_eq_zero_iff.mp (hker _ (by rw [timesAlpha_xor, hab, BitVec.xor_self]))

/-! ### The product of two symbols -/

theorem gfMul_eq_xorChosen (a b : Byte) :
    gfMul a b = xorChosen b.getLsbD (fun i => timesAlpha^[i] a) (List.range 8) 0#8 := by
  have hxor : ∀ (c : Bool) (x y : Byte), (if c then x ^^^ y else x) = x ^^^ (if c then y else 0#8) :=
    ite_xor_eq
  have hif : ∀ (c : Bool) (x : Byte),
      timesAlpha (if c then x else 0#8) = if c then timesAlpha x else 0#8 := by
    intro c x
    cases c <;> simp
  simp [gfMul, bitsOf, xorChosen, List.range, List.range.loop, hxor, hif, timesAlpha_xor]
  ac_rfl

theorem gfMul_xor_left (a b c : Byte) : gfMul (a ^^^ b) c = gfMul a c ^^^ gfMul b c := by
  rw [gfMul_eq_xorChosen, gfMul_eq_xorChosen, gfMul_eq_xorChosen, ← xorChosen_xor, BitVec.xor_self]
  exact xorChosen_congr (fun i _ => iterate_timesAlpha_xor i a b) _

theorem gfMul_timesAlpha_left (a b : Byte) : gfMul (timesAlpha a) b = timesAlpha (gfMul a b) := by
  rw [gfMul_eq_xorChosen, gfMul_eq_xorChosen, xorChosen_map timesAlpha_xor, timesAlpha_zero]
  exact xorChosen_congr (fun i _ => (Function.Commute.iterate_self timesAlpha i a)) _

@[simp] theorem gfMul_one_left (b : Byte) : gfMul 1#8 b = b := by
  rw [gfMul_eq_xorChosen]
  refine .trans (xorChosen_congr (fun i hi => ?_) _) (xorChosen_bits b)
  revert i
  decide

@[simp] theorem gfMul_zero_left (b : Byte) : gfMul 0#8 b = 0#8 :=
  map_zero_of_xor (f := fun a => gfMul a b) fun x y => gfMul_xor_left x y b

/-- One step of `reduceSymbol`: the modulus is taken away at the power `k`, if that power is there. -/
def reduceAt (r : BitVec 16) (k : Nat) : BitVec 16 :=
  if r.getLsbD k then r ^^^ (0x11D#16 <<< (k - 8)) else r

theorem reduceSymbol_eq_foldl (p : BitVec 16) :
    reduceSymbol p = (((List.range 7).map (fun i => 14 - i)).foldl reduceAt p).truncate 8 := rfl

theorem reduceAt_eq (r : BitVec 16) (k : Nat) :
    reduceAt r k = r ^^^ if r.getLsbD k then 0x11D#16 <<< (k - 8) else 0#16 :=
  ite_xor_eq (r.getLsbD k) r _

theorem reduceAt_xor (p q : BitVec 16) (k : Nat) :
    reduceAt (p ^^^ q) k = reduceAt p k ^^^ reduceAt q k := by
  rw [reduceAt_eq, reduceAt_eq, reduceAt_eq, BitVec.getLsbD_xor, ite_bne_eq]
  ac_rfl

theorem foldl_reduceAt_xor (ks : List Nat) (p q : BitVec 16) :
    ks.foldl reduceAt (p ^^^ q) = ks.foldl reduceAt p ^^^ ks.foldl reduceAt q := by
  induction ks generalizing p q with
  | nil => rfl
  | cons k ks ih => rw [List.foldl_cons, reduceAt_xor, ih]; rfl

theorem reduceSymbol_xor (p q : BitVec 16) :
    reduceSymbol (p ^^^ q) = reduceSymbol p ^^^ reduceSymbol q := by
  simp only [reduceSymbol_eq_foldl, foldl_reduceAt_xor]
  exact BitVec.setWidth_xor

/-- A shifted copy of a symbol, reduced, is the symbol times that power of α. -/
theorem reduceSymbol_shift (a : Byte) (i : Nat) (hi : i < 8) :
    reduceSymbol (a.zeroExtend 16 <<< i) = timesAlpha^[i] a := by
  refine eq_of_xor_linear (f := fun a => reduceSymbol (a.zeroExtend 16 <<< i)) (fun x y => ?_)
    (iterate_timesAlpha_xor i) ?_ a
  · simp only [BitVec.zeroExtend, BitVec.setWidth_xor, BitVec.shiftLeft_xor_distrib, reduceSymbol_xor]
  · clear a
    revert i
    decide

/-- The product is the product of the polynomials, reduced (R54). -/
theorem gfMul_eq_reduceSymbol (a b : Byte) : gfMul a b = reduceSymbol (polynomialProduct a b) := by
  rw [gfMul_eq_xorChosen, polynomialProduct]
  refine .trans ?_ (xorChosen_map reduceSymbol_xor b.getLsbD _ _ _).symm
  rw [show reduceSymbol 0 = 0#8 from map_zero_of_xor reduceSymbol_xor]
  exact xorChosen_congr (fun i hi => (reduceSymbol_shift a i (List.mem_range.mp hi)).symm) _

/-! ### The powers of α -/

theorem alphaPow_eq_iterate (n : Nat) : alphaPow n = timesAlpha^[n] 1#8 := by
  induction n with
  | zero => rfl
  | succ n ih => rw [Function.iterate_succ_apply', ← ih]; rfl

theorem gfMul_alphaPow_left (n : Nat) (b : Byte) : gfMul (alphaPow n) b = timesAlpha^[n] b := by
  induction n with
  | zero => exact gfMul_one_left b
  | succ n ih => rw [Function.iterate_succ_apply', ← ih]; exact gfMul_timesAlpha_left _ _

theorem gfMul_alphaPow (m n : Nat) : gfMul (alphaPow m) (alphaPow n) = alphaPow (m + n) := by
  rw [gfMul_alphaPow_left, alphaPow_eq_iterate, alphaPow_eq_iterate, Function.iterate_add_apply]

/-- The powers of α whose exponents are the greatest proper divisors of 255, and α²⁵⁵. -/
theorem alphaPow_values :
    alphaPow 51 = 0x0A#8 ∧ alphaPow 85 = 0xD6#8 ∧ alphaPow 255 = alphaPow 0 := by
  have h8 : alphaPow 8 = 0x1D#8 := by decide
  have h9 : alphaPow 9 = 0x3A#8 := by decide
  have h17 : alphaPow 17 = 0x98#8 := (gfMul_alphaPow 8 9).symm.trans (by rw [h8, h9]; decide)
  have h34 : alphaPow 34 = 0x4E#8 := (gfMul_alphaPow 17 17).symm.trans (by rw [h17]; decide)
  have h51 : alphaPow 51 = 0x0A#8 := (gfMul_alphaPow 34 17).symm.trans (by rw [h34, h17]; decide)
  have h85 : alphaPow 85 = 0xD6#8 := (gfMul_alphaPow 51 34).symm.trans (by rw [h51, h34]; decide)
  have h170 : alphaPow 170 = 0xD7#8 := (gfMul_alphaPow 85 85).symm.trans (by rw [h85]; decide)
  exact ⟨h51, h85, (gfMul_alphaPow 170 85).symm.trans (by rw [h170, h85]; decide)⟩

theorem alphaPow_255 : alphaPow 255 = alphaPow 0 := alphaPow_values.2.2

/-- α has the order 255: its period divides 255, and no smaller divisor is one. -/
theorem minimalPeriod_timesAlpha : Function.minimalPeriod timesAlpha 1#8 = 255 := by
  have hperiodic : Function.IsPeriodicPt timesAlpha 255 1#8 :=
    (alphaPow_eq_iterate 255).symm.trans alphaPow_255
  have hmem : Function.minimalPeriod timesAlpha 1#8 ∈ Nat.divisors 255 :=
    Nat.mem_divisors.mpr ⟨hperiodic.minimalPeriod_dvd, by decide⟩
  have hone : alphaPow (Function.minimalPeriod timesAlpha 1#8) = 1#8 :=
    (alphaPow_eq_iterate _).trans (Function.isPeriodicPt_minimalPeriod timesAlpha 1#8)
  have hsmall : ∀ d ∈ [1, 3, 5, 15, 17], alphaPow d ≠ 1#8 := by decide
  have hproper : ∀ d ∈ [1, 3, 5, 15, 17, 51, 85], alphaPow d ≠ 1#8 := by
    simpa [alphaPow_values] using hsmall
  by_contra hne
  refine hproper _ ?_ hone
  simpa [hne, Nat.divisors_ofNat] using hmem

theorem alphaPow_mod (n : Nat) : alphaPow (n % 255) = alphaPow n := by
  rw [alphaPow_eq_iterate, alphaPow_eq_iterate, ← minimalPeriod_timesAlpha,
    Function.iterate_mod_minimalPeriod_eq]

theorem alphaPow_injective {m n : Nat} (hm : m < 255) (hn : n < 255) (h : alphaPow m = alphaPow n) :
    m = n := by
  rw [alphaPow_eq_iterate, alphaPow_eq_iterate] at h
  refine Function.iterate_injOn_Iio_minimalPeriod (f := timesAlpha) (x := 1#8) ?_ ?_ h <;>
    rwa [minimalPeriod_timesAlpha]

theorem alphaPow_ne_zero (n : Nat) : alphaPow n ≠ 0#8 := by
  induction n with
  | zero => decide
  | succ n ih => exact fun h => ih (timesAlpha_injective (h.trans timesAlpha_zero.symm))

/-- The 255 powers are distinct and non-zero, so they are all of the 255 non-zero symbols. -/
theorem exists_alphaPow {a : Byte} (ha : a ≠ 0#8) : ∃ n, n < 255 ∧ alphaPow n = a := by
  have hinj : Set.InjOn (fun n => (alphaPow n).toFin) (Finset.range 255) := fun m hm n hn h =>
    alphaPow_injective (Finset.mem_range.mp hm) (Finset.mem_range.mp hn) (BitVec.toFin_inj.mp h)
  have hsub : (Finset.range 255).image (fun n => (alphaPow n).toFin) ⊆ Finset.univ.erase 0 := by
    intro x hx
    obtain ⟨n, -, rfl⟩ := Finset.mem_image.mp hx
    exact Finset.mem_erase.mpr ⟨fun h => alphaPow_ne_zero n (BitVec.toFin_inj.mp h), Finset.mem_univ _⟩
  have hall := Finset.eq_of_subset_of_card_le hsub (by
    rw [Finset.card_image_of_injOn hinj, Finset.card_erase_of_mem (Finset.mem_univ _), Finset.card_fin,
      Finset.card_range])
  have hmem : a.toFin ∈ Finset.univ.erase 0 :=
    Finset.mem_erase.mpr ⟨fun h => ha (BitVec.toFin_inj.mp h), Finset.mem_univ _⟩
  obtain ⟨n, hn, hna⟩ := Finset.mem_image.mp (hall ▸ hmem)
  exact ⟨n, Finset.mem_range.mp hn, BitVec.toFin_inj.mp hna⟩

/-! ### The laws of the field -/

@[simp] theorem gfMul_zero_right (a : Byte) : gfMul a 0#8 = 0#8 := by
  simp [gfMul, bitsOf]

theorem eq_zero_or_alphaPow (a : Byte) : a = 0#8 ∨ ∃ n, alphaPow n = a :=
  (eq_or_ne a 0#8).imp_right fun ha => (exists_alphaPow ha).imp fun _ h => h.2

theorem gfMul_comm (a b : Byte) : gfMul a b = gfMul b a := by
  obtain rfl | ⟨m, rfl⟩ := eq_zero_or_alphaPow a
  · simp
  obtain rfl | ⟨n, rfl⟩ := eq_zero_or_alphaPow b
  · simp
  rw [gfMul_alphaPow, gfMul_alphaPow, Nat.add_comm]

theorem gfMul_assoc (a b c : Byte) : gfMul (gfMul a b) c = gfMul a (gfMul b c) := by
  obtain rfl | ⟨m, rfl⟩ := eq_zero_or_alphaPow a
  · simp
  rw [gfMul_alphaPow_left, gfMul_alphaPow_left]
  induction m with
  | zero => rfl
  | succ m ih => rw [Function.iterate_succ_apply', Function.iterate_succ_apply', gfMul_timesAlpha_left, ih]

theorem gfMul_xor_right (a b c : Byte) : gfMul a (b ^^^ c) = gfMul a b ^^^ gfMul a c := by
  rw [gfMul_comm, gfMul_xor_left, gfMul_comm b, gfMul_comm c]

theorem gfInv_zero : gfInv 0#8 = 0#8 := by simp [gfInv]

theorem gfInv_alphaPow (n : Nat) : gfInv (alphaPow n) = alphaPow (254 * n) := by
  simp only [gfInv, gfMul_alphaPow]
  congr 1
  omega

theorem gfMul_gfInv {a : Byte} (ha : a ≠ 0#8) : gfMul a (gfInv a) = 1#8 := by
  obtain ⟨n, -, rfl⟩ := exists_alphaPow ha
  rw [gfInv_alphaPow, gfMul_alphaPow, ← alphaPow_mod, show (n + 254 * n) % 255 = 0 by omega]
  rfl

/-- A symbol as an element of the field. The type is its own, for the sum of two bit vectors is another
sum. -/
@[ext] structure Symbol where
  byte : Byte

/-- The field of the symbols: the sum is the exclusive-or and the product is `gfMul`. -/
@[reducible] def symbolField : Field Symbol :=
  letI : Add Symbol := ⟨fun a b => ⟨a.byte ^^^ b.byte⟩⟩
  letI : Mul Symbol := ⟨fun a b => ⟨gfMul a.byte b.byte⟩⟩
  letI : Neg Symbol := ⟨id⟩
  letI : Inv Symbol := ⟨fun a => ⟨gfInv a.byte⟩⟩
  letI : Zero Symbol := ⟨⟨0#8⟩⟩
  letI : One Symbol := ⟨⟨1#8⟩⟩
  Field.ofMinimalAxioms Symbol
    (add_assoc := fun _ _ _ => Symbol.ext (BitVec.xor_assoc _ _ _))
    (zero_add := fun _ => Symbol.ext BitVec.zero_xor)
    (neg_add_cancel := fun _ => Symbol.ext BitVec.xor_self)
    (mul_assoc := fun _ _ _ => Symbol.ext (gfMul_assoc _ _ _))
    (mul_comm := fun _ _ => Symbol.ext (gfMul_comm _ _))
    (one_mul := fun _ => Symbol.ext (gfMul_one_left _))
    (mul_inv_cancel := fun _ ha => Symbol.ext (gfMul_gfInv fun h => ha (Symbol.ext h)))
    (inv_zero := congrArg Symbol.mk gfInv_zero)
    (left_distrib := fun _ _ _ => Symbol.ext (gfMul_xor_right _ _ _))
    (exists_pair_ne := ⟨⟨0#8⟩, ⟨1#8⟩, fun h => absurd (congrArg Symbol.byte h) (by decide)⟩)

end Sys2Proof.Machine
end

section

open Sys2Proof Sys2Proof.Machine

/-- Settles O38: the product by its linearity, the powers by the order of α, the quotient by the inverse. -/
theorem symbolsFormTheField : Obligations.SymbolsFormTheField := by
  refine ⟨gfMul_eq_reduceSymbol, rfl, alphaPow_255, fun n => ?next, fun _ _ => alphaPow_injective,
    fun _ => exists_alphaPow, gfMul_alphaPow, fun _ => BitVec.xor_self, fun a b hb => ?quotient⟩
  case next => exact (gfMul_alphaPow n 1).symm
  case quotient =>
    calc gfMul (gfMul a (gfInv b)) b = gfMul a (gfMul b (gfInv b)) := by
          rw [gfMul_assoc, gfMul_comm (gfInv b)]
      _ = a := by rw [gfMul_gfInv hb, gfMul_comm, gfMul_one_left]

end

section
/-! The lists of the code unit as polynomials over the field of symbols: each operation on the lists is the
operation of its name on the polynomials. The facts are stated for any field that the symbols are mapped to
one to one; `symbolMap_mk` gives one. -/

namespace Sys2Proof.Machine

open Polynomial

section
variable {F : Type} [Field F]

/-- A map of the symbols into a field that takes the exclusive-or to the sum and `gfMul` to the product. -/
structure SymbolMap (φ : Byte → F) : Prop where
  map_one : φ 1#8 = 1
  map_xor : ∀ a b, φ (a ^^^ b) = φ a + φ b
  map_mul : ∀ a b, φ (gfMul a b) = φ a * φ b
  injective : Function.Injective φ

theorem symbolMap_mk : @SymbolMap Symbol symbolField Symbol.mk :=
  letI := symbolField
  ⟨rfl, fun _ _ => rfl, fun _ _ => rfl, fun _ _ h => congrArg Symbol.byte h⟩

/-- The polynomial of a list of symbols, constant coefficient first. -/
noncomputable def polyOf (φ : Byte → F) (p : List Byte) : F[X] := p.foldr (fun a q => C (φ a) + X * q) 0

variable {φ : Byte → F}

@[simp] theorem polyOf_nil : polyOf φ [] = 0 := rfl

@[simp] theorem polyOf_cons (a : Byte) (p : List Byte) : polyOf φ (a :: p) = C (φ a) + X * polyOf φ p := rfl

variable (hφ : SymbolMap φ)
include hφ

/-! ### The map of the symbols -/

theorem SymbolMap.map_zero : φ 0#8 = 0 := by
  have h := hφ.map_xor 0#8 0#8
  rwa [BitVec.xor_self, right_eq_add] at h

theorem SymbolMap.map_eq_zero {a : Byte} : φ a = 0 ↔ a = 0#8 := by
  rw [← hφ.map_zero, hφ.injective.eq_iff]

theorem SymbolMap.charTwo : CharP F 2 := by
  refine CharTwo.of_one_ne_zero_of_two_eq_zero one_ne_zero ?_
  rw [← one_add_one_eq_two, ← hφ.map_one, ← hφ.map_xor, BitVec.xor_self, hφ.map_zero]

theorem SymbolMap.map_inv (a : Byte) : φ (gfInv a) = (φ a)⁻¹ := by
  by_cases ha : a = 0#8
  · rw [ha, gfInv_zero, hφ.map_zero, inv_zero]
  · rw [← hφ.map_eq_zero] at ha
    refine eq_inv_of_mul_eq_one_right ?_
    rw [← hφ.map_mul, gfMul_gfInv (fun h => ha (hφ.map_eq_zero.mpr h)), hφ.map_one]

theorem SymbolMap.map_alphaPow (n : Nat) : φ (alphaPow n) = φ (alphaPow 1) ^ n := by
  induction n with
  | zero => exact hφ.map_one.trans (pow_zero _).symm
  | succ n ih => rw [← gfMul_alphaPow, hφ.map_mul, ih, pow_succ]

theorem SymbolMap.map_foldl_xor {ι : Type} (g : ι → Byte) (l : List ι) (a : Byte) :
    φ (l.foldl (fun acc i => acc ^^^ g i) a) = φ a + (l.map fun i => φ (g i)).sum := by
  induction l generalizing a with
  | nil => simp
  | cons i l ih => rw [List.foldl_cons, ih, hφ.map_xor, List.map_cons, List.sum_cons, add_assoc]

/-! ### Lists of symbols as polynomials -/

theorem coeff_polyOf (p : List Byte) (i : Nat) : (polyOf φ p).coeff i = φ (p.getD i 0#8) := by
  induction p generalizing i with
  | nil => simp [hφ.map_zero]
  | cons a p ih => cases i with
    | zero => simp
    | succ i => simp [coeff_C_succ, ih]

theorem polyOf_polyAdd (p q : List Byte) : polyOf φ (polyAdd p q) = polyOf φ p + polyOf φ q := by
  induction p generalizing q with
  | nil => simp [polyAdd]
  | cons a p ih => cases q with
    | nil => simp [polyAdd]
    | cons b q =>
      rw [polyAdd, polyOf_cons, ih, hφ.map_xor, C_add, polyOf_cons, polyOf_cons]
      ring

theorem polyOf_polyScale (c : Byte) (p : List Byte) : polyOf φ (polyScale c p) = C (φ c) * polyOf φ p := by
  induction p with
  | nil => simp [polyScale]
  | cons a p ih =>
    rw [polyScale, List.map_cons, ← polyScale, polyOf_cons, ih, hφ.map_mul, C_mul, polyOf_cons]
    ring

theorem polyOf_zero_cons (p : List Byte) : polyOf φ (0 :: p) = X * polyOf φ p := by
  simp [hφ.map_zero]

theorem polyOf_polyMul (p q : List Byte) : polyOf φ (polyMul p q) = polyOf φ p * polyOf φ q := by
  induction p with
  | nil => simp [polyMul]
  | cons a p ih =>
    rw [polyMul, polyOf_polyAdd hφ, polyOf_polyScale hφ, polyOf_zero_cons hφ, ih, polyOf_cons]
    ring

theorem polyOf_replicate_append (m : Nat) (p : List Byte) :
    polyOf φ (List.replicate m 0 ++ p) = X ^ m * polyOf φ p := by
  induction m with
  | zero => simp
  | succ m ih =>
    rw [List.replicate_succ, List.cons_append, polyOf_zero_cons hφ, ih, pow_succ]
    ring

theorem eval_polyOf (p : List Byte) (x : Byte) : (polyOf φ p).eval (φ x) = φ (polyEval p x) := by
  induction p with
  | nil => simp [polyEval, hφ.map_zero]
  | cons a p ih =>
    rw [polyEval, List.foldr_cons, ← polyEval, hφ.map_xor, hφ.map_mul, ← ih]
    simp
    ring

theorem coeff_polyOf_take (p : List Byte) (n i : Nat) :
    (polyOf φ (p.take n)).coeff i = if i < n then (polyOf φ p).coeff i else 0 := by
  rw [coeff_polyOf hφ, coeff_polyOf hφ, List.getD_eq_getElem?_getD, List.getElem?_take]
  split
  · rfl
  · exact hφ.map_zero

/-- The formal derivative: over a field of characteristic two the even coefficients vanish. -/
theorem polyOf_polyDerivative (p : List Byte) :
    polyOf φ (polyDerivative p) = derivative (polyOf φ p) := by
  have := hφ.charTwo
  ext i
  have hcoeff : (polyDerivative p).getD i 0#8 = if i % 2 = 0 then p.getD (i + 1) 0 else 0 := by
    by_cases hi : i < p.length - 1
    · simp [polyDerivative, hi]
    · have hlen : p.length ≤ i + 1 := by omega
      simp [polyDerivative, hi, hlen]
  rw [coeff_derivative, coeff_polyOf hφ, coeff_polyOf hφ, hcoeff]
  split
  case isTrue heven =>
    have hcast : (i : F) = 0 := (CharP.cast_eq_zero_iff F 2 i).mpr (Nat.dvd_of_mod_eq_zero heven)
    rw [hcast, zero_add, mul_one]
    rfl
  case isFalse hodd =>
    have hcast : ((i + 1 : Nat) : F) = 0 := (CharP.cast_eq_zero_iff F 2 _).mpr (by omega)
    rw [← Nat.cast_succ, hcast, mul_zero]
    exact hφ.map_zero

/-- The discrepancy of a step is a coefficient of the product of the locator polynomial and the syndromes. -/
theorem map_discrepancy (syndromes : List Byte) (w : LocatorWork) (n : Nat)
    (hdegree : (polyOf φ w.locator).natDegree ≤ w.errors) :
    φ (discrepancy syndromes w n) = (polyOf φ w.locator * polyOf φ syndromes).coeff n := by
  have hterm : ∀ i, φ (gfMul (w.locator.getD i 0#8) (if i ≤ n then syndromes.getD (n - i) 0#8 else 0#8)) =
      if i ≤ n then (polyOf φ w.locator).coeff i * (polyOf φ syndromes).coeff (n - i) else 0 := by
    intro i
    rw [hφ.map_mul, coeff_polyOf hφ, coeff_polyOf hφ]
    split
    · rfl
    · rw [hφ.map_zero, mul_zero]
  have hsum : φ (discrepancy syndromes w n) = ∑ i ∈ Finset.range (w.errors + 1),
      if i ≤ n then (polyOf φ w.locator).coeff i * (polyOf φ syndromes).coeff (n - i) else 0 := by
    simp_rw [← hterm]
    rw [← List.toFinset_range, List.sum_toFinset _ List.nodup_range]
    exact (hφ.map_foldl_xor _ _ 0#8).trans (by rw [hφ.map_zero, zero_add]; rfl)
  rw [hsum, coeff_mul, Finset.Nat.sum_antidiagonal_eq_sum_range_succ_mk, ← Finset.sum_filter]
  refine Finset.sum_subset_zero_on_sdiff ?_ ?_ ?_
  · intro i hi
    simp at hi ⊢
    omega
  · intro i hi
    rw [coeff_eq_zero_of_natDegree_lt, zero_mul]
    simp at hi
    omega
  · exact fun _ _ => rfl

end
end Sys2Proof.Machine
end

section
/-! The Berlekamp-Massey recursion over any field: what one step of it keeps, and when its length can grow.
`S` is the polynomial of the syndromes. A polynomial Λ of length L recurs on the coefficients of `S` below `n`
where the product Λ·S has no coefficient from L up to n. -/

namespace Sys2Proof.Machine

open Polynomial

section
variable {F : Type} [Field F]

theorem coeff_mul_of_natDegree_le {A T : F[X]} {k n : Nat} (hA : A.natDegree ≤ k)
    (hT : ∀ i, n ≤ i + k → i < n → T.coeff i = 0) : (A * T).coeff n = A.coeff 0 * T.coeff n := by
  rw [coeff_mul, Finset.sum_eq_single_of_mem (0, n) (by simp)]
  rintro ⟨i, j⟩ hij hne
  rw [Finset.HasAntidiagonal.mem_antidiagonal] at hij
  dsimp only at hij ⊢
  have hi : i ≠ 0 := fun h => hne (by simp [h, ← hij])
  by_cases hik : i ≤ k
  · rw [hT j (by omega) (by omega), mul_zero]
  · rw [coeff_eq_zero_of_natDegree_lt (by omega), zero_mul]

/-- Before step `n`: `Λ` has length `L` and recurs below `n`; `Q`, the polynomial of the last length change
shifted up by the steps since then, has no coefficient in its product with `S` where Λ's recursion is to be
mended, but at `n` the last discrepancy `b`. -/
structure Recursion (S : F[X]) (n : Nat) (Λ Q : F[X]) (L : Nat) (b : F) : Prop where
  constant : Λ.coeff 0 = 1
  degree : Λ.natDegree ≤ L
  recurs : ∀ i, L ≤ i → i < n → (Λ * S).coeff i = 0
  shifted_constant : Q.coeff 0 = 0
  shifted_degree : Q.natDegree + L ≤ n + 1
  shifted_recurs : ∀ i, n + 1 ≤ i + L → i < n → (Q * S).coeff i = 0
  shifted_last : 1 ≤ L → (Q * S).coeff n = b
  last_ne : b ≠ 0

theorem recursion_start (S : F[X]) : Recursion S 0 1 X 0 1 where
  constant := by simp
  degree := by simp
  recurs := by simp
  shifted_constant := by simp
  shifted_degree := by simp
  shifted_recurs := by simp
  shifted_last := by simp
  last_ne := one_ne_zero

variable {S Λ Q : F[X]} {n L : Nat} {b : F}

/-- With another step and the same length, the shifted polynomial is shifted once more. -/
theorem Recursion.shift (h : Recursion S n Λ Q L b) {Λ' : F[X]} (hconstant : Λ'.coeff 0 = 1)
    (hdegree : Λ'.natDegree ≤ L) (hrecurs : ∀ i, L ≤ i → i < n + 1 → (Λ' * S).coeff i = 0) :
    Recursion S (n + 1) Λ' (X * Q) L b where
  constant := hconstant
  degree := hdegree
  recurs := hrecurs
  shifted_constant := coeff_X_mul_zero Q
  shifted_degree := by
    have h1 := h.shifted_degree
    have h2 := natDegree_mul_le (p := X) (q := Q)
    rw [natDegree_X] at h2
    omega
  shifted_recurs := by
    intro i hi hin
    cases i with
    | zero => rw [mul_assoc, coeff_X_mul_zero]
    | succ i =>
      rw [mul_assoc, coeff_X_mul]
      exact h.shifted_recurs i (by omega) (by omega)
  shifted_last := by
    intro hL
    rw [mul_assoc, coeff_X_mul]
    exact h.shifted_last hL
  last_ne := h.last_ne

/-- A step with no discrepancy. -/
theorem Recursion.skip (h : Recursion S n Λ Q L b) (hd : (Λ * S).coeff n = 0) :
    Recursion S (n + 1) Λ (X * Q) L b := by
  refine h.shift h.constant h.degree fun i hi hin => ?_
  obtain hlt | rfl := Nat.lt_succ_iff_lt_or_eq.mp hin
  · exact h.recurs i hi hlt
  · exact hd

/-- The polynomial of a step with a discrepancy. -/
noncomputable def mended (S : F[X]) (n : Nat) (Λ Q : F[X]) (b : F) : F[X] := Λ - C ((Λ * S).coeff n / b) * Q

theorem Recursion.mended_constant (h : Recursion S n Λ Q L b) : (mended S n Λ Q b).coeff 0 = 1 := by
  rw [mended, coeff_sub, coeff_C_mul, h.shifted_constant, h.constant, mul_zero, sub_zero]

theorem Recursion.mended_degree (h : Recursion S n Λ Q L b) {k : Nat} (hk : L ≤ k) (hnk : n + 1 ≤ k + L) :
    (mended S n Λ Q b).natDegree ≤ k := by
  have hQ : Q.natDegree ≤ k := by
    have := h.shifted_degree
    omega
  rw [mended]
  exact (natDegree_sub_le_of_le (h.degree.trans hk) ((natDegree_C_mul_le _ _).trans hQ)).trans_eq (max_self k)

theorem Recursion.mended_recurs (h : Recursion S n Λ Q L b) (i : Nat) (hi : L ≤ i) (hni : n + 1 ≤ i + L)
    (hin : i < n + 1) : (mended S n Λ Q b * S).coeff i = 0 := by
  rw [mended, sub_mul, mul_assoc, coeff_sub, coeff_C_mul]
  obtain hlt | rfl := Nat.lt_succ_iff_lt_or_eq.mp hin
  · rw [h.recurs i hi hlt, h.shifted_recurs i hni hlt, mul_zero, sub_zero]
  · rw [h.shifted_last (by omega), div_mul_cancel₀ _ h.last_ne, sub_self]

/-- A step with a discrepancy that keeps the length. -/
theorem Recursion.mend (h : Recursion S n Λ Q L b) (hL : n < 2 * L) :
    Recursion S (n + 1) (mended S n Λ Q b) (X * Q) L b :=
  h.shift h.mended_constant (h.mended_degree le_rfl (by omega)) fun i hi hin =>
    h.mended_recurs i hi (by omega) hin

/-- A step with a discrepancy that changes the length. -/
theorem Recursion.lengthen (h : Recursion S n Λ Q L b) (hL : 2 * L ≤ n) (hd : (Λ * S).coeff n ≠ 0) :
    Recursion S (n + 1) (mended S n Λ Q b) (X * Λ) (n + 1 - L) ((Λ * S).coeff n) where
  constant := h.mended_constant
  degree := h.mended_degree (by omega) (by omega)
  recurs i hi hin := h.mended_recurs i (by omega) (by omega) hin
  shifted_constant := coeff_X_mul_zero Λ
  shifted_degree := by
    have h1 := h.degree
    have h2 := natDegree_mul_le (p := X) (q := Λ)
    rw [natDegree_X] at h2
    omega
  shifted_recurs := by
    intro i hi hin
    cases i with
    | zero => omega
    | succ i =>
      rw [mul_assoc, coeff_X_mul]
      exact h.recurs i (by omega) (by omega)
  shifted_last _ := by rw [mul_assoc, coeff_X_mul]
  last_ne := hd

/-- Massey's bound: where Λ fails at step `n`, no polynomial that recurs up to `n` has a length of at most
`n - L`. Both orders of the product M·Λ·S give its coefficient `n`. -/
theorem Recursion.length_bound (h : Recursion S n Λ Q L b) (hd : (Λ * S).coeff n ≠ 0) {M : F[X]} {ν : Nat}
    (hconstant : M.coeff 0 = 1) (hdegree : M.natDegree ≤ ν)
    (hrecurs : ∀ i, ν ≤ i → i ≤ n → (M * S).coeff i = 0) : n < L + ν := by
  by_contra hlong
  have hM : (M * (Λ * S)).coeff n = M.coeff 0 * (Λ * S).coeff n :=
    coeff_mul_of_natDegree_le hdegree fun i hi hin => h.recurs i (by omega) hin
  have hΛ : (Λ * (M * S)).coeff n = Λ.coeff 0 * (M * S).coeff n :=
    coeff_mul_of_natDegree_le h.degree fun i hi hin => hrecurs i (by omega) (by omega)
  rw [hrecurs n (by omega) le_rfl, mul_zero, mul_left_comm, hM, hconstant, one_mul] at hΛ
  exact hd hΛ

/-- Where Λ recurs from `ν` to `N`, its product with `S` is, below `N`, a polynomial of degree below `ν`. -/
theorem exists_numerator {N ν : Nat} (hν : 1 ≤ ν) (hrecurs : ∀ i, ν ≤ i → i < N → (Λ * S).coeff i = 0) :
    ∃ A : F[X], A.natDegree < ν ∧ X ^ N ∣ Λ * S - A := by
  refine ⟨∑ i ∈ Finset.range ν, monomial i ((Λ * S).coeff i), ?degree, X_pow_dvd_iff.mpr fun i hi => ?below⟩
  case degree =>
    refine Nat.lt_of_le_pred hν (natDegree_sum_le_of_forall_le _ _ fun i hi => ?_)
    exact (natDegree_monomial_le _).trans (Nat.le_pred_of_lt (Finset.mem_range.mp hi))
  case below =>
    rw [coeff_sub, finsetSum_coeff]
    simp only [coeff_monomial, Finset.sum_ite_eq', Finset.mem_range]
    split
    · exact sub_self _
    · rw [hrecurs i (by omega) hi, sub_zero]

/-- Two polynomials of length at most `ν` that recur on 2ν coefficients have the same quotient by `S`: a zero
of the one that is no zero of its numerator Ω is a zero of the other. -/
theorem eval_eq_zero_of_recurs {M Ω : F[X]} {N ν : Nat} (hN : 2 * ν ≤ N)
    (hΛ : Λ.natDegree ≤ ν) (hrecurs : ∀ i, ν ≤ i → i < N → (Λ * S).coeff i = 0)
    (hM : M.natDegree ≤ ν) (hΩ : Ω.natDegree < ν) (hkey : X ^ N ∣ M * S - Ω) {x : F}
    (hx : M.eval x = 0) (hΩx : Ω.eval x ≠ 0) : Λ.eval x = 0 := by
  obtain ⟨A, hA, hAS⟩ := exists_numerator (by omega) hrecurs
  have hdvd : X ^ N ∣ Λ * Ω - M * A := by
    have h := dvd_sub (hAS.mul_left M) (hkey.mul_left Λ)
    rwa [show M * (Λ * S - A) - Λ * (M * S - Ω) = Λ * Ω - M * A by ring] at h
  have hdegree : (Λ * Ω - M * A).natDegree < N := by
    have h1 := natDegree_mul_le (p := Λ) (q := Ω)
    have h2 := natDegree_mul_le (p := M) (q := A)
    have h3 := natDegree_sub_le (Λ * Ω) (M * A)
    omega
  have hzero : Λ * Ω - M * A = 0 := eq_zero_of_dvd_of_natDegree_lt hdvd (by rwa [natDegree_X_pow])
  have heval := congrArg (eval x) hzero
  rw [eval_sub, eval_mul, eval_mul, hx, zero_mul, sub_zero, eval_zero] at heval
  exact (mul_eq_zero.mp heval).resolve_right hΩx

end
end Sys2Proof.Machine
end

section
/-! The locator polynomial and the numerator of an error list, over any field: errors `v e` at the locations
`x e`. The recursion ends in this locator, and Forney's formula gives the values back. -/

namespace Sys2Proof.Machine

open Polynomial

section
variable {F ι : Type} [Field F] {s : Finset ι} {x v : ι → F}

/-- The polynomial whose zeros are the inverses of the locations. -/
noncomputable def errorLocator (s : Finset ι) (x : ι → F) : F[X] := ∏ e ∈ s, (1 - C (x e) * X)

theorem natDegree_one_sub_le (a : F) : (1 - C a * X).natDegree ≤ 1 :=
  (natDegree_sub_le_of_le natDegree_one.le ((natDegree_C_mul_le a X).trans natDegree_X_le)).trans_eq
    (max_eq_right zero_le_one)

theorem natDegree_prod_one_sub_le (s : Finset ι) (x : ι → F) :
    (∏ e ∈ s, (1 - C (x e) * X)).natDegree ≤ s.card := by
  refine (natDegree_prod_le _ _).trans ((Finset.sum_le_card_nsmul s _ 1 fun e _ => ?_).trans_eq (by simp))
  exact natDegree_one_sub_le (x e)

theorem errorLocator_degree : (errorLocator s x).natDegree ≤ s.card := natDegree_prod_one_sub_le s x

theorem errorLocator_constant : (errorLocator s x).coeff 0 = 1 := by
  simp [errorLocator, coeff_zero_eq_eval_zero, eval_prod]

theorem eval_errorLocator (y : F) : (errorLocator s x).eval y = ∏ e ∈ s, (1 - x e * y) := by
  simp [errorLocator, eval_prod]

/-- The zeros of the locator are the inverses of the locations. -/
theorem eval_errorLocator_eq_zero {y : F} (hy : y ≠ 0) :
    (errorLocator s x).eval y⁻¹ = 0 ↔ ∃ e ∈ s, x e = y := by
  rw [eval_errorLocator, Finset.prod_eq_zero_iff]
  refine exists_congr fun e => and_congr_right fun _ => ?_
  rw [sub_eq_zero, eq_comm, mul_inv_eq_one₀ hy]

variable [DecidableEq ι]

/-- The numerator: the product of the locator with the syndromes, below their number. -/
noncomputable def errorNumerator (s : Finset ι) (x v : ι → F) : F[X] :=
  ∑ e ∈ s, (∏ i ∈ s.erase e, (1 - C (x i) * X)) * C (v e)

theorem errorNumerator_degree (hs : s.Nonempty) : (errorNumerator s x v).natDegree < s.card := by
  refine Nat.lt_of_le_pred hs.card_pos (natDegree_sum_le_of_forall_le _ _ fun e he => ?_)
  refine (natDegree_mul_C_le _ _).trans ((natDegree_prod_one_sub_le _ x).trans_eq ?_)
  exact Finset.card_erase_of_mem he

/-- The derivative of the locator has the form of a numerator. -/
theorem derivative_errorLocator : derivative (errorLocator s x) = errorNumerator s x fun e => -x e := by
  simp [errorLocator, errorNumerator, derivative_prod_finset]

theorem eval_errorNumerator {e : ι} (he : e ∈ s) (hx : x e ≠ 0) :
    (errorNumerator s x v).eval (x e)⁻¹ = (∏ i ∈ s.erase e, (1 - x i * (x e)⁻¹)) * v e := by
  rw [errorNumerator, eval_finsetSum, Finset.sum_eq_single_of_mem e he]
  · simp [eval_prod]
  · intro i _ hie
    have hmem : e ∈ s.erase i := Finset.mem_erase.mpr ⟨hie.symm, he⟩
    rw [eval_mul, eval_prod, Finset.prod_eq_zero hmem (by simp [hx]), zero_mul]

theorem prod_erase_ne_zero (hinj : Set.InjOn x s) {e : ι} (he : e ∈ s) (hx : x e ≠ 0) :
    ∏ i ∈ s.erase e, (1 - x i * (x e)⁻¹) ≠ 0 := by
  refine Finset.prod_ne_zero_iff.mpr fun i hi h => ?_
  obtain ⟨hie, hi⟩ := Finset.mem_erase.mp hi
  rw [sub_eq_zero, eq_comm, mul_inv_eq_one₀ hx] at h
  exact hie (hinj hi he h)

/-- Forney's formula: the value of the error at a location, but for the sign. -/
theorem errorNumerator_div_derivative (hinj : Set.InjOn x s) {e : ι} (he : e ∈ s) (hx : x e ≠ 0) :
    x e * ((errorNumerator s x v).eval (x e)⁻¹ * ((derivative (errorLocator s x)).eval (x e)⁻¹)⁻¹) =
      -v e := by
  have hne := prod_erase_ne_zero hinj he hx
  rw [derivative_errorLocator, eval_errorNumerator he hx, eval_errorNumerator he hx]
  generalize ∏ i ∈ s.erase e, (1 - x i * (x e)⁻¹) = P at hne
  field_simp

/-- The locator times the syndromes is the numerator, below the number `N` of the syndromes: each error's part
of the syndromes is a geometric series. -/
theorem errorLocator_mul_syndromes {S : F[X]} {N : Nat}
    (hS : ∀ j, j < N → S.coeff j = ∑ e ∈ s, v e * x e ^ j) :
    X ^ N ∣ errorLocator s x * S - errorNumerator s x v := by
  have hseries : X ^ N ∣ S - ∑ e ∈ s, C (v e) * ∑ j ∈ Finset.range N, (C (x e) * X) ^ j := by
    refine X_pow_dvd_iff.mpr fun i hi => ?_
    simp only [coeff_sub, finsetSum_coeff, coeff_C_mul, mul_pow, ← C_pow, coeff_X_pow]
    simp [hS i hi, hi]
  have hgeometric : ∀ e ∈ s, X ^ N ∣ errorLocator s x * (C (v e) * ∑ j ∈ Finset.range N, (C (x e) * X) ^ j) -
      (∏ i ∈ s.erase e, (1 - C (x i) * X)) * C (v e) := by
    intro e he
    refine ⟨-(∏ i ∈ s.erase e, (1 - C (x i) * X)) * C (v e) * C (x e) ^ N, ?_⟩
    have hsum := mul_neg_geom_sum (C (x e) * X) N
    rw [errorLocator, ← Finset.mul_prod_erase s _ he]
    linear_combination (∏ i ∈ s.erase e, (1 - C (x i) * X)) * C (v e) * hsum
  have h := dvd_add (hseries.mul_left (errorLocator s x)) (Finset.dvd_sum hgeometric)
  rwa [Finset.sum_sub_distrib, ← Finset.mul_sum, mul_sub, sub_add_sub_cancel] at h

/-- A polynomial of the locator's length that recurs on twice as many syndromes as there are errors is the
locator: it has the same zeros and the same constant coefficient. -/
theorem eq_errorLocator {S Λ : F[X]} {N : Nat} (hs : s.Nonempty) (hN : 2 * s.card ≤ N)
    (hS : ∀ j, j < N → S.coeff j = ∑ e ∈ s, v e * x e ^ j) (hinj : Set.InjOn x s)
    (hx : ∀ e ∈ s, x e ≠ 0) (hv : ∀ e ∈ s, v e ≠ 0) (hconstant : Λ.coeff 0 = 1)
    (hdegree : Λ.natDegree ≤ s.card) (hrecurs : ∀ i, s.card ≤ i → i < N → (Λ * S).coeff i = 0) :
    Λ = errorLocator s x := by
  classical
  have hzeros : ∀ y ∈ insert 0 (s.image fun e => (x e)⁻¹), (Λ - errorLocator s x).eval y = 0 := by
    intro y hy
    obtain rfl | hy := Finset.mem_insert.mp hy
    · rw [eval_sub, ← coeff_zero_eq_eval_zero, ← coeff_zero_eq_eval_zero, hconstant, errorLocator_constant,
        sub_self]
    obtain ⟨e, he, rfl⟩ := Finset.mem_image.mp hy
    have hlocator : (errorLocator s x).eval (x e)⁻¹ = 0 :=
      (eval_errorLocator_eq_zero (hx e he)).mpr ⟨e, he, rfl⟩
    have hnumerator : (errorNumerator s x v).eval (x e)⁻¹ ≠ 0 := by
      rw [eval_errorNumerator he (hx e he)]
      exact mul_ne_zero (prod_erase_ne_zero hinj he (hx e he)) (hv e he)
    rw [eval_sub, hlocator, sub_zero]
    exact eval_eq_zero_of_recurs hN hdegree hrecurs errorLocator_degree (errorNumerator_degree hs)
      (errorLocator_mul_syndromes hS) hlocator hnumerator
  have hcard : s.card < (insert 0 (s.image fun e => (x e)⁻¹)).card := by
    rw [Finset.card_insert_of_notMem, Finset.card_image_of_injOn]
    · exact Nat.lt_succ_self _
    · exact fun e he i hi h => hinj he hi (inv_injective h)
    · simpa using hx
  refine sub_eq_zero.mp (eq_zero_of_natDegree_lt_card_of_eval_eq_zero' _ _ hzeros ?_)
  exact ((natDegree_sub_le_of_le hdegree errorLocator_degree).trans_eq (max_self _)).trans_lt hcard

end
end Sys2Proof.Machine
end

section
/-! The locator's recursion in the model (R62) is the recursion over the field. -/

namespace Sys2Proof.Machine

open Polynomial

section
variable {F : Type} [Field F] {φ : Byte → F}

/-- The work before step `n`, read as polynomials, meets the conditions of the recursion. -/
def LocatorWork.Recurs (φ : Byte → F) (syndromes : List Byte) (n : Nat) (w : LocatorWork) : Prop :=
  Recursion (polyOf φ syndromes) n (polyOf φ w.locator) (X ^ w.gap * polyOf φ w.previous) w.errors
    (φ w.lastDiscrepancy)

/-- The work after `n` steps. -/
def locatorWork (syndromes : List Byte) (n : Nat) : LocatorWork :=
  (List.range n).foldl (locatorStep syndromes)
    { locator := [1], previous := [1], errors := 0, gap := 1, lastDiscrepancy := 1 }

theorem locatorPolynomial_eq (syndromes : List Byte) :
    locatorPolynomial syndromes = locatorWork syndromes syndromes.length := rfl

theorem locatorWork_succ (syndromes : List Byte) (n : Nat) :
    locatorWork syndromes (n + 1) = locatorStep syndromes (locatorWork syndromes n) n := by
  rw [locatorWork, List.range_succ, List.foldl_append]
  rfl

/-- The locator polynomial of a step with the discrepancy `d`. -/
def LocatorWork.next (w : LocatorWork) (d : Byte) : List Byte :=
  polyAdd w.locator
    (List.replicate w.gap 0 ++ polyScale (gfMul d (gfInv w.lastDiscrepancy)) w.previous)

section
variable {syndromes : List Byte} {w : LocatorWork} {n : Nat}

theorem locatorStep_of_eq_zero (hd : discrepancy syndromes w n = 0#8) :
    locatorStep syndromes w n = { w with gap := w.gap + 1 } := if_pos hd

theorem locatorStep_of_lt (hd : discrepancy syndromes w n ≠ 0#8) (hn : n < 2 * w.errors) :
    locatorStep syndromes w n =
      { w with locator := w.next (discrepancy syndromes w n), gap := w.gap + 1 } :=
  (if_neg hd).trans (if_neg (Nat.not_le.mpr hn))

theorem locatorStep_of_le (hd : discrepancy syndromes w n ≠ 0#8) (hn : 2 * w.errors ≤ n) :
    locatorStep syndromes w n =
      { locator := w.next (discrepancy syndromes w n), previous := w.locator, errors := n + 1 - w.errors,
        gap := 1, lastDiscrepancy := discrepancy syndromes w n } :=
  (if_neg hd).trans (if_pos hn)

variable (hφ : SymbolMap φ)
include hφ

theorem locatorWork_zero_recurs : (locatorWork syndromes 0).Recurs φ syndromes 0 := by
  have hone : polyOf φ [1#8] = 1 := by simp [hφ.map_one]
  have h := recursion_start (polyOf φ syndromes)
  rw [← hφ.map_one, ← hone] at h
  simpa [LocatorWork.Recurs, locatorWork, hφ.map_one] using h

theorem LocatorWork.Recurs.map_discrepancy (h : w.Recurs φ syndromes n) :
    φ (discrepancy syndromes w n) = (polyOf φ w.locator * polyOf φ syndromes).coeff n :=
  Machine.map_discrepancy hφ syndromes w n h.degree

theorem LocatorWork.Recurs.polyOf_next (h : w.Recurs φ syndromes n) :
    polyOf φ (w.next (discrepancy syndromes w n)) =
      mended (polyOf φ syndromes) n (polyOf φ w.locator) (X ^ w.gap * polyOf φ w.previous)
        (φ w.lastDiscrepancy) := by
  have := hφ.charTwo
  rw [LocatorWork.next, polyOf_polyAdd hφ, polyOf_replicate_append hφ, polyOf_polyScale hφ, hφ.map_mul,
    hφ.map_inv, h.map_discrepancy hφ, mended, CharTwo.sub_eq_add, div_eq_mul_inv, mul_left_comm]

theorem locatorStep_recurs (h : w.Recurs φ syndromes n) :
    (locatorStep syndromes w n).Recurs φ syndromes (n + 1) := by
  have hgap : X ^ (w.gap + 1) * polyOf φ w.previous = X * (X ^ w.gap * polyOf φ w.previous) := by
    rw [pow_succ', mul_assoc]
  by_cases hd : discrepancy syndromes w n = 0#8
  · rw [locatorStep_of_eq_zero hd, LocatorWork.Recurs, hgap]
    exact h.skip ((h.map_discrepancy hφ).symm.trans (hφ.map_eq_zero.mpr hd))
  obtain hn | hn := lt_or_ge n (2 * w.errors)
  · rw [locatorStep_of_lt hd hn, LocatorWork.Recurs, hgap, h.polyOf_next hφ]
    exact h.mend hn
  · have hne : (polyOf φ w.locator * polyOf φ syndromes).coeff n ≠ 0 :=
      fun h0 => hd (hφ.map_eq_zero.mp ((h.map_discrepancy hφ).trans h0))
    rw [locatorStep_of_le hd hn, LocatorWork.Recurs, h.polyOf_next hφ, pow_one, h.map_discrepancy hφ]
    exact h.lengthen hn hne

/-- The length stays within that of any polynomial that recurs on the syndromes (Massey's bound). -/
theorem locatorStep_errors_le (h : w.Recurs φ syndromes n) {M : F[X]} {ν : Nat} (hw : w.errors ≤ ν)
    (hconstant : M.coeff 0 = 1) (hdegree : M.natDegree ≤ ν)
    (hrecurs : ∀ i, ν ≤ i → i ≤ n → (M * polyOf φ syndromes).coeff i = 0) :
    (locatorStep syndromes w n).errors ≤ ν := by
  by_cases hd : discrepancy syndromes w n = 0#8
  · rwa [locatorStep_of_eq_zero hd]
  obtain hn | hn := lt_or_ge n (2 * w.errors)
  · rwa [locatorStep_of_lt hd hn]
  · have hne : (polyOf φ w.locator * polyOf φ syndromes).coeff n ≠ 0 :=
      fun h0 => hd (hφ.map_eq_zero.mp ((h.map_discrepancy hφ).trans h0))
    have hbound := h.length_bound hne hconstant hdegree hrecurs
    rw [locatorStep_of_le hd hn]
    dsimp only
    omega

theorem locatorWork_recurs (n : Nat) : (locatorWork syndromes n).Recurs φ syndromes n := by
  induction n with
  | zero => exact locatorWork_zero_recurs hφ
  | succ n ih =>
    rw [locatorWork_succ]
    exact locatorStep_recurs hφ ih

theorem locatorWork_errors_le {M : F[X]} {ν : Nat} (hconstant : M.coeff 0 = 1) (hdegree : M.natDegree ≤ ν)
    (n : Nat) (hrecurs : ∀ i, ν ≤ i → i < n → (M * polyOf φ syndromes).coeff i = 0) :
    (locatorWork syndromes n).errors ≤ ν := by
  induction n with
  | zero => exact Nat.zero_le _
  | succ n ih =>
    rw [locatorWork_succ]
    exact locatorStep_errors_le hφ (locatorWork_recurs hφ n) (ih fun i hi hin => hrecurs i hi (by omega))
      hconstant hdegree fun i hi hin => hrecurs i hi (by omega)

end

/-- The recursion ends in the locator of the errors that the syndromes were made of, if there are at most half
as many as syndromes. -/
theorem polyOf_locatorPolynomial (hφ : SymbolMap φ) {ι : Type} {s : Finset ι} {x v : ι → F}
    {syndromes : List Byte} (hs : s.Nonempty) (hN : 2 * s.card ≤ syndromes.length)
    (hS : ∀ j, j < syndromes.length → (polyOf φ syndromes).coeff j = ∑ e ∈ s, v e * x e ^ j)
    (hinj : Set.InjOn x s) (hx : ∀ e ∈ s, x e ≠ 0) (hv : ∀ e ∈ s, v e ≠ 0) :
    polyOf φ (locatorPolynomial syndromes).locator = errorLocator s x := by
  classical
  have hmade : ∀ i, s.card ≤ i → i < syndromes.length →
      (errorLocator s x * polyOf φ syndromes).coeff i = 0 := by
    intro i hi hin
    have h := X_pow_dvd_iff.mp (errorLocator_mul_syndromes hS) i hin
    rwa [coeff_sub, coeff_eq_zero_of_natDegree_lt ((errorNumerator_degree hs).trans_le hi), sub_zero] at h
  have hwork := locatorWork_recurs hφ (syndromes := syndromes) syndromes.length
  have herrors := locatorWork_errors_le hφ errorLocator_constant errorLocator_degree _ hmade
  rw [locatorPolynomial_eq]
  exact eq_errorLocator hs hN hS hinj hx hv hwork.constant (hwork.degree.trans herrors)
    fun i hi hin => hwork.recurs i (herrors.trans hi) hin

end
end Sys2Proof.Machine
end

section
/-! The syndromes of a payload with errors (R58), and the list that a run on them reports (R62). -/

namespace Sys2Proof.Machine

open Polynomial

/-! ### Syndromes -/

theorem alphaPowers_eq_map (n : Nat) : alphaPowers n = (List.range n).map alphaPow := by
  induction n with
  | zero => rfl
  | succ n ih => rw [alphaPowers, ih, List.range_succ, List.map_append, List.map_singleton]

/-- One accumulator, of root α^j, after the bytes given (R58). -/
def accumulate (j : Nat) (acc : Byte) (p : List Byte) : Byte :=
  p.foldl (fun a b => gfMul a (alphaPow j) ^^^ b) acc

theorem accumulate_cons (j : Nat) (acc b : Byte) (p : List Byte) :
    accumulate j acc (b :: p) = accumulate j (gfMul acc (alphaPow j) ^^^ b) p := rfl

theorem syndromeStep_map (n : Nat) (c : Nat → Byte) (b : Byte) :
    syndromeStep ((List.range n).map c) b =
      (List.range n).map fun j => gfMul (c j) (alphaPow j) ^^^ b := by
  rw [syndromeStep, List.length_map, List.length_range, alphaPowers_eq_map, List.zipWith_map,
    List.zipWith_self]

theorem foldl_syndromeStep_map (n : Nat) (p : List Byte) (c : Nat → Byte) :
    p.foldl syndromeStep ((List.range n).map c) = (List.range n).map fun j => accumulate j (c j) p := by
  induction p generalizing c with
  | nil => rfl
  | cons b p ih => rw [List.foldl_cons, syndromeStep_map, ih]; rfl

theorem syndromesOf_eq_map (t : Nat) (p : List Byte) :
    syndromesOf t p = (List.range (2 * t)).map fun j => accumulate j 0#8 p := by
  rw [← foldl_syndromeStep_map, List.map_const', List.length_range]
  rfl

theorem length_syndromesOf (t : Nat) (p : List Byte) : (syndromesOf t p).length = 2 * t := by
  rw [syndromesOf_eq_map, List.length_map, List.length_range]

theorem isClean_syndromesOf (t : Nat) (p : List Byte) :
    isClean (syndromesOf t p) = true ↔ ∀ j, j < 2 * t → accumulate j 0#8 p = 0#8 := by
  simp [isClean, syndromesOf_eq_map]

/-! ### Syndromes of a payload with errors -/

/-- What an entry adds to the accumulator of root α^j at the end of a payload of `length` bytes. -/
def ErrorEntry.part (length j : Nat) (e : ErrorEntry) : Byte :=
  gfMul e.value (alphaPow (j * (length - 1 - e.position) % 255))

theorem listSyndromes_eq_map (count length : Nat) (es : List ErrorEntry) :
    listSyndromes count length es =
      (List.range count).map fun j => es.foldl (fun acc e => acc ^^^ e.part length j) 0#8 := rfl

theorem xor_right_comm (a b c : Byte) : a ^^^ b ^^^ c = a ^^^ c ^^^ b := by ac_rfl

theorem length_listSyndromes (count length : Nat) (es : List ErrorEntry) :
    (listSyndromes count length es).length = count := by
  rw [listSyndromes_eq_map, List.length_map, List.length_range]

theorem accumulate_xor (j : Nat) (acc v : Byte) (p : List Byte) :
    accumulate j (acc ^^^ v) p = accumulate j acc p ^^^ gfMul v (alphaPow (j * p.length)) := by
  induction p generalizing acc v with
  | nil => exact congrArg (acc ^^^ ·) ((gfMul_comm _ _).trans (gfMul_one_left v)).symm
  | cons b p ih =>
    rw [accumulate_cons, accumulate_cons, gfMul_xor_left, xor_right_comm, ih, gfMul_assoc,
      gfMul_alphaPow, List.length_cons, Nat.mul_succ, Nat.add_comm]

theorem accumulate_modify (j : Nat) (acc : Byte) (p : List Byte) (e : ErrorEntry)
    (he : e.position < p.length) :
    accumulate j acc (p.modify e.position (· ^^^ e.value)) = accumulate j acc p ^^^ e.part p.length j := by
  obtain ⟨k, v⟩ := e
  rw [ErrorEntry.part, alphaPow_mod]
  dsimp only at he ⊢
  induction p generalizing acc k with
  | nil => exact absurd he (Nat.not_lt_zero k)
  | cons b p ih => cases k with
    | zero =>
      rw [List.modify_zero_cons, accumulate_cons, accumulate_cons, ← BitVec.xor_assoc, accumulate_xor]
      rfl
    | succ k =>
      rw [List.modify_succ_cons, accumulate_cons, accumulate_cons, ih _ k (by simpa using he)]
      congr 4
      simp
      omega

theorem foldl_part_start (length j : Nat) (es : List ErrorEntry) (a : Byte) :
    es.foldl (fun acc e => acc ^^^ e.part length j) a =
      a ^^^ es.foldl (fun acc e => acc ^^^ e.part length j) 0#8 := by
  induction es generalizing a with
  | nil => exact BitVec.xor_zero.symm
  | cons e es ih =>
    rw [List.foldl_cons, List.foldl_cons, ih, ih (0#8 ^^^ _), BitVec.zero_xor, BitVec.xor_assoc]

theorem accumulate_withErrors (j : Nat) (p : List Byte) (es : List ErrorEntry)
    (hes : ∀ e ∈ es, e.position < p.length) :
    accumulate j 0#8 (withErrors p es) =
      accumulate j 0#8 p ^^^ es.foldl (fun acc e => acc ^^^ e.part p.length j) 0#8 := by
  induction es generalizing p with
  | nil => exact BitVec.xor_zero.symm
  | cons e es ih =>
    obtain ⟨he, hes⟩ := List.forall_mem_cons.mp hes
    have hlength : (p.modify e.position (· ^^^ e.value)).length = p.length := List.length_modify _ _ _
    rw [withErrors, List.foldl_cons, ← withErrors, ih _ (by rwa [hlength]), accumulate_modify j 0#8 p e he,
      hlength, List.foldl_cons, foldl_part_start _ _ es (0#8 ^^^ _), BitVec.zero_xor, BitVec.xor_assoc]

/-- The syndromes of a codeword with errors are those of the error list. -/
theorem syndromesOf_withErrors (t : Nat) (p : List Byte) (es : List ErrorEntry)
    (hes : ∀ e ∈ es, e.position < p.length) (hclean : isClean (syndromesOf t p) = true) :
    syndromesOf t (withErrors p es) = listSyndromes (2 * t) p.length es := by
  rw [syndromesOf_eq_map, listSyndromes_eq_map]
  refine List.map_congr_left fun j hj => ?_
  rw [accumulate_withErrors j p es hes, (isClean_syndromesOf t p).mp hclean j (List.mem_range.mp hj),
    BitVec.zero_xor]

/-- A list that gives a payload's syndromes turns it into a codeword. -/
theorem isClean_withErrors (t : Nat) (p : List Byte) (es : List ErrorEntry)
    (hes : ∀ e ∈ es, e.position < p.length) (hlist : listSyndromes (2 * t) p.length es = syndromesOf t p) :
    isClean (syndromesOf t (withErrors p es)) = true := by
  refine (isClean_syndromesOf _ _).mpr fun j hj => ?_
  rw [syndromesOf_eq_map, listSyndromes_eq_map] at hlist
  rw [accumulate_withErrors j p es hes, List.map_inj_left.mp hlist j (List.mem_range.mpr hj),
    BitVec.xor_self]

/-! ### Error lists -/

/-- An error list as R62 has it: 1 to t entries at distinct positions of the payload, with non-zero values. -/
structure IsErrorList (t length : Nat) (es : List ErrorEntry) : Prop where
  nonempty : 1 ≤ es.length
  atMost : es.length ≤ t
  distinct : (es.map ErrorEntry.position).Nodup
  inside : ∀ e ∈ es, e.position < length ∧ e.value ≠ 0

theorem accountsFor_iff (syndromes : List Byte) (t length : Nat) (es : List ErrorEntry) :
    accountsFor syndromes t length es = true ↔
      IsErrorList t length es ∧ listSyndromes syndromes.length length es = syndromes := by
  simp only [accountsFor, Bool.and_eq_true, decide_eq_true_eq, List.all_eq_true, beq_iff_eq]
  exact and_congr_left fun _ =>
    ⟨fun ⟨⟨h1, h2, h3⟩, h4⟩ => ⟨h1, h2, h3, h4⟩, fun ⟨h1, h2, h3, h4⟩ => ⟨⟨h1, h2, h3⟩, h4⟩⟩

theorem IsErrorList.perm {t length : Nat} {es fs : List ErrorEntry} (h : IsErrorList t length es)
    (hp : fs.Perm es) : IsErrorList t length fs where
  nonempty := hp.length_eq ▸ h.nonempty
  atMost := hp.length_eq ▸ h.atMost
  distinct := (hp.map _).nodup_iff.mpr h.distinct
  inside e he := h.inside e (hp.mem_iff.mp he)

theorem IsErrorList.nodup {t length : Nat} {es : List ErrorEntry} (h : IsErrorList t length es) : es.Nodup :=
  h.distinct.of_map _

theorem IsErrorList.card {t length : Nat} {es : List ErrorEntry} (h : IsErrorList t length es) :
    es.toFinset.card = es.length := List.toFinset_card_of_nodup h.nodup

theorem listSyndromes_perm {es fs : List ErrorEntry} (hp : fs.Perm es) (count length : Nat) :
    listSyndromes count length fs = listSyndromes count length es := by
  rw [listSyndromes_eq_map, listSyndromes_eq_map]
  refine List.map_congr_left fun j _ => ?_
  exact hp.foldl_eq' (fun e _ f _ acc => xor_right_comm _ _ _) _

/-! ### The list that a run reports -/

/-- The entries that a run tests. -/
def locatedEntries (syndromes locator : List Byte) (length : Nat) : List ErrorEntry :=
  (locatedPositions locator length).map fun p => ⟨p, errorValue syndromes locator (length - 1 - p)⟩

theorem locate_eq (syndromes : List Byte) (t length : Nat) :
    locate syndromes t length =
      if accountsFor syndromes t length
          (locatedEntries syndromes (locatorPolynomial syndromes).locator length) then
        some (locatedEntries syndromes (locatorPolynomial syndromes).locator length)
      else none := rfl

/-- Whatever list a run reports is one of R62. -/
theorem locate_sound {syndromes : List Byte} {t length : Nat} {found : List ErrorEntry}
    (h : locate syndromes t length = some found) :
    IsErrorList t length found ∧ listSyndromes syndromes.length length found = syndromes := by
  rw [locate_eq, Option.ite_none_right_eq_some, Option.some.injEq] at h
  obtain ⟨haccounts, rfl⟩ := h
  exact (accountsFor_iff _ _ _ _).mp haccounts

theorem mem_locatedPositions (locator : List Byte) (length p : Nat) :
    p ∈ locatedPositions locator length ↔
      p < length ∧ polyEval locator (alphaPow ((255 - (length - 1 - p)) % 255)) = 0#8 := by
  simp [locatedPositions]

theorem nodup_locatedEntries (syndromes locator : List Byte) (length : Nat) :
    (locatedEntries syndromes locator length).Nodup :=
  (List.nodup_range.filter _).map fun _ _ h => congrArg ErrorEntry.position h

section
variable {F : Type} [Field F] {φ : Byte → F} (hφ : SymbolMap φ) {t length : Nat} {es : List ErrorEntry}

/-- The location of an entry: the power of α of its degree. -/
def location (φ : Byte → F) (length : Nat) (e : ErrorEntry) : F := φ (alphaPow (length - 1 - e.position))

include hφ

theorem map_alphaPow_ne_zero (d : Nat) : φ (alphaPow d) ≠ 0 :=
  fun h => alphaPow_ne_zero d (hφ.map_eq_zero.mp h)

theorem map_alphaPow_neg (d : Nat) (hd : d < 255) : φ (alphaPow ((255 - d) % 255)) = (φ (alphaPow d))⁻¹ := by
  refine eq_inv_of_mul_eq_one_left ?_
  rw [alphaPow_mod, ← hφ.map_mul, gfMul_alphaPow, Nat.sub_add_cancel hd.le, alphaPow_255]
  exact hφ.map_one

theorem map_part (length j : Nat) (e : ErrorEntry) :
    φ (e.part length j) = φ e.value * location φ length e ^ j := by
  rw [ErrorEntry.part, hφ.map_mul, alphaPow_mod, location, hφ.map_alphaPow, hφ.map_alphaPow (_ - _ - _),
    ← pow_mul, Nat.mul_comm]

theorem location_inj (hlength : length ≤ 255) {p : Nat} (hp : p < length) {e : ErrorEntry}
    (he : e.position < length) : location φ length e = φ (alphaPow (length - 1 - p)) ↔ e.position = p := by
  refine ⟨fun h => ?_, fun h => by rw [location, h]⟩
  have := alphaPow_injective (by omega) (by omega) (hφ.injective h)
  omega

theorem coeff_listSyndromes (hnodup : es.Nodup) {count j : Nat} (hj : j < count) :
    (polyOf φ (listSyndromes count length es)).coeff j =
      ∑ e ∈ es.toFinset, φ e.value * location φ length e ^ j := by
  rw [coeff_polyOf hφ, listSyndromes_eq_map, List.sum_toFinset _ hnodup]
  simp only [← map_part hφ]
  simp [hj, hφ.map_foldl_xor, hφ.map_zero]

theorem IsErrorList.location_injOn (hes : IsErrorList t length es) (hlength : length ≤ 255) :
    Set.InjOn (location φ length) es.toFinset := by
  intro e he f hf h
  rw [Finset.mem_coe, List.mem_toFinset] at he hf
  have hposition := (location_inj hφ hlength (hes.inside f hf).1 (hes.inside e he).1).mp h
  exact List.inj_on_of_nodup_map hes.distinct he hf hposition

end

/-! ### A run on the syndromes of an error list -/

/-- The locator polynomial that a run finds on the syndromes of an error list. -/
def foundLocator (t length : Nat) (es : List ErrorEntry) : List Byte :=
  (locatorPolynomial (listSyndromes (2 * t) length es)).locator

section
variable {F : Type} [Field F] {φ : Byte → F} (hφ : SymbolMap φ) {t length : Nat} {es : List ErrorEntry}
  (hes : IsErrorList t length es) (hlength : length ≤ 255)
include hφ hes hlength

theorem polyOf_foundLocator :
    polyOf φ (foundLocator t length es) = errorLocator es.toFinset (location φ length) := by
  have hlen : (listSyndromes (2 * t) length es).length = 2 * t := length_listSyndromes _ _ _
  refine polyOf_locatorPolynomial hφ (v := fun e => φ e.value) ?_ ?_ (fun j hj => ?_)
    (hes.location_injOn hφ hlength) (fun e _ => map_alphaPow_ne_zero hφ _) fun e he => ?_
  · exact Finset.card_pos.mp (hes.card ▸ hes.nonempty)
  · rw [hes.card, hlen]
    exact Nat.mul_le_mul_left 2 hes.atMost
  · exact coeff_listSyndromes hφ hes.nodup (hlen ▸ hj)
  · exact fun h => (hes.inside e (List.mem_toFinset.mp he)).2 (hφ.map_eq_zero.mp h)

theorem mem_locatedPositions_foundLocator (p : Nat) :
    p ∈ locatedPositions (foundLocator t length es) length ↔ ∃ e ∈ es, e.position = p := by
  rw [mem_locatedPositions, ← hφ.map_eq_zero, ← eval_polyOf hφ]
  constructor
  · rintro ⟨hp, hzero⟩
    rw [map_alphaPow_neg hφ _ (by omega), polyOf_foundLocator hφ hes hlength,
      eval_errorLocator_eq_zero (map_alphaPow_ne_zero hφ _)] at hzero
    obtain ⟨e, he, hlocation⟩ := hzero
    rw [List.mem_toFinset] at he
    exact ⟨e, he, (location_inj hφ hlength hp (hes.inside e he).1).mp hlocation⟩
  · rintro ⟨e, he, rfl⟩
    refine ⟨(hes.inside e he).1, ?_⟩
    rw [map_alphaPow_neg hφ _ (by omega), polyOf_foundLocator hφ hes hlength,
      eval_errorLocator_eq_zero (map_alphaPow_ne_zero hφ _)]
    exact ⟨e, List.mem_toFinset.mpr he, rfl⟩

/-- The numerator of Forney's formula, as a run computes it. -/
theorem polyOf_take_polyMul :
    polyOf φ ((polyMul (listSyndromes (2 * t) length es) (foundLocator t length es)).take (2 * t)) =
      errorNumerator es.toFinset (location φ length) fun e => φ e.value := by
  have hproduct := X_pow_dvd_iff.mp (errorLocator_mul_syndromes (N := 2 * t) fun j hj =>
    coeff_listSyndromes hφ hes.nodup (length := length) hj)
  have hdegree : (errorNumerator es.toFinset (location φ length) fun e => φ e.value).natDegree < 2 * t := by
    refine (errorNumerator_degree (Finset.card_pos.mp (hes.card ▸ hes.nonempty))).trans_le ?_
    have := hes.atMost
    have := hes.card
    omega
  ext i
  rw [coeff_polyOf_take hφ, polyOf_polyMul hφ, polyOf_foundLocator hφ hes hlength, mul_comm (polyOf φ _)]
  split
  case isTrue hi => exact sub_eq_zero.mp ((coeff_sub _ _ _).symm.trans (hproduct i hi))
  case isFalse hi => exact (coeff_eq_zero_of_natDegree_lt (by omega)).symm

theorem errorValue_foundLocator {e : ErrorEntry} (he : e ∈ es) :
    errorValue (listSyndromes (2 * t) length es) (foundLocator t length es) (length - 1 - e.position) =
      e.value := by
  have := hφ.charTwo
  have hforney := errorNumerator_div_derivative (v := fun e => φ e.value) (hes.location_injOn hφ hlength)
    (List.mem_toFinset.mpr he) (map_alphaPow_ne_zero hφ _)
  refine hφ.injective ?_
  rw [errorValue, length_listSyndromes, hφ.map_mul, hφ.map_mul, hφ.map_inv, ← eval_polyOf hφ,
    ← eval_polyOf hφ, map_alphaPow_neg hφ _ (by omega), polyOf_polyDerivative hφ,
    polyOf_take_polyMul hφ hes hlength, polyOf_foundLocator hφ hes hlength]
  exact hforney.trans (CharTwo.neg_eq _)

theorem locatedEntries_perm :
    (locatedEntries (listSyndromes (2 * t) length es) (foundLocator t length es) length).Perm es := by
  refine (List.perm_ext_iff_of_nodup (nodup_locatedEntries _ _ _) hes.nodup).mpr fun e => ?_
  simp only [locatedEntries, List.mem_map, mem_locatedPositions_foundLocator hφ hes hlength]
  constructor
  · rintro ⟨_, ⟨f, hf, rfl⟩, rfl⟩
    rwa [errorValue_foundLocator hφ hes hlength hf]
  · exact fun he => ⟨e.position, ⟨e, he, rfl⟩, by rw [errorValue_foundLocator hφ hes hlength he]⟩

end

/-- A run on the syndromes of an error list of R62 reports that list. -/
theorem locate_listSyndromes {t length : Nat} {es : List ErrorEntry} (hes : IsErrorList t length es)
    (hlength : length ≤ 255) :
    ∃ found, locate (listSyndromes (2 * t) length es) t length = some found ∧ found.Perm es := by
  have hperm := @locatedEntries_perm Symbol symbolField Symbol.mk symbolMap_mk t length es hes hlength
  refine ⟨_, (locate_eq _ _ _).trans (if_pos ((accountsFor_iff _ _ _ _).mpr ⟨hes.perm hperm, ?_⟩)), hperm⟩
  rw [length_listSyndromes]
  exact listSyndromes_perm hperm _ _

end Sys2Proof.Machine
end

section

open Sys2Proof Sys2Proof.Machine

/-- Settles O40: a run on the syndromes of at most t errors finds them by the recursion and Forney's formula,
and what it reports has passed the test against the syndromes. -/
theorem locatorFindsUpToTErrors : Obligations.LocatorFindsUpToTErrors := by
  intro st p hp
  refine ⟨fun errors _ hclean hnonempty hatMost hdistinct hinside => ?finds, fun found hfound => ?sound⟩
  case finds =>
    rw [syndromesOf_withErrors st.t p errors (fun e he => (hinside e he).1) hclean]
    exact locate_listSyndromes ⟨hnonempty, hatMost, hdistinct, hinside⟩ hp
  case sound =>
    obtain ⟨⟨hnonempty, hatMost, hdistinct, hinside⟩, hlist⟩ := locate_sound hfound
    refine ⟨hnonempty, hatMost, hdistinct, hinside,
      isClean_withErrors st.t p found (fun e he => (hinside e he).1) ?_⟩
    rwa [length_syndromesOf] at hlist

end

section
/-! The frame conditions of the order unit's and the locator's updates, up to the handlers of chapter 06: the
pieces that the abandonment of a frame, the resolution of chain members and the release of a chain write. -/

namespace Sys2Proof.Machine

/-! ### What unchanged pieces say of the reads -/

theorem State.SameBut.locator_eq {s t : State} {l : List Piece} (h : s.SameBut t l)
    (hl : .locator ∉ l) : t.locator = s.locator := h.2 .locator hl

theorem State.SameBut.engineRun_eq {s t : State} {l : List Piece} (h : s.SameBut t l)
    (hl : .locator ∉ l) (e : EngineId) : t.engineRun e = s.engineRun e := by
  cases e <;> simp [State.engineRun, h.locator_eq hl]

theorem State.SameBut.events_eq {s t : State} {l : List Piece} (h : s.SameBut t l)
    (hl : .events ∉ l) : t.events = s.events := h.2 .events hl

theorem State.SameBut.holdOut_eq {s t : State} {l : List Piece} (h : s.SameBut t l)
    (hl : .holdOut ∉ l) : t.store.holdOut = s.store.holdOut := h.2 .holdOut hl

theorem State.SameBut.forwardQueue_eq {s t : State} {l : List Piece} (h : s.SameBut t l)
    (hl : .forwardQueue ∉ l) : t.egress.forwardQueue = s.egress.forwardQueue := h.2 .forwardQueue hl

/-! ### The updates -/

theorem State.advanceTo_sameBut (s : State) (n : Nat) : s.SameBut (s.advanceTo n) [.clock] :=
  ⟨rfl, fun p hp => by cases p <;> simp [State.samePiece] at hp ⊢⟩

theorem State.setChain_sameBut (s : State) (f : Byte) (l : List DescId) :
    s.SameBut (s.setChain f l) [.chains] :=
  ⟨rfl, fun p hp => by cases p <;> simp [State.samePiece] at hp ⊢⟩

theorem State.raise_sameBut (s : State) (c : EventClass) : s.SameBut (s.raise c) [.events] :=
  ⟨by simp, fun p hp => by cases p <;> simp [State.samePiece] at hp ⊢⟩

theorem State.setDamaged_sameBut (s : State) (d : DescId) : s.SameBut (s.setDamaged d) [.descriptors] :=
  ⟨rfl, fun p hp => by cases p <;> simp [State.samePiece] at hp ⊢⟩

theorem State.withdrawFromLocator_sameBut (s : State) (d : DescId) :
    s.SameBut (s.withdrawFromLocator d) [.locator] :=
  ⟨rfl, fun p hp => by cases p <;> simp [State.samePiece] at hp ⊢⟩

theorem State.giveHeadTo_sameBut (s : State) (first : Option EngineId) :
    s.SameBut (s.giveHeadTo first) [.locator] :=
  ⟨rfl, fun p hp => by
    cases p <;> simp [State.samePiece, State.desc?, State.chain, State.flowCounters] at hp ⊢⟩

/-- The release of a frame of any role. -/
theorem State.releaseDropped_sameBut_counted (s : State) (d : DescId) :
    s.SameBut (s.releaseDropped d) [.freeLists, .descriptors, .holdOut, .flowCounters] :=
  ⟨by simp, fun p hp => by cases p <;> simp [State.samePiece] at hp ⊢⟩

/-! ### The handlers of an expiry -/

/-- A frame that an expiry abandons, before its failure policy is applied: it is taken from the locator,
counted twice and raised (R97). -/
def State.takeBack (s : State) (d : DescId) (f : Byte) : State :=
  (((s.withdrawFromLocator d).countFlow f .expired 1).countFlow f .codeFailed 1).raise .codeFailure

theorem State.takeBack_sameBut (s : State) (d : DescId) (f : Byte) :
    s.SameBut (s.takeBack d f) [.locator, .flowCounters, .events] :=
  ((((s.withdrawFromLocator_sameBut d).trans (State.countFlow_sameBut _ f .expired 1)).trans
    (State.countFlow_sameBut _ f .codeFailed 1)).trans (State.raise_sameBut _ .codeFailure)).mono
      (by decide)

/-- The pieces that the resolution of frames writes. -/
def resolvedPieces : List Piece :=
  [.freeLists, .holdOut, .descriptors, .locator, .forwardQueue, .flowCounters, .events]

/-- An abandoned frame under DROP goes back to the store (R99). -/
theorem State.abandon_drop (s : State) (d : DescId) (fr : Descriptor) (hp : fr.entry.policy = .drop) :
    s.abandon d fr = (s.takeBack d fr.flow).releaseDropped d := by
  simp [State.abandon, State.failedOr, State.takeBack, hp]

/-- An abandoned frame under MARK is marked and goes on (R99). -/
theorem State.abandon_mark (s : State) (d : DescId) (fr : Descriptor) (hp : fr.entry.policy = .mark) :
    s.abandon d fr = ((s.takeBack d fr.flow).setDamaged d).toForward d := by
  simp [State.abandon, State.failedOr, State.takeBack, hp]

theorem State.abandon_sameBut (s : State) (d : DescId) (fr : Descriptor) :
    s.SameBut (s.abandon d fr) resolvedPieces := by
  have htaken := s.takeBack_sameBut d fr.flow
  cases hp : fr.entry.policy with
  | drop =>
    rw [s.abandon_drop d fr hp]
    exact (htaken.trans (State.releaseDropped_sameBut_counted _ d)).mono (by decide)
  | mark =>
    rw [s.abandon_mark d fr hp]
    exact ((htaken.trans (State.setDamaged_sameBut _ d)).trans (State.toForward_sameBut _ d)).mono
      (by decide)

/-- A QUEUED or LOCATING member is abandoned (R96). -/
theorem State.resolveMember_located (s : State) (d : DescId) (fr : Descriptor) (hd : s.desc? d = some fr)
    (hp : fr.place = .queued ∨ fr.place = .locating) : s.resolveMember d = s.abandon d fr := by
  obtain hp | hp := hp <;> simp [State.resolveMember, hd, hp]

/-- A HELD member goes to the forward queue (R96). -/
theorem State.resolveMember_held (s : State) (d : DescId) (fr : Descriptor) (hd : s.desc? d = some fr)
    (hp : fr.place = .held) : s.resolveMember d = s.toForward d := by
  simp [State.resolveMember, hd, hp]

theorem State.resolveMember_sameBut (s : State) (d : DescId) :
    s.SameBut (s.resolveMember d) resolvedPieces := by
  unfold State.resolveMember
  split
  · exact .refl s _
  · next fr _ =>
    split
    case h_1 | h_2 => exact s.abandon_sameBut d fr
    case h_3 => exact (s.toForward_sameBut d).mono (by decide)
    all_goals exact .refl s _

theorem State.foldl_resolveMember_sameBut (l : List DescId) (s : State) :
    s.SameBut (l.foldl State.resolveMember s) resolvedPieces := by
  induction l generalizing s with
  | nil => exact .refl s _
  | cons d l ih => exact ((s.resolveMember_sameBut d).trans (ih _)).mono (by decide)

theorem State.allToForward_sameBut (l : List DescId) (s : State) :
    s.SameBut (s.allToForward l) [.descriptors, .forwardQueue] := by
  induction l generalizing s with
  | nil => exact .refl s _
  | cons d l ih => exact ((s.toForward_sameBut d).trans (ih _)).mono (by decide)

theorem State.releaseOnward_sameBut (s : State) (f : Byte) :
    s.SameBut (s.releaseOnward f) [.descriptors, .forwardQueue, .chains] :=
  ((State.allToForward_sameBut _ s).trans (State.setChain_sameBut _ f _)).mono (by decide)

/-- The engine freed first keeps its turn while frames are resolved; only the end of the expiry decides on
it (R79). -/
theorem State.resolveMember_firstFreed (s : State) (d : DescId) :
    (s.resolveMember d).locator.firstFreed = s.locator.firstFreed := by
  have habandon : ∀ fr, (s.abandon d fr).locator.firstFreed = s.locator.firstFreed := fun fr => by
    cases hp : fr.entry.policy with
    | drop => simp [s.abandon_drop d fr hp, State.takeBack, State.withdrawFromLocator]
    | mark => simp [s.abandon_mark d fr hp, State.takeBack, State.withdrawFromLocator]
  unfold State.resolveMember
  split
  · rfl
  · split <;> simp [habandon]

theorem State.foldl_resolveMember_firstFreed (l : List DescId) (s : State) :
    (l.foldl State.resolveMember s).locator.firstFreed = s.locator.firstFreed := by
  induction l generalizing s with
  | nil => rfl
  | cons d l ih => exact (ih _).trans (s.resolveMember_firstFreed d)

/-! ### The command -/

/-- DEADLINE_EXPIRY of a frame whose deadline runs. -/
theorem exec_deadlineExpiry (s : State) (d : DescId) (fr : Descriptor) (due : Nat)
    (hd : s.desc? d = some fr) (hdue : fr.deadline = some due) :
    exec (.deadlineExpiry d) s = .next ((s.advanceTo due).expireFrame d fr).settle := by
  simp [exec, execDeadlineExpiry, hd, hdue, State.done]

end Sys2Proof.Machine
end

section
/-! What the resolution of frames at an expiry leaves behind, as one relation between two states:
`State.Resolved` holds after nothing has been resolved, and each step of an expiry carries it on. -/

namespace Sys2Proof.Machine

/-! ### HOLD_OUT over several releases (R33) -/

/-- Where HOLD_OUT agrees with the free lists its evaluation changes nothing. -/
theorem FrameStore.HoldOutAgrees.nextHoldOut_eq {st : FrameStore} (h : st.HoldOutAgrees) :
    nextHoldOut st.holdOut st.freeCells.length st.freeDescs.length = st.holdOut := by
  unfold FrameStore.HoldOutAgrees at h
  simp only [nextHoldOut, Config.assertCells, Config.assertDescs, Config.releaseCells, Config.releaseDescs]
  cases hb : st.holdOut <;> simp only [hb] at h ⊢
  · have hquiet : ¬(st.freeCells.length < 16 ∨ st.freeDescs.length < 4) := by simp at h; omega
    simp [hquiet]
  · have hfull : ¬(24 ≤ st.freeCells.length ∧ 8 ≤ st.freeDescs.length) := h
    simp [hfull]

/-- While releases alone follow one another, the last evaluation decides. -/
theorem FrameStore.HoldOutAgrees.nextHoldOut_nextHoldOut {st : FrameStore} (h : st.HoldOutAgrees)
    {c d c' d' : Nat} (hc : st.freeCells.length ≤ c) (hd : st.freeDescs.length ≤ d) (hc' : c ≤ c')
    (hd' : d ≤ d') :
    nextHoldOut (nextHoldOut st.holdOut c d) c' d' = nextHoldOut st.holdOut c' d' := by
  unfold FrameStore.HoldOutAgrees at h
  simp only [nextHoldOut, Config.assertCells, Config.assertDescs, Config.releaseCells, Config.releaseDescs]
  cases hb : st.holdOut <;> simp only [hb] at h ⊢
  · have hquiet : ¬(c < 16 ∨ d < 4) := by simp at h; omega
    simp [hquiet]
  · by_cases hreleased : 24 ≤ c ∧ 8 ≤ d
    · have hstays : ¬(c' < 16 ∨ d' < 4) := by omega
      have hreleased' : 24 ≤ c' ∧ 8 ≤ d' := by omega
      simp [hreleased, hreleased', hstays]
    · simp [hreleased]

/-! ### The counts of an expiry (R97) -/

/-- A flow's counters after the abandonment of `n` of its frames, `m` of which were dropped. -/
def expiryCounts (n m : Nat) (k : FlowCounters) : FlowCounters :=
  ((k.count .expired n).count .codeFailed n).count .dropped m

theorem expiryCounts_takeBack (n m : Nat) (k : FlowCounters) :
    ((expiryCounts n m k).count .expired 1).count .codeFailed 1 = expiryCounts (n + 1) m k := by
  simp [expiryCounts, FlowCounters.count, counted]
  omega

theorem expiryCounts_drop (n m : Nat) (k : FlowCounters) :
    (expiryCounts n m k).count .dropped 1 = expiryCounts n (m + 1) k := by
  simp [expiryCounts, FlowCounters.count, counted]
  omega

/-- Nothing dropped counts nothing dropped. -/
theorem expiryCounts_none_dropped {s : State} (h : s.CounterInv) (n : Nat) (f : Byte) :
    expiryCounts n 0 (s.flowCounters f) =
      ((s.flowCounters f).count .expired n).count .codeFailed n := by
  have hdropped : (s.flowCounters f).dropped ≤ 4294967295 := h.flows f _ (by simp [State.flowValues])
  simp [expiryCounts, FlowCounters.count, counted, Config.counterLimit, hdropped]

theorem expiryCounts_zero {s : State} (h : s.CounterInv) (f : Byte) :
    expiryCounts 0 0 (s.flowCounters f) = s.flowCounters f := by
  have hexpired : (s.flowCounters f).expired ≤ 4294967295 := h.flows f _ (by simp [State.flowValues])
  have hfailed : (s.flowCounters f).codeFailed ≤ 4294967295 := h.flows f _ (by simp [State.flowValues])
  rw [expiryCounts_none_dropped h]
  simp [FlowCounters.count, counted, Config.counterLimit, hexpired, hfailed]

/-- Two changes of one flow's counters in a row. -/
theorem State.FlowCounted.trans {s t u : State} {f : Byte} {a b : FlowCounters → FlowCounters}
    (hst : s.FlowCounted t f a) (htu : t.FlowCounted u f b) : s.FlowCounted u f (fun k => b (a k)) := by
  intro g
  rw [htu g, hst g]
  split <;> rfl

/-! ### The run of an engine -/

/-- A run that is taken back from an engine was on the descriptor named. -/
theorem State.withdrawFromLocator_engineRun (s : State) (d : DescId) (e : EngineId) :
    (s.withdrawFromLocator d).engineRun e = if s.engineDesc e = some d then none else s.engineRun e := by
  have hrun : (s.withdrawFromLocator d).engineRun e = runUnless (s.engineRun e) d := by cases e <;> rfl
  rw [hrun]
  unfold runUnless State.engineDesc
  cases s.engineRun e <;> simp

/-! ### What has been resolved -/

/-- A descriptor as it goes to the forward queue at an expiry: one that was HELD as it was, any other marked
(R96, R99). -/
def State.sentOn (s : State) (x : DescId) (fr : Descriptor) : Descriptor :=
  { fr with
    header := if s.isHeld x then fr.header else withDamaged fr.header
    place := .forward, deadline := none }

theorem State.sentOn_held {s : State} {x : DescId} (h : s.isHeld x = true) :
    s.sentOn x = fun fr => { fr with place := .forward, deadline := none } := by
  funext fr
  simp [State.sentOn, h]

theorem State.sentOn_marked {s : State} {x : DescId} (h : s.isHeld x = false) :
    s.sentOn x = fun fr =>
      { fr with header := withDamaged fr.header, place := .forward, deadline := none } := by
  funext fr
  simp [State.sentOn, h]

/-- From the first state to the second an expiry has taken the frames `taken` from the locator, freed the
frames `dropped` of them, and sent the frames `sent` to the forward queue, each list in this order; the frames
taken were of flow `f`. -/
structure State.Resolved (s t : State) (f : Byte) (taken dropped sent : List DescId) : Prop where
  queue : t.locator.queue = s.locator.queue.filter (· ∉ taken)
  engines : ∀ e, t.engineRun e =
    if ∃ x ∈ taken, s.engineDesc e = some x then none else s.engineRun e
  events : t.events = (Nat.iterate (State.raise · .codeFailure) taken.length s).events
  counted : s.FlowCounted t f (expiryCounts taken.length dropped.length)
  forwardQueue : t.egress.forwardQueue = s.egress.forwardQueue ++ sent
  freeDescs : t.store.freeDescs = s.store.freeDescs ++ dropped
  freeCells : t.store.freeCells = s.store.freeCells ++ dropped.flatMap s.cellsOf
  holdOut : t.store.holdOut =
    nextHoldOut s.store.holdOut t.store.freeCells.length t.store.freeDescs.length
  freed : ∀ x ∈ dropped, t.desc? x = none
  onward : ∀ x ∈ sent, t.desc? x = (s.desc? x).map (s.sentOn x)
  others : ∀ x, x ∉ dropped → x ∉ sent → t.desc? x = s.desc? x

namespace State.Resolved

variable {s t u : State} {f : Byte} {taken dropped sent : List DescId} {x : DescId}

/-- At the start of an expiry nothing has been resolved. -/
theorem nil (hinv : s.Inv) (h : s.SameBut t [.clock, .chains]) : s.Resolved t f [] [] [] := by
  obtain ⟨hcells, hdescs⟩ := h.2 .freeLists (by decide)
  refine ⟨?_, fun e => ?_, h.events_eq (by decide), fun g => ?_, ?_, ?_, ?_, ?_, ?_, ?_,
    fun x _ _ => h.2 .descriptors (by decide) x⟩
  · simp [h.locator_eq (by decide)]
  · simp [h.engineRun_eq (by decide)]
  · have hcounters := h.2 .flowCounters (by decide) g
    simp [hcounters, expiryCounts_zero hinv.counters]
  · simpa using h.forwardQueue_eq (by decide)
  · simpa using hdescs
  · simpa using hcells
  · rw [hcells, hdescs, hinv.store.holdOut.nextHoldOut_eq]
    exact h.holdOut_eq (by decide)
  · simp
  · simp

/-- A frame goes to the forward queue. -/
theorem send (h : s.Resolved t f taken dropped sent) (hdropped : x ∉ dropped)
    (hu : t.SameBut u [.descriptors, .forwardQueue])
    (hqueue : u.egress.forwardQueue = t.egress.forwardQueue ++ [x]) (hothers : t.OtherDescs u x)
    (hx : u.desc? x = (s.desc? x).map (s.sentOn x)) : s.Resolved u f taken dropped (sent ++ [x]) := by
  obtain ⟨hcells, hdescs⟩ := hu.2 .freeLists (by decide)
  have hcounters := hu.2 .flowCounters (by decide)
  refine ⟨?_, fun e => ?_, (hu.events_eq (by decide)).trans h.events, fun g => ?_, ?_,
    hdescs.trans h.freeDescs, hcells.trans h.freeCells, ?_, fun y hy => ?_, fun y hy => ?_,
    fun y hy hy' => ?_⟩
  · rw [hu.locator_eq (by decide), h.queue]
  · rw [hu.engineRun_eq (by decide), h.engines]
  · exact (hcounters g).trans (h.counted g)
  · rw [hqueue, h.forwardQueue, List.append_assoc]
  · rw [hcells, hdescs]
    exact (hu.holdOut_eq (by decide)).trans h.holdOut
  · rw [hothers y (ne_of_mem_of_not_mem hy hdropped)]
    exact h.freed y hy
  · by_cases hyx : y = x
    · rw [hyx, hx]
    · rw [hothers y hyx]
      exact h.onward y (by simpa [hyx] using hy)
  · obtain ⟨hsent, hyx⟩ : y ∉ sent ∧ y ≠ x := by simpa using hy'
    rw [hothers y hyx]
    exact h.others y hy hsent

/-- A frame that was HELD goes to the forward queue as it is. -/
theorem toForward (h : s.Resolved t f taken dropped sent) (hdropped : x ∉ dropped) (hsent : x ∉ sent)
    (hheld : s.isHeld x = true) : s.Resolved (t.toForward x) f taken dropped (sent ++ [x]) := by
  refine h.send hdropped (t.toForward_sameBut x) rfl (fun y hy => by simp [hy]) ?_
  simp [h.others x hdropped hsent, State.sentOn_held hheld]

/-- A frame that was not HELD goes to the forward queue marked. -/
theorem markForward (h : s.Resolved t f taken dropped sent) (hdropped : x ∉ dropped) (hsent : x ∉ sent)
    (hheld : s.isHeld x = false) :
    s.Resolved ((t.setDamaged x).toForward x) f taken dropped (sent ++ [x]) := by
  refine h.send hdropped (((t.setDamaged_sameBut x).trans (State.toForward_sameBut _ x)).mono (by decide))
    rfl (fun y hy => by simp [hy]) ?_
  simp [h.others x hdropped hsent, State.sentOn_marked hheld, Function.comp_def]

/-- A frame is taken from the locator. -/
theorem takeBack (h : s.Resolved t f taken dropped sent) (x : DescId) :
    s.Resolved (t.takeBack x f) f (taken ++ [x]) dropped sent := by
  have hdesc : ∀ y, (t.takeBack x f).desc? y = t.desc? y := by simp [State.takeBack]
  refine ⟨?_, fun e => ?_, ?_, ?_, ?_, ?_, ?_, ?_, fun y hy => (hdesc y).trans (h.freed y hy),
    fun y hy => (hdesc y).trans (h.onward y hy), fun y hy hy' => (hdesc y).trans (h.others y hy hy')⟩
  · simp [State.takeBack, h.queue, List.filter_filter, not_or, and_comm]
  · have hrun : (t.takeBack x f).engineRun e = (t.withdrawFromLocator x).engineRun e := by
      simp [State.takeBack]
    have hon : t.engineDesc e =
        if ∃ y ∈ taken, s.engineDesc e = some y then none else s.engineDesc e := by
      change (t.engineRun e).map Run.desc = _
      rw [h.engines e, apply_ite (Option.map Run.desc)]
      rfl
    rw [hrun, State.withdrawFromLocator_engineRun, hon, h.engines e]
    by_cases hbefore : ∃ y ∈ taken, s.engineDesc e = some y
    · obtain ⟨y, hy, hey⟩ := hbefore
      simp [hey, hy]
    · simp [hbefore, or_and_right, exists_or]
  · rw [List.length_append, List.length_singleton, Function.iterate_succ_apply']
    exact State.raise_events_congr _ _ _ h.events
  · have hcounted : t.FlowCounted (t.takeBack x f) f
        (fun k => (k.count .expired 1).count .codeFailed 1) := fun g => by
      by_cases hg : g = f <;> simp [State.takeBack, hg]
    simpa only [expiryCounts_takeBack, List.length_append, List.length_singleton] using
      h.counted.trans hcounted
  · simpa [State.takeBack] using h.forwardQueue
  · simpa [State.takeBack] using h.freeDescs
  · simpa [State.takeBack] using h.freeCells
  · simpa [State.takeBack] using h.holdOut

/-- A DATA frame of the flow goes back to the store. -/
theorem release (hinv : s.Inv) (h : s.Resolved t f taken dropped sent) {fr : Descriptor}
    (hdropped : x ∉ dropped) (hsent : x ∉ sent) (hx : s.desc? x = some fr) (hdata : fr.isData = true)
    (hflow : fr.flow = f) : s.Resolved (t.releaseDropped x) f taken (dropped ++ [x]) sent := by
  have htx : t.desc? x = some fr := (h.others x hdropped hsent).trans hx
  obtain ⟨⟨hfree, hdescs, hcells, hholdOut⟩, hothers, hcount⟩ := t.releaseDropped_freed x fr htx
  refine ⟨by simpa using h.queue, fun e => by simpa using h.engines e, by simpa using h.events, ?_,
    by simpa using h.forwardQueue, ?_, ?_, ?_, fun y hy => ?_, fun y hy => ?_, fun y hy hy' => ?_⟩
  · have hcounted : t.FlowCounted (t.releaseDropped x) f (fun k => k.count .dropped 1) := fun g => by
      simpa [Descriptor.countIf, hdata, hflow] using hcount g
    simpa only [expiryCounts_drop, List.length_append, List.length_singleton] using
      h.counted.trans hcounted
  · rw [hdescs, h.freeDescs, List.append_assoc]
  · rw [hcells, h.freeCells, List.append_assoc, List.flatMap_append]
    simp [State.cellsOf, hx]
  · rw [hholdOut, h.holdOut]
    refine hinv.store.holdOut.nextHoldOut_nextHoldOut ?_ ?_ ?_ ?_ <;>
      simp [hcells, hdescs, h.freeCells, h.freeDescs]
  · by_cases hyx : y = x
    · rw [hyx, hfree]
    · rw [hothers y hyx]
      exact h.freed y (by simpa [hyx] using hy)
  · rw [hothers y (ne_of_mem_of_not_mem hy hsent)]
    exact h.onward y hy
  · obtain ⟨hold, hyx⟩ : y ∉ dropped ∧ y ≠ x := by simpa using hy
    rw [hothers y hyx]
    exact h.others y hold hy'

/-- The turn of the engine freed first is given without touching any frame. -/
theorem giveHeadTo (h : s.Resolved t f taken dropped sent) (first : Option EngineId) :
    s.Resolved (t.giveHeadTo first) f taken dropped sent :=
  { h with engines := fun e => (t.giveHeadTo_engineRun first e).trans (h.engines e) }

/-- A chain is set without touching any frame. -/
theorem setChain (h : s.Resolved t f taken dropped sent) (g : Byte) (l : List DescId) :
    s.Resolved (t.setChain g l) f taken dropped sent :=
  { h with engines := fun e => (t.setChain_engineRun g l e).trans (h.engines e) }

/-- Where one frame alone was dropped, that frame has gone back to the store (R31). -/
theorem freed_single (h : s.Resolved t f taken [x] sent) {fr : Descriptor} (hx : s.desc? x = some fr) :
    s.Freed t x fr :=
  ⟨h.freed x (List.mem_singleton_self x), h.freeDescs, by simpa [State.cellsOf, hx] using h.freeCells,
    h.holdOut⟩

/-- Where no frame was dropped the free lists and HOLD_OUT are as they were. -/
theorem storeKept (hinv : s.Inv) (h : s.Resolved t f taken [] sent) : s.StoreKept t := by
  have hdescs : t.store.freeDescs = s.store.freeDescs := by simpa using h.freeDescs
  have hcells : t.store.freeCells = s.store.freeCells := by simpa using h.freeCells
  refine ⟨hdescs, hcells, ?_⟩
  rw [h.holdOut, hdescs, hcells, hinv.store.holdOut.nextHoldOut_eq]

/-- Frames that were HELD go to the forward queue in order. -/
theorem allToForward {l : List DescId} (h : s.Resolved t f taken dropped sent) (hnodup : l.Nodup)
    (hheld : ∀ x ∈ l, s.isHeld x = true) (hdropped : ∀ x ∈ l, x ∉ dropped) (hsent : ∀ x ∈ l, x ∉ sent) :
    s.Resolved (t.allToForward l) f taken dropped (sent ++ l) := by
  induction l generalizing t sent with
  | nil => simpa [State.allToForward] using h
  | cons x l ih =>
    obtain ⟨hxl, hl⟩ := List.nodup_cons.mp hnodup
    simp only [List.mem_cons, forall_eq_or_imp] at hheld hdropped hsent
    have hnext := ih (h.toForward hdropped.1 hsent.1 hheld.1) hl hheld.2 hdropped.2 fun y hy => by
      simpa using ⟨hsent.2 y hy, ne_of_mem_of_not_mem hy hxl⟩
    simpa [State.allToForward] using hnext

end State.Resolved

/-! ### The members of a chain, resolved in order -/

/-- The frames of a list that are with the locator, and not HELD. -/
def State.abandonedOf (s : State) (l : List DescId) : List DescId := l.filter fun x => !s.isHeld x

/-- The abandoned frames of a list that are under DROP. -/
def State.droppedOf (s : State) (l : List DescId) : List DescId := (s.abandonedOf l).filter s.underDrop

/-- The frames of a list that go on: those HELD, and those under MARK. -/
def State.sentOf (s : State) (l : List DescId) : List DescId :=
  l.filter fun x => s.isHeld x || !s.underDrop x

/-- A frame that waits is HELD or with the locator (R85). -/
theorem Descriptor.waits_iff (fr : Descriptor) :
    fr.waits = true ↔ (fr.place = .queued ∨ fr.place = .locating) ∨ fr.place = .held := by
  simp [Descriptor.waits, or_assoc]

/-- HELD, in the rule's terms. -/
theorem State.isHeld_iff (s : State) (d : DescId) : s.isHeld d = true ↔ s.InPlace d .held := by
  unfold State.isHeld State.InPlace
  cases s.desc? d <;> simp

theorem State.isHeld_eq (s : State) (d : DescId) (fr : Descriptor) (hd : s.desc? d = some fr) :
    s.isHeld d = decide (fr.place = .held) := by
  simp [State.isHeld, hd]

theorem State.underDrop_eq (s : State) (d : DescId) (fr : Descriptor) (hd : s.desc? d = some fr) :
    s.underDrop d = decide (fr.entry.policy = .drop) := by
  simp [State.underDrop, hd]

/-- One more member is resolved, by its place and under its own policy (R96, R97). -/
theorem State.Resolved.resolveMember {s t : State} {f : Byte} {l : List DescId} {d : DescId}
    {fr : Descriptor} (hinv : s.Inv)
    (h : s.Resolved t f (s.abandonedOf l) (s.droppedOf l) (s.sentOf l)) (hnew : d ∉ l)
    (hd : s.desc? d = some fr) (hwaits : fr.waits = true) (hflow : fr.flow = f) :
    s.Resolved (t.resolveMember d) f (s.abandonedOf (l ++ [d])) (s.droppedOf (l ++ [d]))
      (s.sentOf (l ++ [d])) := by
  have hdropped : d ∉ s.droppedOf l := by simp [State.droppedOf, State.abandonedOf, hnew]
  have hsent : d ∉ s.sentOf l := by simp [State.sentOf, hnew]
  have htd : t.desc? d = some fr := (h.others d hdropped hsent).trans hd
  have hheld := s.isHeld_eq d fr hd
  have hdrop := s.underDrop_eq d fr hd
  obtain hlocated | hplace := fr.waits_iff.mp hwaits
  · have hnot : s.isHeld d = false := by obtain hp | hp := hlocated <;> simp [hheld, hp]
    have htaken := h.takeBack d
    rw [t.resolveMember_located d fr htd hlocated]
    cases hp : fr.entry.policy with
    | drop =>
      rw [t.abandon_drop d fr hp, hflow]
      simpa [State.abandonedOf, State.droppedOf, State.sentOf, hnot, hdrop, hp] using
        htaken.release hinv hdropped hsent hd (hinv.chains.dataOnly d fr hd hwaits) hflow
    | mark =>
      rw [t.abandon_mark d fr hp, hflow]
      simpa [State.abandonedOf, State.droppedOf, State.sentOf, hnot, hdrop, hp] using
        htaken.markForward hdropped hsent hnot
  · rw [t.resolveMember_held d fr htd hplace]
    simpa [State.abandonedOf, State.droppedOf, State.sentOf, hheld, hplace] using
      h.toForward hdropped hsent (by simp [hheld, hplace])

/-- Distinct waiting frames of one flow, resolved in order. -/
theorem State.Resolved.resolveMembers {s t : State} {f : Byte} {l : List DescId} (hinv : s.Inv)
    (h : s.Resolved t f [] [] []) (hnodup : l.Nodup)
    (hl : ∀ x ∈ l, ∃ fr, s.desc? x = some fr ∧ fr.waits = true ∧ fr.flow = f) :
    s.Resolved (l.foldl State.resolveMember t) f (s.abandonedOf l) (s.droppedOf l) (s.sentOf l) := by
  induction l using List.reverseRecOn with
  | nil => exact h
  | append_singleton l d ih =>
    obtain ⟨hnodup, -, hne⟩ := List.nodup_append.mp hnodup
    have hnew : d ∉ l := fun hmem => hne d hmem d (by simp) rfl
    obtain ⟨fr, hd, hwaits, hflow⟩ := hl d (by simp)
    rw [List.foldl_concat]
    exact (ih hnodup fun x hx => hl x (by simp [hx])).resolveMember hinv hnew hd hwaits hflow

end Sys2Proof.Machine
end

section
/-! The expiry of a deadline as a whole: what the members of a chain are, which engines an expiry frees, and
the two courses of the command. -/

namespace Sys2Proof.Machine

/-! ### The end of the event -/

/-- The last raise and the settling of an event touch no frame. -/
theorem State.raise_settle_sameBut (s : State) (c : EventClass) :
    s.SameBut (s.raise c).settle [.events, .holdWait] :=
  (s.raise_sameBut c).trans (State.settle_sameBut _)

/-! ### The members of a chain -/

theorem upTo_append_cons {d : DescId} {ahead : List DescId} (later : List DescId) (h : d ∉ ahead) :
    upTo (ahead ++ d :: later) d = ahead ++ [d] := by
  unfold upTo
  rw [List.takeWhile_append_of_pos fun x hx => decide_eq_true (ne_of_mem_of_not_mem hx h)]
  simp

theorem behind_append_cons {d : DescId} {ahead : List DescId} (later : List DescId) (h : d ∉ ahead) :
    behind (ahead ++ d :: later) d = later := by
  unfold behind
  rw [List.dropWhile_append_of_pos fun x hx => decide_eq_true (ne_of_mem_of_not_mem hx h)]
  simp

/-- A chain is its members up to one of them and those behind it. -/
theorem upTo_append_behind {d : DescId} {l : List DescId} (h : d ∈ l) : upTo l d ++ behind l d = l := by
  obtain ⟨ahead, later, rfl, hd⟩ := List.eq_append_cons_of_mem h
  rw [upTo_append_cons later hd, behind_append_cons later hd, List.append_assoc]
  rfl

theorem upTo_ne_nil (l : List DescId) (d : DescId) : upTo l d ≠ [] := by simp [upTo]

/-- The members up to a given one begin with the head of the chain. -/
theorem head?_upTo {d : DescId} {l : List DescId} (h : d ∈ l) : (upTo l d).head? = l.head? := by
  conv_rhs => rw [← upTo_append_behind h, List.head?_append_of_ne_nil _ (upTo_ne_nil l d)]

theorem takeWhile_congr {p q : DescId → Bool} {l : List DescId} (h : ∀ x ∈ l, p x = q x) :
    l.takeWhile p = l.takeWhile q := by
  induction l with
  | nil => rfl
  | cons a l ih =>
    simp only [List.mem_cons, forall_eq_or_imp] at h
    simp [List.takeWhile_cons, h.1, ih h.2]

theorem dropWhile_congr {p q : DescId → Bool} {l : List DescId} (h : ∀ x ∈ l, p x = q x) :
    l.dropWhile p = l.dropWhile q := by
  induction l with
  | nil => rfl
  | cons a l ih =>
    simp only [List.mem_cons, forall_eq_or_imp] at h
    simp [List.dropWhile_cons, h.1, ih h.2]

/-- No frame is twice in a chain: its stamps rise. -/
theorem State.ChainInv.nodup {s : State} (h : s.ChainInv) (f : Byte) : (s.chain f).Nodup :=
  (h.inOrder f).imp fun {a b} hlt hab => by simp [hab] at hlt

/-- A frame classified ORDERED whose deadline runs is in its flow's chain (R85, R92). -/
theorem State.Inv.mem_chain {s : State} (hinv : s.Inv) {d : DescId} {fr : Descriptor} {due : Nat}
    (hd : s.desc? d = some fr) (hordered : fr.isOrdered = true) (hdue : fr.deadline = some due) :
    d ∈ s.chain fr.flow :=
  (hinv.chains.members fr.flow d).mpr
    ⟨fr, hd, hordered, (hinv.deadlines d fr hd).mp (by simp [hdue]), rfl⟩

/-- The members up to a chained frame are not all HELD: the head of a chain never is (R85). -/
theorem State.Inv.abandonedOf_upTo_ne_nil {s : State} (hinv : s.Inv) {d : DescId} {f : Byte}
    (hd : d ∈ s.chain f) : s.abandonedOf (upTo (s.chain f) d) ≠ [] := by
  obtain ⟨x, hx⟩ := Option.isSome_iff_exists.mp
    (List.isSome_head?.mpr (upTo_ne_nil (s.chain f) d))
  have hnot : s.isHeld x = false := by
    obtain ⟨fr, hfr, hplace⟩ | ⟨fr, hfr, hplace⟩ := hinv.chains.head f x (by rw [← head?_upTo hd, hx]) <;>
      simp [s.isHeld_eq x fr hfr, hplace]
  exact List.ne_nil_of_mem (List.mem_filter.mpr ⟨List.mem_of_mem_head? hx, by simp [hnot]⟩)

/-! ### The locator holds no HELD frame (R25) -/

theorem State.Inv.isHeld_of_mem_queue {s : State} (hinv : s.Inv) {x : DescId}
    (hx : x ∈ s.locator.queue) : s.isHeld x = false := by
  obtain ⟨fr, hfr, hplace⟩ := (hinv.places.queued x).mp hx
  simp [s.isHeld_eq x fr hfr, hplace]

theorem State.Inv.isHeld_of_engineDesc {s : State} (hinv : s.Inv) {x : DescId} {e : EngineId}
    (he : s.engineDesc e = some x) : s.isHeld x = false := by
  obtain ⟨fr, hfr, hplace⟩ := (hinv.places.locating x).mp ⟨e, he⟩
  simp [s.isHeld_eq x fr hfr, hplace]

/-- The frames abandoned are all that the queue holds of a list. -/
theorem State.Inv.filter_queue_abandonedOf {s : State} (hinv : s.Inv) (l : List DescId) :
    s.locator.queue.filter (· ∉ s.abandonedOf l) = s.locator.queue.filter (· ∉ l) :=
  List.filter_congr fun x hx => by simp [State.abandonedOf, hinv.isHeld_of_mem_queue hx]

/-- The frames abandoned are all that an engine holds of a list. -/
theorem State.Inv.engineDesc_abandonedOf {s : State} (hinv : s.Inv) (l : List DescId) (e : EngineId) :
    (∃ x ∈ s.abandonedOf l, s.engineDesc e = some x) ↔ ∃ x ∈ l, s.engineDesc e = some x := by
  refine exists_congr fun x => and_congr_left fun he => ?_
  simp [State.abandonedOf, hinv.isHeld_of_engineDesc he]

/-! ### The engine freed first (R79) -/

/-- The engines that the abandonment of frames in order frees. -/
def State.freedEngines (s : State) (l : List DescId) : List EngineId :=
  l.flatMap fun x => [EngineId.engine0, .engine1].filter fun e => s.engineDesc e = some x

theorem Locator.enginesOn_eq (s : State) (d : DescId) :
    s.locator.enginesOn d = [EngineId.engine0, .engine1].filter fun e => s.engineDesc e = some d := by
  by_cases h0 : s.engineDesc .engine0 = some d <;> by_cases h1 : s.engineDesc .engine1 = some d <;>
    simp_all [Locator.enginesOn, State.engineDesc, State.engineRun]

/-- An engine holds one frame and is freed once. -/
theorem State.freedEngines_nodup (s : State) {l : List DescId} (hl : l.Nodup) :
    (s.freedEngines l).Nodup := by
  refine List.nodup_flatMap.mpr ⟨fun x _ => List.Nodup.filter _ (by decide),
    hl.imp fun {x y} hxy e hx hy => ?_⟩
  have hex : s.engineDesc e = some x := by simpa using (List.mem_filter.mp hx).2
  have hey : s.engineDesc e = some y := by simpa using (List.mem_filter.mp hy).2
  exact hxy (Option.some.inj (hex.symm.trans hey))

theorem State.length_freedEngines_le (s : State) {l : List DescId} (hl : l.Nodup) :
    (s.freedEngines l).length ≤ 2 :=
  ((s.freedEngines_nodup hl).subperm (l₂ := [.engine0, .engine1]) fun e _ => by cases e <;> simp).length_le

/-- The turn goes to the first of the two engines, if both are freed. -/
theorem State.freedFirstBy_eq (s : State) {l : List DescId} (hl : l.Nodup) :
    s.locator.freedFirstBy l =
      if (s.freedEngines l).length = 2 then (s.freedEngines l).head? else none := by
  have hle := s.length_freedEngines_le hl
  have hfreed : l.flatMap s.locator.enginesOn = s.freedEngines l :=
    congrArg l.flatMap (funext (Locator.enginesOn_eq s))
  unfold Locator.freedFirstBy
  rw [hfreed]
  split
  · next e x rest heq =>
    have hrest : rest = [] := by simpa [heq] using hle
    simp [heq, hrest]
  · next heq => simp [heq]
  · next heq => simp [heq]

/-! ### A frame with no chain (R98) -/

/-- A frame classified FREE whose deadline runs is with the locator: a HELD frame is ORDERED (R85, R92). -/
theorem State.Inv.located_of_free {s : State} (hinv : s.Inv) {d : DescId} {fr : Descriptor} {due : Nat}
    (hd : s.desc? d = some fr) (hfree : fr.isOrdered = false) (hdue : fr.deadline = some due) :
    fr.place = .queued ∨ fr.place = .locating := by
  have hwaits : fr.waits = true := (hinv.deadlines d fr hd).mp (by simp [hdue])
  obtain hlocated | hheld := fr.waits_iff.mp hwaits
  · exact hlocated
  · simp [hinv.chains.heldOrdered d fr hd hheld] at hfree

/-- A frame classified FREE is in no chain. -/
theorem State.Inv.not_mem_chain {s : State} (hinv : s.Inv) {d : DescId} {fr : Descriptor}
    (hd : s.desc? d = some fr) (hfree : fr.isOrdered = false) (f : Byte) : d ∉ s.chain f := by
  intro hmem
  obtain ⟨fr', hd', hordered, -⟩ := (hinv.chains.members f d).mp hmem
  obtain rfl : fr = fr' := Option.some.inj (hd.symm.trans hd')
  simp [hfree] at hordered

/-- The part after a frame with no chain has been resolved. -/
def State.afterAlone (s : State) (due : Nat) (d : DescId) : State :=
  ((s.advanceTo due).resolveMember d).giveHeadTo none

theorem State.expireFrame_alone (s : State) (due : Nat) (d : DescId) (fr : Descriptor)
    (h : d ∉ s.chain fr.flow) :
    (s.advanceTo due).expireFrame d fr = (s.afterAlone due d).raise .deadlineExpired := by
  simp [State.expireFrame, h, State.afterAlone]

theorem State.afterAlone_sameBut (s : State) (due : Nat) (d : DescId) :
    s.SameBut (s.afterAlone due d) (.clock :: resolvedPieces) :=
  (((s.advanceTo_sameBut due).trans (State.resolveMember_sameBut _ d)).trans
    (State.giveHeadTo_sameBut _ none)).mono (by decide)

theorem State.afterAlone_firstFreed (s : State) (due : Nat) (d : DescId) :
    (s.afterAlone due d).locator.firstFreed =
      if (s.afterAlone due d).locator.queue = [] then none else s.locator.firstFreed := by
  have hbefore := (s.advanceTo due).resolveMember_firstFreed d
  simp [State.afterAlone, hbefore]

/-- A frame resolved alone. -/
theorem State.Inv.resolved_alone {s : State} (hinv : s.Inv) {d : DescId} {fr : Descriptor} (due : Nat)
    (hd : s.desc? d = some fr) (hwaits : fr.waits = true) :
    s.Resolved (s.afterAlone due d) fr.flow (s.abandonedOf [d]) (s.droppedOf [d]) (s.sentOf [d]) :=
  ((State.Resolved.nil hinv ((s.advanceTo_sameBut due).mono (by decide))).resolveMembers hinv
    (List.nodup_singleton d) fun x hx =>
      ⟨fr, by simpa [List.mem_singleton.mp hx] using hd, hwaits, rfl⟩).giveHeadTo none

section

variable {s : State} {d : DescId} {fr : Descriptor} (hinv : s.Inv) (due : Nat)
  (hd : s.desc? d = some fr) (hlocated : fr.place = .queued ∨ fr.place = .locating)

include hd hlocated

theorem State.isHeld_of_located : s.isHeld d = false := by
  obtain hp | hp := hlocated <;> simp [s.isHeld_eq d fr hd, hp]

include hinv

/-- A frame with the locator under DROP, resolved alone, is taken back and freed. -/
theorem State.Inv.resolved_alone_drop (hp : fr.entry.policy = .drop) :
    s.Resolved (s.afterAlone due d) fr.flow [d] [d] [] := by
  simpa [State.abandonedOf, State.droppedOf, State.sentOf, State.isHeld_of_located hd hlocated,
    s.underDrop_eq d fr hd, hp] using
      hinv.resolved_alone due hd (fr.waits_iff.mpr (.inl hlocated))

/-- A frame with the locator under MARK, resolved alone, is taken back and sent on. -/
theorem State.Inv.resolved_alone_mark (hp : fr.entry.policy = .mark) :
    s.Resolved (s.afterAlone due d) fr.flow [d] [] [d] := by
  simpa [State.abandonedOf, State.droppedOf, State.sentOf, State.isHeld_of_located hd hlocated,
    s.underDrop_eq d fr hd, hp] using
      hinv.resolved_alone due hd (fr.waits_iff.mpr (.inl hlocated))

end

/-! ### A chained frame (R96) -/

/-- The part after the chained frame given and the members ahead of it have been resolved. -/
def State.afterMembers (s : State) (due : Nat) (d : DescId) (f : Byte) : State :=
  (upTo (s.chain f) d).foldl State.resolveMember
    ((s.advanceTo due).setChain f (behind (s.chain f) d))

/-- The part after release has gone on past the chained frame given. -/
def State.afterChain (s : State) (due : Nat) (d : DescId) (f : Byte) : State :=
  ((s.afterMembers due d f).giveHeadTo
    (s.locator.freedFirstBy (upTo (s.chain f) d))).releaseOnward f

theorem State.expireFrame_chained (s : State) (due : Nat) (d : DescId) (fr : Descriptor)
    (h : d ∈ s.chain fr.flow) :
    (s.advanceTo due).expireFrame d fr = (s.afterChain due d fr.flow).raise .deadlineExpired := by
  simp [State.expireFrame, h, State.afterChain, State.afterMembers]

section

variable {s : State} {d : DescId} {f : Byte} (hinv : s.Inv) (hd : d ∈ s.chain f)

include hinv hd

theorem State.Inv.upTo_nodup : (upTo (s.chain f) d).Nodup := by
  have hnodup := hinv.chains.nodup f
  rw [← upTo_append_behind hd] at hnodup
  exact hnodup.of_append_left

theorem State.Inv.behind_nodup : (behind (s.chain f) d).Nodup := by
  have hnodup := hinv.chains.nodup f
  rw [← upTo_append_behind hd] at hnodup
  exact hnodup.of_append_right

theorem State.Inv.not_mem_upTo {x : DescId} (hx : x ∈ behind (s.chain f) d) :
    x ∉ upTo (s.chain f) d := by
  have hnodup := hinv.chains.nodup f
  rw [← upTo_append_behind hd] at hnodup
  exact fun hmem => List.disjoint_of_nodup_append hnodup hmem hx

theorem State.Inv.not_mem_droppedOf_upTo {x : DescId} (hx : x ∈ behind (s.chain f) d) :
    x ∉ s.droppedOf (upTo (s.chain f) d) := by
  simp [State.droppedOf, State.abandonedOf, hinv.not_mem_upTo hd hx]

theorem State.Inv.not_mem_sentOf_upTo {x : DescId} (hx : x ∈ behind (s.chain f) d) :
    x ∉ s.sentOf (upTo (s.chain f) d) := by
  simp [State.sentOf, hinv.not_mem_upTo hd hx]

theorem State.Inv.resolved_afterMembers (due : Nat) :
    s.Resolved (s.afterMembers due d f) f (s.abandonedOf (upTo (s.chain f) d))
      (s.droppedOf (upTo (s.chain f) d)) (s.sentOf (upTo (s.chain f) d)) := by
  refine (State.Resolved.nil hinv ((s.advanceTo_sameBut due).trans
    (State.setChain_sameBut _ f _))).resolveMembers hinv (hinv.upTo_nodup hd) fun x hx => ?_
  have hmem : x ∈ s.chain f := by
    rw [← upTo_append_behind hd]
    exact List.mem_append_left _ hx
  obtain ⟨fr, hfr, -, hwaits, hflow⟩ := (hinv.chains.members f x).mp hmem
  exact ⟨fr, hfr, hwaits, hflow⟩

/-- The resolution leaves the frames behind HELD or not as they were. -/
theorem State.Inv.isHeld_afterMembers (due : Nat) (first : Option EngineId) {x : DescId}
    (hx : x ∈ behind (s.chain f) d) :
    ((s.afterMembers due d f).giveHeadTo first).isHeld x = s.isHeld x := by
  have hdesc : ((s.afterMembers due d f).giveHeadTo first).desc? x = s.desc? x :=
    (hinv.resolved_afterMembers hd due).others x (hinv.not_mem_droppedOf_upTo hd hx)
      (hinv.not_mem_sentOf_upTo hd hx)
  simp [State.isHeld, hdesc]

omit hinv hd in
theorem State.afterMembers_chain (due : Nat) (g : Byte) :
    (s.afterMembers due d f).chain g = if g = f then behind (s.chain f) d else s.chain g := by
  have hkept := (State.foldl_resolveMember_sameBut (upTo (s.chain f) d)
    ((s.advanceTo due).setChain f (behind (s.chain f) d))).2 .chains (by decide) g
  simpa [State.afterMembers] using hkept

theorem State.Inv.afterChain_eq (due : Nat) :
    s.afterChain due d f =
      (((s.afterMembers due d f).giveHeadTo (s.locator.freedFirstBy (upTo (s.chain f) d))).allToForward
        ((behind (s.chain f) d).takeWhile s.isHeld)).setChain f
          ((behind (s.chain f) d).dropWhile s.isHeld) := by
  have hchain : ((s.afterMembers due d f).giveHeadTo
      (s.locator.freedFirstBy (upTo (s.chain f) d))).chain f = behind (s.chain f) d :=
    (State.afterMembers_chain due f).trans (if_pos rfl)
  have hheld : ∀ x ∈ behind (s.chain f) d, _ := fun x hx =>
    hinv.isHeld_afterMembers hd due (s.locator.freedFirstBy (upTo (s.chain f) d)) hx
  simp only [State.afterChain, State.releaseOnward, hchain, takeWhile_congr hheld, dropWhile_congr hheld]

theorem State.Inv.resolved_afterChain (due : Nat) :
    s.Resolved (s.afterChain due d f) f (s.abandonedOf (upTo (s.chain f) d))
      (s.droppedOf (upTo (s.chain f) d))
      (s.sentOf (upTo (s.chain f) d) ++ (behind (s.chain f) d).takeWhile s.isHeld) := by
  have hlater : ∀ x ∈ (behind (s.chain f) d).takeWhile s.isHeld, x ∈ behind (s.chain f) d :=
    (List.takeWhile_sublist _).subset
  rw [hinv.afterChain_eq hd due]
  exact (((hinv.resolved_afterMembers hd due).giveHeadTo _).allToForward
    ((hinv.behind_nodup hd).sublist (List.takeWhile_sublist _))
    (fun _ hx => List.mem_takeWhile_imp hx)
    (fun x hx => hinv.not_mem_droppedOf_upTo hd (hlater x hx))
    (fun x hx => hinv.not_mem_sentOf_upTo hd (hlater x hx))).setChain f _

/-- Release has gone on to the next unfinished member. -/
theorem State.Inv.afterChain_chainIs (due : Nat) :
    s.ChainIs (s.afterChain due d f) f ((behind (s.chain f) d).dropWhile s.isHeld) := by
  intro g
  have hkept := (State.allToForward_sameBut ((behind (s.chain f) d).takeWhile s.isHeld)
    ((s.afterMembers due d f).giveHeadTo
      (s.locator.freedFirstBy (upTo (s.chain f) d)))).2 .chains (by decide) g
  have hgiven := (State.giveHeadTo_sameBut (s.afterMembers due d f)
    (s.locator.freedFirstBy (upTo (s.chain f) d))).2 .chains (by decide) g
  rw [hinv.afterChain_eq hd due, State.setChain_chain, hkept, hgiven, State.afterMembers_chain]
  split <;> rfl

theorem State.Inv.afterChain_firstFreed (due : Nat) :
    (s.afterChain due d f).locator.firstFreed =
      if (s.afterChain due d f).locator.queue = [] then none
      else if (s.freedEngines (upTo (s.chain f) d)).length = 2 then
        (s.freedEngines (upTo (s.chain f) d)).head?
      else s.locator.firstFreed := by
  have hlocator := (State.releaseOnward_sameBut ((s.afterMembers due d f).giveHeadTo
    (s.locator.freedFirstBy (upTo (s.chain f) d))) f).locator_eq (by decide)
  have hbefore : (s.afterMembers due d f).locator.firstFreed = s.locator.firstFreed :=
    State.foldl_resolveMember_firstFreed _ _
  have hturn : (s.afterChain due d f).locator = _ := hlocator
  rw [hturn]
  simp only [State.giveHeadTo_locator, List.isEmpty_iff, hbefore, s.freedFirstBy_eq (hinv.upTo_nodup hd)]
  split
  · rfl
  · split
    · next hboth =>
      obtain ⟨e, he⟩ := Option.isSome_iff_exists.mp (List.isSome_head?.mpr
        (List.ne_nil_of_length_pos (by omega : 0 < (s.freedEngines (upTo (s.chain f) d)).length)))
      simp [he]
    · rfl

omit hinv hd in
theorem State.afterChain_sameBut (due : Nat) :
    s.SameBut (s.afterChain due d f) (.clock :: .chains :: resolvedPieces) :=
  (((((s.advanceTo_sameBut due).trans (State.setChain_sameBut _ f _)).trans
    (State.foldl_resolveMember_sameBut _ _)).trans (State.giveHeadTo_sameBut _ _)).trans
      (State.releaseOnward_sameBut _ f)).mono (by decide)

end

end Sys2Proof.Machine
end

section

open Sys2Proof Sys2Proof.Machine

/-- Settles O46: the members resolved in chain order by `State.Inv.resolved_afterChain`, with the turn of the
engines and the frame beside it. -/
theorem expiryOfAChainedFrameResolvesUpToIt : Obligations.ExpiryOfAChainedFrameResolvesUpToIt := by
  refine ⟨fun d ahead later hd => ⟨upTo_append_cons later hd, behind_append_cons later hd⟩,
    State.isHeld_iff, fun s d fr due hinv hd hordered hdue => ?expiry⟩
  have hmem : d ∈ s.chain fr.flow := hinv.mem_chain hd hordered hdue
  have h := hinv.resolved_afterChain hmem due
  have hend := State.raise_settle_sameBut (s.afterChain due d fr.flow) .deadlineExpired
  obtain ⟨hcells, hdescs⟩ := hend.2 .freeLists (by decide)
  have hlocator := hend.locator_eq (by decide)
  have hqueue := h.queue.trans (hinv.filter_queue_abandonedOf _)
  refine ⟨hinv.abandonedOf_upTo_ne_nil hmem, _, exec_deadlineExpiry s d fr due hd hdue, ?_⟩
  rw [s.expireFrame_chained due d fr hmem]
  refine ⟨fun g => ?chain, (hend.forwardQueue_eq (by decide)).trans h.forwardQueue,
    fun x hx => (hend.2 .descriptors (by decide) x).trans (h.freed x hx),
    fun x hx => (hend.2 .descriptors (by decide) x).trans (h.onward x hx),
    fun x hx hx' => (hend.2 .descriptors (by decide) x).trans (h.others x hx hx'),
    hdescs.trans h.freeDescs, hcells.trans h.freeCells, ?holdOut,
    (congrArg Locator.queue hlocator).trans hqueue, ?firstFreed,
    fun e => (hend.engineRun_eq (by decide) e).trans ?engines,
    fun g => (hend.2 .flowCounters (by decide) g).trans (h.counted g), ?events, ?frame⟩
  case chain => exact (hend.2 .chains (by decide) g).trans (hinv.afterChain_chainIs hmem due g)
  case holdOut =>
    rw [hcells, hdescs]
    exact (hend.holdOut_eq (by decide)).trans h.holdOut
  case firstFreed =>
    rw [hlocator]
    exact hinv.afterChain_firstFreed hmem due
  case engines =>
    have hrun := h.engines e
    simp only [hinv.engineDesc_abandonedOf] at hrun
    exact hrun
  case events =>
    rw [State.settle_events]
    exact State.raise_events_congr _ _ _ h.events
  case frame =>
    exact ((State.afterChain_sameBut due).trans (State.raise_sameBut _ .deadlineExpired)).settle.mono
      (by decide)

/-- Settles O45: the frame is resolved alone, under its policy. -/
theorem expiryOfAFreeFrameAbandonsItAlone : Obligations.ExpiryOfAFreeFrameAbandonsItAlone := by
  intro s d fr due hinv hd hfree hdue
  have hlocated := hinv.located_of_free hd hfree hdue
  have halone : d ∉ s.chain fr.flow := hinv.not_mem_chain hd hfree fr.flow
  have hend := State.raise_settle_sameBut (s.afterAlone due d) .deadlineExpired
  obtain ⟨dropped, sent, h, hothers⟩ : ∃ dropped sent,
      s.Resolved (s.afterAlone due d) fr.flow [d] dropped sent ∧
        ∀ x, x ≠ d → x ∉ dropped ∧ x ∉ sent := by
    cases hp : fr.entry.policy with
    | drop => exact ⟨[d], [], hinv.resolved_alone_drop due hd hlocated hp, fun x hx => by simp [hx]⟩
    | mark => exact ⟨[], [d], hinv.resolved_alone_mark due hd hlocated hp, fun x hx => by simp [hx]⟩
  refine ⟨hlocated, _, exec_deadlineExpiry s d fr due hd hdue, ?_⟩
  rw [s.expireFrame_alone due d fr halone]
  refine ⟨?queue, ?firstFreed, fun e => (hend.engineRun_eq (by decide) e).trans ?engines, ?events,
    fun x hx => (hend.2 .descriptors (by decide) x).trans ?others, fun hp => ?freed, fun hp => ?sent,
    ?frame⟩
  case queue => simpa using h.queue
  case firstFreed => simpa using s.afterAlone_firstFreed due d
  case engines => simpa using h.engines e
  case events =>
    rw [State.settle_events]
    exact State.raise_events_congr _ _ _ h.events
  case others =>
    obtain ⟨hdropped, hsent⟩ := hothers x hx
    exact h.others x hdropped hsent
  case freed =>
    have h := hinv.resolved_alone_drop due hd hlocated hp
    obtain ⟨hfree, hdescs, hcells, hholdOut⟩ := h.freed_single hd
    refine ⟨⟨by simpa using hfree, by simpa using hdescs, by simpa using hcells, by simpa using hholdOut⟩,
      by simpa using h.forwardQueue, fun g => (hend.2 .flowCounters (by decide) g).trans (h.counted g)⟩
  case sent =>
    have h := hinv.resolved_alone_mark due hd hlocated hp
    obtain ⟨hdescs, hcells, hholdOut⟩ := h.storeKept hinv
    refine ⟨⟨by simpa using hdescs, by simpa using hcells, by simpa using hholdOut⟩, ?_,
      by simpa using h.forwardQueue, fun g => ?_⟩
    · simpa [hd, State.sentOn_marked (State.isHeld_of_located hd hlocated)] using h.onward d (by simp)
    · simpa [expiryCounts_none_dropped hinv.counters] using h.counted g
  case frame =>
    exact ((s.afterAlone_sameBut due d).trans (State.raise_sameBut _ .deadlineExpired)).settle.mono
      (by decide)

end

section
/-! The courses of acceptance that do not take a request (R126): it is shed, replayed, found stale, or refused
while a reset is pending. Its frame ends all the same (R14). -/

namespace Sys2Proof.Machine

/-! ### The pieces that the first four courses write -/

theorem State.queueResponse_sameBut (s : State) (q : QueuedResponse) :
    s.SameBut (s.queueResponse q) [.responses] :=
  ⟨rfl, fun p hp => by cases p <;> simp [State.samePiece] at hp ⊢⟩

theorem State.countGlobal_sameBut (s : State) (c : GlobalCounter) :
    s.SameBut (s.countGlobal c) [.globalCounters] :=
  ⟨rfl, fun p hp => by cases p <;> simp [State.samePiece] at hp ⊢⟩

/-! ### The end of a request's frame, whatever its course -/

/-- The frame-end of a request in the receive slot: arrival, acceptance, end of the frame (R14, R125). -/
theorem requestFrameEnd_accepted (s : State) (d : DescId) (fr : Descriptor) (kind sequence : Byte)
    (args : List Byte) (h : Option Handler) (hslot : s.RequestInSlot d fr (args.length + 1)) :
    requestFrameEnd kind (sequence :: args) h s =
      .next (((s.arrivePayload d fr (requestPayload kind (sequence :: args))).accept
        (requesterOf d fr) kind sequence h args).closeRequest d fr) := by
  have hlen : (requestPayload kind (sequence :: args)).length = headerLength fr.header := by
    rw [requestPayload_length, hslot.length, List.length_cons]
  simp only [requestFrameEnd, hslot.slot, hslot.desc, hslot.role, hlen, and_self, if_true,
    State.endRequest, State.manage_requestPayload, State.done, State.closeRequest, requesterOf,
    decide_eq_true_eq]

/-- A request row whose acceptance leaves the frame's own pieces alone ends the frame, and what acceptance
changed is what the command changed beside it. -/
theorem exec_accepted_ended {i : Instr} {s v : State} {d : DescId} {fr : Descriptor}
    {kind sequence : Byte} {args : List Byte} {changed : List Piece}
    (hi : requestOf i = some (kind, sequence :: args))
    (hslot : s.RequestInSlot d fr (args.length + 1))
    (haccept : (s.arrivePayload d fr (requestPayload kind (sequence :: args))).accept
      (requesterOf d fr) kind sequence (handlerFor kind) args = v)
    (hv : (s.arrivePayload d fr (requestPayload kind (sequence :: args))).SameBut v changed)
    (hframe : ∀ p ∈ framePieces, p ∉ changed) :
    ∃ t, exec i s = .next t ∧ v.SameButTimer t framePieces ∧
      s.RequestEnded t d fr (requestPayload kind (sequence :: args)) ∧
      s.SameButTimer t (changed ++ framePieces) := by
  have harrived := (s.arrivePayload_frameArrived d fr (requestPayload kind (sequence :: args))
    hslot.desc).of_sameBut hv hframe
  have hclose := State.closeRequest_sameBut v d fr _ harrived.desc hslot.role
  refine ⟨v.closeRequest d fr, ?next, hclose, harrived.closeRequest_ended, ?frame⟩
  case next =>
    rw [exec_requestOf i s kind _ hi, requestFrameEnd_accepted s d fr kind sequence args _ hslot, haccept]
  case frame =>
    exact (((s.arrivePayload_sameBut d fr _).trans hv).trans hclose).mono
      (fun p hp => by simp [framePieces] at hp ⊢; tauto)

/-! ### The course of a request (R126) -/

/-- The arrival of the payload has no part in the course. -/
theorem State.arrivePayload_course (s : State) (d : DescId) (fr : Descriptor) (payload : List Byte)
    (address sequence : Byte) :
    (s.arrivePayload d fr payload).course address sequence = s.course address sequence := rfl

theorem State.course_shed (s : State) (address sequence : Byte)
    (hfull : 4 ≤ s.management.responses.length) : s.course address sequence = .shed :=
  if_pos hfull

section

variable {s : State} {address sequence : Byte} (hroom : s.management.responses.length < 4)

include hroom

theorem State.not_full_of_room : ¬ Config.responseSlots ≤ s.management.responses.length :=
  Nat.not_le.mpr hroom

theorem State.course_replayed {r : Response}
    (hreplay : s.management.replay = some ⟨address, sequence, r⟩) :
    s.course address sequence = .replayed r := by
  simp [State.course, State.not_full_of_room hroom, hreplay]

theorem State.course_stale {r : ReplayRecord} (hreplay : s.management.replay = some r)
    (haddress : r.requester = address) (hbehind : 1 ≤ (r.sequence - sequence).toNat)
    (hnear : (r.sequence - sequence).toNat ≤ 127) : s.course address sequence = .stale := by
  have hne : r.sequence ≠ sequence := by
    rintro rfl
    simp at hbehind
  have hstale : sequenceDistance r.sequence sequence ≤ 127 := hnear
  simp [State.course, State.not_full_of_room hroom, hreplay, haddress, hne, hstale]

/-- A request that is neither in the replay slot nor behind it is refused while a reset is pending. -/
theorem State.course_refusedForReset (hreset : s.management.pendingReset ≠ none)
    (hfresh : ∀ r, s.management.replay = some r → r.requester = address →
      128 ≤ (r.sequence - sequence).toNat) : s.course address sequence = .refusedForReset := by
  have hsome : s.management.pendingReset.isSome = true := Option.isSome_iff_ne_none.mpr hreset
  simp only [State.course, State.not_full_of_room hroom, if_false, hsome, if_true]
  cases hr : s.management.replay with
  | none => rfl
  | some r =>
    by_cases haddress : r.requester = address
    · have hfar := hfresh r hr haddress
      have hne : r.sequence ≠ sequence := by
        rintro rfl
        simp at hfar
      have hstale : ¬ sequenceDistance r.sequence sequence ≤ 127 := Nat.not_le.mpr hfar
      simp [haddress, hne, hstale]
    · simp [haddress]

end

/-! ### The command -/

theorem State.accept_shed (s : State) (rq : Requester) (kind sequence : Byte) (h : Option Handler)
    (args : List Byte) (hcourse : s.course rq.address sequence = .shed) :
    s.accept rq kind sequence h args = (s.countGlobal .requestsShed).raise .requestShed := by
  simp [State.accept, hcourse]

section

variable {i : Instr} {s : State} {d : DescId} {fr : Descriptor} {kind sequence : Byte} {args : List Byte}
  (hi : requestOf i = some (kind, sequence :: args)) (hslot : s.RequestInSlot d fr (args.length + 1))

include hi hslot

/-- A request for which the response queue has no room is counted and raised, and gets no answer (R129). -/
theorem exec_request_shed (hcourse : s.course fr.header.source sequence = .shed) :
    ∃ t, exec i s = .next t ∧ s.RequestEnded t d fr (requestPayload kind (sequence :: args)) ∧
      s.RaisedOnce t .requestShed ∧
      t.counters.globals = s.counters.globals.count .requestsShed ∧
      t.management.responses = s.management.responses ∧
      s.SameButTimer t (.events :: .globalCounters :: requestPieces) := by
  obtain ⟨t, hnext, hkept, hended, hsame⟩ := exec_accepted_ended hi hslot
    (State.accept_shed _ _ kind sequence (handlerFor kind) args hcourse)
    ((State.countGlobal_sameBut _ _).trans (State.raise_sameBut _ _)) (by decide)
  refine ⟨t, hnext, hended, ?raised, ?counted, hsame.2 .responses (by decide), hsame.mono (by decide)⟩
  case raised =>
    exact .of_events s t (State.countGlobal (s.arrivePayload d fr _) .requestsShed) .requestShed rfl
      (hkept.events_eq (by decide))
  case counted =>
    exact Eq.trans (hkept.2 .globalCounters (by decide))
      (congrArg CounterStore.globals (State.raise_counters _ _))

/-- A request for which acceptance queues a response, and does nothing else, has been replied to. -/
theorem exec_request_replied {q : QueuedResponse}
    (haccept : (s.arrivePayload d fr (requestPayload kind (sequence :: args))).accept
      (requesterOf d fr) kind sequence (handlerFor kind) args =
        (s.arrivePayload d fr (requestPayload kind (sequence :: args))).queueResponse q) :
    ∃ t, exec i s = .next t ∧ s.Replied t d fr (requestPayload kind (sequence :: args)) q := by
  obtain ⟨t, hnext, hkept, hended, hsame⟩ := exec_accepted_ended hi hslot haccept
    (State.queueResponse_sameBut _ _) (by decide)
  exact ⟨t, hnext, hkept.2 .responses (by decide), hended, hsame.mono (by decide)⟩

/-- The response in the slot is queued again, as it was stored (R131). -/
theorem exec_request_replayed {r : Response} (hcourse : s.course fr.header.source sequence = .replayed r) :
    ∃ t, exec i s = .next t ∧ s.Replied t d fr (requestPayload kind (sequence :: args))
      ⟨fr.header.source, r, false⟩ :=
  exec_request_replied hi hslot
    (by simp [State.accept, requesterOf, State.arrivePayload_course, hcourse])

/-- STALE, with no results (R132). -/
theorem exec_request_stale (hcourse : s.course fr.header.source sequence = .stale) :
    ∃ t, exec i s = .next t ∧ s.Replied t d fr (requestPayload kind (sequence :: args))
      (answerOf fr kind sequence .stale []) :=
  exec_request_replied hi hslot
    (by simp [State.accept, requesterOf, State.arrivePayload_course, hcourse, answerOf])

/-- BUSY, with the code of the pending reset (R133). -/
theorem exec_request_refusedForReset (hcourse : s.course fr.header.source sequence = .refusedForReset) :
    ∃ t, exec i s = .next t ∧ s.Replied t d fr (requestPayload kind (sequence :: args))
      (answerOf fr kind sequence .busy [1]) :=
  exec_request_replied hi hslot
    (by simp [State.accept, requesterOf, State.arrivePayload_course, hcourse, answerOf, busyReset])

end

end Sys2Proof.Machine

section

open Sys2Proof Sys2Proof.Machine

/-- Settles O52: each hypothesis fixes the course of R126, and the course fixes what the command does. -/
theorem requestsShedReplayedStaleOrRefused : Obligations.RequestsShedReplayedStaleOrRefused := by
  intro s d fr i kind seq args hi hslot
  refine ⟨fun hfull => ?shed, fun hroom => ⟨fun r hreplay => ?replayed,
    fun r hreplay haddress hbehind hnear => ?stale, fun hreset hfresh => ?refused⟩⟩
  case shed => exact exec_request_shed hi hslot (s.course_shed _ _ hfull)
  case replayed => exact exec_request_replayed hi hslot (State.course_replayed hroom hreplay)
  case stale =>
    exact exec_request_stale hi hslot (State.course_stale hroom hreplay haddress hbehind hnear)
  case refused =>
    exact exec_request_refusedForReset hi hslot (State.course_refusedForReset hroom hreset hfresh)

end
end

section
/-! CLEAR COUNTERS, SET TIMING and RESET PART (R121, R143, R146): what the owning block makes of each, and the
request as a whole. -/

namespace Sys2Proof.Machine

/-! ### The pieces that the owning blocks write -/

theorem State.counters_sameBut (s : State) (k : CounterStore) :
    s.SameBut { s with counters := k } [.flowCounters, .globalCounters] :=
  ⟨rfl, fun p hp => by cases p <;> simp [State.samePiece, State.desc?, State.chain] at hp ⊢⟩

theorem State.counterFlows_sameBut (s : State) (v : Vector FlowCounters 256) :
    s.SameBut { s with counters := { s.counters with flows := v } } [.flowCounters] :=
  ⟨rfl, fun p hp => by cases p <;> simp [State.samePiece, State.desc?, State.chain] at hp ⊢⟩

theorem State.retimed_sameBut (s : State) (tm : Timing) (now : Nat) :
    s.SameBut { s with egress := s.egress.retimed tm now } [.timing, .cadence] :=
  ⟨rfl, fun p hp => by
    cases p <;> simp [State.samePiece, State.desc?, State.chain, State.flowCounters,
      Egress.retimed] at hp ⊢⟩

theorem State.pendingReset_sameBut (s : State) (p : Option PendingReset) :
    s.SameBut { s with management := { s.management with pendingReset := p } } [.pendingReset] :=
  ⟨rfl, fun p hp => by
    cases p <;> simp [State.samePiece, State.desc?, State.chain, State.flowCounters] at hp ⊢⟩

/-! ### The values they leave -/

theorem CounterStore.atFlow_reset (f : Byte) : atFlow CounterStore.reset.flows f = FlowCounters.zero := by
  simp [CounterStore.reset, atFlow]

theorem overdueAfterRise_iff (overdue : Bool) (debt threshold : Nat) :
    overdueAfterRise overdue debt threshold = true ↔ overdue = true ∨ threshold ≤ debt := by
  simp [overdueAfterRise]

/-! ### What the owning blocks do -/

theorem runClearCounters_flow (rq : Requester) (f : Byte) (s : State) :
    runClearCounters rq [0, f] s =
      ({ s with counters := { s.counters with flows := setFlow s.counters.flows f FlowCounters.zero } },
        Answer.with .ok [0, f]) := rfl

theorem runClearCounters_all (rq : Requester) (f : Byte) (s : State) :
    runClearCounters rq [1, f] s =
      ({ s with counters := CounterStore.reset }, Answer.with .ok [1, f]) := rfl

theorem runClearCounters_invalid (rq : Requester) (selector f : Byte) (s : State)
    (h0 : selector ≠ 0) (h1 : selector ≠ 1) :
    runClearCounters rq [selector, f] s = (s, Answer.bare .badArg) := by
  simp only [runClearCounters]
  split
  next h => exact absurd (BitVec.eq_of_toNat_eq h) h0
  next h => exact absurd (BitVec.eq_of_toNat_eq h) h1
  next => rfl

theorem runSetTiming_invalid (rq : Requester) (args : List Byte) (s : State)
    (htiming : decodeTiming args = none) :
    runSetTiming rq args s = (s, Answer.with .badArg (encodeTiming s.egress.timing)) := by
  simp [runSetTiming, htiming]

theorem runSetTiming_valid (rq : Requester) (args : List Byte) (s : State) (tm : Timing)
    (htiming : decodeTiming args = some tm) :
    runSetTiming rq args s =
      ({ s with egress := s.egress.retimed tm s.now }, Answer.with .ok (encodeTiming tm)) := by
  simp [runSetTiming, htiming]

theorem decodeScope_of_names {b : Byte} {scope : ResetScope}
    (h : b = 1 ∧ scope = .flush ∨ b = 2 ∧ scope = .restart) : decodeScope b = some scope := by
  obtain ⟨rfl, rfl⟩ | ⟨rfl, rfl⟩ := h <;> rfl

theorem decodeScope_eq_none {b : Byte} (h1 : b ≠ 1) (h2 : b ≠ 2) : decodeScope b = none := by
  unfold decodeScope
  split
  next h => exact absurd (BitVec.eq_of_toNat_eq h) h1
  next h => exact absurd (BitVec.eq_of_toNat_eq h) h2
  next => rfl

theorem runResetPart_invalid (rq : Requester) (b : Byte) (s : State) (hscope : decodeScope b = none) :
    runResetPart rq [b] s = (s, Answer.bare .badArg) := by
  simp [runResetPart, hscope]

/-- The record names the request's own descriptor if it was a broadcast. -/
theorem runResetPart_valid (d : DescId) (fr : Descriptor) (b : Byte) (s : State) (scope : ResetScope)
    (hscope : decodeScope b = some scope) :
    runResetPart (requesterOf d fr) [b] s =
      ({ s with management := { s.management with
          pendingReset := some ⟨scope, true, if fr.header.destination = 255 then some d else none⟩ } },
        ⟨.ok, [b], true⟩) := by
  simp only [runResetPart, hscope, requesterOf, decide_eq_true_eq]
  rfl

/-! ### The requests -/

section

variable {s : State} {d : DescId} {fr : Descriptor} {seq : Byte} {c : Claim}
  (htakes : s.Takes fr.header.source seq) (hclaim : s.management.claim = some c)
  (hholder : c.holder = fr.header.source)

include htakes hclaim hholder

/-- CLEAR COUNTERS of one flow. -/
theorem exec_clearCounters_flow {f : Byte} (hslot : s.RequestInSlot d fr 3) :
    ∃ t, exec (.clearCounters [seq, 0, f]) s = .next t ∧ s.FlowCounted t f (fun _ => FlowCounters.zero) ∧
      s.Answered t d fr 0x0A seq [0, f] .ok [0, f] [.flowCounters] := by
  obtain ⟨t, hnext, hkept, hanswered⟩ := exec_holder_answered (i := .clearCounters [seq, 0, f])
    (h := clearCountersHandler) rfl rfl rfl hslot htakes hclaim hholder
    (runClearCounters_flow (requesterOf d fr) f _) (State.counterFlows_sameBut _ _) (by decide)
  exact ⟨t, hnext, fun g => (hkept.2 .flowCounters (by decide) g).trans (atFlow_setFlow _ f g _), hanswered⟩

/-- CLEAR COUNTERS of ALL. -/
theorem exec_clearCounters_all {f : Byte} (hslot : s.RequestInSlot d fr 3) :
    ∃ t, exec (.clearCounters [seq, 1, f]) s = .next t ∧
      (∀ g, t.flowCounters g = FlowCounters.zero) ∧ t.counters.globals = GlobalCounters.zero ∧
      s.Answered t d fr 0x0A seq [1, f] .ok [1, f] [.flowCounters, .globalCounters] := by
  obtain ⟨t, hnext, hkept, hanswered⟩ := exec_holder_answered (i := .clearCounters [seq, 1, f])
    (h := clearCountersHandler) rfl rfl rfl hslot htakes hclaim hholder
    (runClearCounters_all (requesterOf d fr) f _) (State.counters_sameBut _ _) (by decide)
  exact ⟨t, hnext, fun g => (hkept.2 .flowCounters (by decide) g).trans (CounterStore.atFlow_reset g),
    hkept.2 .globalCounters (by decide), hanswered⟩

/-- CLEAR COUNTERS with a selector that names neither. -/
theorem exec_clearCounters_invalid {selector f : Byte} (hslot : s.RequestInSlot d fr 3)
    (h0 : selector ≠ 0) (h1 : selector ≠ 1) :
    ∃ t, exec (.clearCounters [seq, selector, f]) s = .next t ∧
      s.Answered t d fr 0x0A seq [selector, f] .badArg [] [] := by
  obtain ⟨t, hnext, _, hanswered⟩ := exec_holder_answered (i := .clearCounters [seq, selector, f])
    (h := clearCountersHandler) rfl rfl rfl hslot htakes hclaim hholder
    (runClearCounters_invalid (requesterOf d fr) selector f _ h0 h1) (.refl _ []) (by simp)
  exact ⟨t, hnext, hanswered⟩

/-- SET TIMING with values out of range. -/
theorem exec_setTiming_invalid {args : List Byte} (hargs : args.length = 7)
    (hslot : s.RequestInSlot d fr 8) (htiming : decodeTiming args = none) :
    ∃ t, exec (.setTiming (seq :: args)) s = .next t ∧
      s.Answered t d fr 0x0C seq args .badArg (encodeTiming s.egress.timing) [] := by
  obtain ⟨t, hnext, _, hanswered⟩ := exec_holder_answered (i := .setTiming (seq :: args))
    (h := setTimingHandler) rfl rfl hargs (by simpa [hargs] using hslot) htakes hclaim hholder
    (runSetTiming_invalid (requesterOf d fr) args _ htiming) (.refl _ []) (by simp)
  exact ⟨t, hnext, hanswered⟩

/-- SET TIMING with values in range: the scheduler is the one retimed. -/
theorem exec_setTiming_valid {args : List Byte} {tm : Timing} (hargs : args.length = 7)
    (hslot : s.RequestInSlot d fr 8) (htiming : decodeTiming args = some tm) :
    ∃ t, exec (.setTiming (seq :: args)) s = .next t ∧ t.egress.timing = tm ∧
      t.egress.cadenceDue = (s.egress.retimed tm s.now).cadenceDue ∧ t.egress.debt = s.egress.debt ∧
      t.egress.overdue = overdueAfterRise s.egress.overdue s.egress.debt tm.overdueThreshold ∧
      t.egress.tokenSequence = s.egress.tokenSequence ∧
      s.Answered t d fr 0x0C seq args .ok (encodeTiming tm) [.timing, .cadence] := by
  obtain ⟨t, hnext, hkept, hanswered⟩ := exec_holder_answered (i := .setTiming (seq :: args))
    (h := setTimingHandler) rfl rfl hargs (by simpa [hargs] using hslot) htakes hclaim hholder
    (runSetTiming_valid (requesterOf d fr) args _ tm htiming) (State.retimed_sameBut _ tm _) (by decide)
  obtain ⟨hdue, hdebt, hoverdue, hsequence⟩ := hkept.2 .cadence (by decide)
  exact ⟨t, hnext, hkept.2 .timing (by decide), hdue, hdebt, hoverdue, hsequence, hanswered⟩

/-- RESET PART of a scope. -/
theorem exec_resetPart_valid {b : Byte} {scope : ResetScope} (hslot : s.RequestInSlot d fr 2)
    (hscope : decodeScope b = some scope) :
    ∃ t, exec (.resetPart [seq, b]) s = .next t ∧
      t.management.pendingReset =
        some ⟨scope, true, if fr.header.destination = 255 then some d else none⟩ ∧
      s.Answered t d fr 0x0F seq [b] .ok [b] [.pendingReset] true := by
  obtain ⟨t, hnext, hkept, hanswered⟩ := exec_holder_answered (i := .resetPart [seq, b])
    (h := resetPartHandler) rfl rfl rfl hslot htakes hclaim hholder
    (runResetPart_valid d fr b _ scope hscope) (State.pendingReset_sameBut _ _) (by decide)
  exact ⟨t, hnext, hkept.2 .pendingReset (by decide), hanswered⟩

/-- RESET PART with a byte that names no scope. -/
theorem exec_resetPart_invalid {b : Byte} (hslot : s.RequestInSlot d fr 2) (hscope : decodeScope b = none) :
    ∃ t, exec (.resetPart [seq, b]) s = .next t ∧ s.Answered t d fr 0x0F seq [b] .badArg [] [] := by
  obtain ⟨t, hnext, _, hanswered⟩ := exec_holder_answered (i := .resetPart [seq, b])
    (h := resetPartHandler) rfl rfl rfl hslot htakes hclaim hholder
    (runResetPart_invalid (requesterOf d fr) b _ hscope) (.refl _ []) (by simp)
  exact ⟨t, hnext, hanswered⟩

end

end Sys2Proof.Machine

section

open Sys2Proof Sys2Proof.Machine

/-- Settles O57: the owning block's answer to each request, and the counters, the timing or the record it
leaves, carried through the common course of a taken request. -/
theorem countersTimingAndResetRequestsTakeEffect :
    Obligations.CountersTimingAndResetRequestsTakeEffect := by
  intro s d fr seq c htakes hclaim hholder
  refine ⟨fun selector f hslot => ⟨?flow, ?all, fun h0 h1 => ?selector⟩,
    fun args hargs hslot => ⟨fun htiming => ?outOfRange, fun tm htiming => ?retimed⟩,
    fun b hslot => ⟨fun scope hscope => ?reset, fun h1 h2 => ?scope⟩⟩
  case flow =>
    rintro rfl
    exact exec_clearCounters_flow htakes hclaim hholder hslot
  case all =>
    rintro rfl
    exact exec_clearCounters_all htakes hclaim hholder hslot
  case selector => exact exec_clearCounters_invalid htakes hclaim hholder hslot h0 h1
  case outOfRange => exact exec_setTiming_invalid htakes hclaim hholder hargs hslot htiming
  case retimed =>
    obtain ⟨t, hnext, htm, hdue, hdebt, hoverdue, hsequence, hanswered⟩ :=
      exec_setTiming_valid htakes hclaim hholder hargs hslot htiming
    exact ⟨t, hnext, htm, hdue, hdebt, hsequence, hoverdue ▸ overdueAfterRise_iff _ _ _, hanswered⟩
  case reset => exact exec_resetPart_valid htakes hclaim hholder hslot (decodeScope_of_names hscope)
  case scope => exact exec_resetPart_invalid htakes hclaim hholder hslot (decodeScope_eq_none h1 h2)

end
end

section
/-! The notice table at an ACK NOTICE and at the expiry of a retry timer (R145, R161, R163): what each does to
the entry of its class, and the commands as a whole. -/

namespace Sys2Proof.Machine

/-! ### The updates of the event unit -/

/-- An event unit put in place of another changes no other piece. -/
theorem State.events_sameBut (s : State) (u : EventUnit) : s.SameBut { s with events := u } [.events] :=
  ⟨rfl, fun p hp => by
    cases p <;> simp [State.samePiece, State.desc?, State.chain, State.flowCounters] at hp ⊢⟩

theorem State.putClass_sameBut (s : State) (c : EventClass) (k : ClassState) :
    s.SameBut (s.putClass c k) [.events] :=
  s.events_sameBut _

theorem State.putEntry_sameBut (s : State) (c : EventClass) (e : NoticeEntry) :
    s.SameBut (s.putEntry c e) [.events] :=
  s.putClass_sameBut c _

theorem State.issueNotice_sameBut (s : State) (c : EventClass) :
    s.SameBut (s.issueNotice c) [.events] :=
  s.events_sameBut _

@[simp] theorem State.putClass_noticeSequence (s : State) (c : EventClass) (k : ClassState) :
    (s.putClass c k).events.noticeSequence = s.events.noticeSequence := rfl

@[simp] theorem State.putClass_nextAge (s : State) (c : EventClass) (k : ClassState) :
    (s.putClass c k).events.nextAge = s.events.nextAge := rfl

@[simp] theorem State.putEntry_noticeSequence (s : State) (c : EventClass) (e : NoticeEntry) :
    (s.putEntry c e).events.noticeSequence = s.events.noticeSequence := rfl

@[simp] theorem State.issueNotice_noticeSequence (s : State) (c : EventClass) :
    (s.issueNotice c).events.noticeSequence = s.events.noticeSequence + 1 := rfl

theorem State.classState_of_events {s t : State} (h : t.events = s.events) (c : EventClass) :
    t.classState c = s.classState c := by
  simp [State.classState, h]

/-! ### A matching acknowledgement (R163) -/

/-- The raw count of a class without the sent count of its entry. -/
def State.unacknowledged (s : State) (c : EventClass) : Nat :=
  (s.classState c).raw - (s.classState c).entry.sentOrZero

/-- The notice of a class has been acknowledged between two states: its sent count is off the raw count, its
entry is IDLE, or holds a new notice while occurrences remain, and every other class is as it was. -/
structure State.Acknowledged (s t : State) (c : EventClass) : Prop where
  raw : (t.classState c).raw = s.unacknowledged c
  enabled : (t.classState c).enabled = (s.classState c).enabled
  others : ∀ e, e ≠ c → t.classState e = s.classState e
  drained : s.unacknowledged c = 0 →
    (t.classState c).entry = .idle ∧ t.events.noticeSequence = s.events.noticeSequence
  reissued : 0 < s.unacknowledged c →
    (t.classState c).entry = .pendingSend s.events.noticeSequence none 0 s.events.nextAge ∧
      t.events.noticeSequence = s.events.noticeSequence + 1

theorem State.acknowledge_of_drained {s : State} {c : EventClass} (h : s.unacknowledged c = 0) :
    s.acknowledge c = (s.putClass c { s.classState c with raw := 0, entry := .idle }, 0) := by
  unfold State.unacknowledged at h
  simp [State.acknowledge, h]

theorem State.acknowledge_of_remaining {s : State} {c : EventClass} (h : 0 < s.unacknowledged c) :
    s.acknowledge c =
      ((s.putClass c { s.classState c with raw := s.unacknowledged c, entry := .idle }).issueNotice c,
        s.unacknowledged c) := by
  have hne : (s.classState c).raw - (s.classState c).entry.sentOrZero ≠ 0 := Nat.ne_of_gt h
  simp only [State.acknowledge, hne, if_false, State.unacknowledged]

theorem State.acknowledge_acknowledged (s : State) (c : EventClass) :
    s.Acknowledged (s.acknowledge c).1 c := by
  rcases Nat.eq_zero_or_pos (s.unacknowledged c) with h | h
  · rw [State.acknowledge_of_drained h]
    exact {
      raw := by simp [h]
      enabled := by simp
      others := fun e he => by simp [he]
      drained := fun _ => by simp
      reissued := fun hpos => by omega }
  · rw [State.acknowledge_of_remaining h]
    exact {
      raw := by simp
      enabled := by simp
      others := fun e he => by simp [he]
      drained := fun hzero => by omega
      reissued := fun _ => by simp }

theorem State.acknowledge_sameBut (s : State) (c : EventClass) :
    s.SameBut (s.acknowledge c).1 [.events] := by
  rcases Nat.eq_zero_or_pos (s.unacknowledged c) with h | h
  · rw [State.acknowledge_of_drained h]
    exact s.putClass_sameBut c _
  · rw [State.acknowledge_of_remaining h]
    exact ((s.putClass_sameBut c _).trans (State.issueNotice_sameBut _ c)).mono (by simp)

/-- An acknowledgement within a larger event: what the event unit holds before and after decides. -/
theorem State.Acknowledged.of_events {s t u v : State} {c : EventClass} (h : u.Acknowledged v c)
    (hu : u.events = s.events) (ht : t.events = v.events) : s.Acknowledged t c := by
  obtain ⟨raw, enabled, others, drained, reissued⟩ := h
  have before : ∀ e, u.classState e = s.classState e := State.classState_of_events hu
  have after : ∀ e, t.classState e = v.classState e := State.classState_of_events ht
  simp only [State.unacknowledged, before, hu, ← after, ← ht] at raw enabled others drained reissued
  exact ⟨raw, enabled, others, drained, reissued⟩

/-! ### ACK NOTICE (R145) -/

theorem decodeClass_eq_none {b : Byte} (h : 12 ≤ b.toNat) : decodeClass b = none :=
  List.getElem?_eq_none h

theorem decodeClass_classNumber (c : EventClass) : decodeClass (byteOf (classNumber c).val) = some c := by
  cases c <;> rfl

theorem runAckNotice_noClass (rq : Requester) {cb : Byte} (q : Byte) (s : State) (hcb : 12 ≤ cb.toNat) :
    runAckNotice rq [cb, q] s = (s, Answer.bare .badArg) := by
  simp [runAckNotice, decodeClass_eq_none hcb]

section

variable (rq : Requester) {cb q : Byte} {s : State} {c : EventClass} (hcb : decodeClass cb = some c)

include hcb

theorem runAckNotice_stale (hq : (s.classState c).entry.sequence? ≠ some q) :
    runAckNotice rq [cb, q] s = (s, Answer.bare .stale) := by
  simp [runAckNotice, hcb, hq]

theorem runAckNotice_matching (hq : (s.classState c).entry.sequence? = some q) :
    runAckNotice rq [cb, q] s = ((s.acknowledge c).1, Answer.with .ok ([cb] ++
      bytes16 (s.unacknowledged c) ++
      if s.unacknowledged c = 0 then [0, 0] else [1, s.events.noticeSequence])) := by
  have hacked := s.acknowledge_acknowledged c
  simp only [runAckNotice, hcb, hq, if_true]
  rcases Nat.eq_zero_or_pos (s.unacknowledged c) with h | h
  · obtain ⟨hentry, _⟩ := hacked.drained h
    rw [hentry, State.acknowledge_of_drained h, h]
    rfl
  · obtain ⟨hentry, _⟩ := hacked.reissued h
    rw [hentry, State.acknowledge_of_remaining h, if_neg (Nat.ne_of_gt h)]
    rfl

end

/-- The claim check of ACK NOTICE lets the holder pass, and every requester while there is none (R135). -/
theorem claimRefusal_whileClaimed {s : State} {address : Byte}
    (hclaim : ∀ c, s.management.claim = some c → c.holder = address) :
    claimRefusal .whileClaimed address s = none := by
  cases h : s.management.claim with
  | none => simp [claimRefusal, h]
  | some c => simp [claimRefusal, h, hclaim c h]

/-- A request that passes the claim check with the argument bytes of its kind is executed by the owning
block. -/
theorem State.execute_of_passed (s : State) (rq : Requester) (h : Handler) (args : List Byte)
    (hlen : args.length = h.argCount) (hpass : claimRefusal h.need rq.address s = none) :
    s.execute rq (some h) args = h.run rq args s := by
  simp [State.execute, hlen, hpass]

section

variable {s : State} {d : DescId} {fr : Descriptor} {seq cb q : Byte}
  (htakes : s.Takes fr.header.source seq)
  (hclaim : ∀ c, s.management.claim = some c → c.holder = fr.header.source)
  (hslot : s.RequestInSlot d fr 3)

include htakes hclaim hslot

/-- ACK NOTICE that passes the claim check, with what the event unit makes of it. -/
theorem exec_ackNotice_answered {v : State} {a : Answer} {changed : List Piece}
    (hrun : runAckNotice (requesterOf d fr) [cb, q]
      (s.arrivePayload d fr (requestPayload 0x0E [seq, cb, q])) = (v, a))
    (hv : (s.arrivePayload d fr (requestPayload 0x0E [seq, cb, q])).SameBut v changed)
    (hfree : ∀ p ∈ .replay :: requestPieces, p ∉ changed) :
    ∃ t, exec (.ackNotice [seq, cb, q]) s = .next t ∧
      v.SameButTimer t (.replay :: requestPieces) ∧
      s.Answered t d fr 0x0E seq [cb, q] a.status a.results changed a.resetMark :=
  exec_taken_answered (i := .ackNotice [seq, cb, q]) rfl hslot htakes
    ((State.execute_of_passed _ _ ackNoticeHandler _ rfl (claimRefusal_whileClaimed hclaim)).trans hrun)
    hv hfree

/-- ACK NOTICE of a byte that names no class. -/
theorem exec_ackNotice_noClass (hcb : 12 ≤ cb.toNat) :
    ∃ t, exec (.ackNotice [seq, cb, q]) s = .next t ∧
      s.Answered t d fr 0x0E seq [cb, q] .badArg [] [] := by
  obtain ⟨t, hnext, _, hanswered⟩ := exec_ackNotice_answered htakes hclaim hslot
    (runAckNotice_noClass (requesterOf d fr) q _ hcb) (.refl _ []) (by simp)
  exact ⟨t, hnext, hanswered⟩

variable {c : EventClass} (hcb : decodeClass cb = some c)

include hcb

/-- ACK NOTICE that does not match its class's entry. -/
theorem exec_ackNotice_stale (hq : (s.classState c).entry.sequence? ≠ some q) :
    ∃ t, exec (.ackNotice [seq, cb, q]) s = .next t ∧
      s.Answered t d fr 0x0E seq [cb, q] .stale [] [] := by
  obtain ⟨t, hnext, _, hanswered⟩ := exec_ackNotice_answered htakes hclaim hslot
    (runAckNotice_stale (requesterOf d fr) hcb hq) (.refl _ []) (by simp)
  exact ⟨t, hnext, hanswered⟩

/-- ACK NOTICE that matches its class's entry. -/
theorem exec_ackNotice_matching (hq : (s.classState c).entry.sequence? = some q) :
    ∃ t, exec (.ackNotice [seq, cb, q]) s = .next t ∧ s.Acknowledged t c ∧
      s.Answered t d fr 0x0E seq [cb, q] .ok ([cb] ++ bytes16 (s.unacknowledged c) ++
        if s.unacknowledged c = 0 then [0, 0] else [1, s.events.noticeSequence]) [.events] := by
  obtain ⟨t, hnext, hkept, hanswered⟩ := exec_ackNotice_answered htakes hclaim hslot
    (runAckNotice_matching (requesterOf d fr) hcb hq) (State.acknowledge_sameBut _ c) (by decide)
  have hacked := (s.arrivePayload d fr (requestPayload 0x0E [seq, cb, q])).acknowledge_acknowledged c
  exact ⟨t, hnext, hacked.of_events rfl (hkept.events_eq (by decide)), hanswered⟩

end

/-! ### The retry timer (R161) -/

/-- The notice of a class waits again, as the youngest of the waiting entries, with one more resend used. -/
def State.resendNotice (s : State) (c : EventClass) (q : Byte) (n r : Nat) : State :=
  let u := s.putEntry c (.pendingSend q (some n) (r + 1) s.events.nextAge)
  { u with events := { u.events with nextAge := u.events.nextAge + 1 } }

@[simp] theorem State.resendNotice_classState (s : State) (c e : EventClass) (q : Byte) (n r : Nat) :
    (s.resendNotice c q n r).classState e =
      if e = c then { s.classState c with entry := .pendingSend q (some n) (r + 1) s.events.nextAge }
      else s.classState e :=
  s.putEntry_classState c e _

@[simp] theorem State.resendNotice_noticeSequence (s : State) (c : EventClass) (q : Byte) (n r : Nat) :
    (s.resendNotice c q n r).events.noticeSequence = s.events.noticeSequence := rfl

@[simp] theorem State.resendNotice_nextAge (s : State) (c : EventClass) (q : Byte) (n r : Nat) :
    (s.resendNotice c q n r).events.nextAge = s.events.nextAge + 1 := rfl

theorem State.resendNotice_sameBut (s : State) (c : EventClass) (q : Byte) (n r : Nat) :
    s.SameBut (s.resendNotice c q n r) [.events] :=
  s.events_sameBut _

section

variable {s : State} {c : EventClass} {q : Byte} {n r due : Nat}
  (hentry : (s.classState c).entry = .awaitingAck q n r due)

include hentry

/-- The expiry with resends left. -/
theorem exec_retryTimerExpiry_resent (hr : r < 3) :
    exec (.retryTimerExpiry c) s = .next ((s.advanceTo due).resendNotice c q n r).settle := by
  simp [exec, execRetryTimerExpiry, hentry, hr, Config.maxResends, State.done, State.resendNotice]

/-- The expiry with the three resends used. -/
theorem exec_retryTimerExpiry_exhausted (hr : 3 ≤ r) :
    exec (.retryTimerExpiry c) s = .next ((s.advanceTo due).putEntry c (.exhausted q n)).settle := by
  simp [exec, execRetryTimerExpiry, hentry, Nat.not_lt.mpr hr, Config.maxResends, State.done]

end

end Sys2Proof.Machine

section

open Sys2Proof Sys2Proof.Machine

/-- Settles O59: an acknowledgement is answered in the common course of a taken request with what the event
unit makes of it, and an expiry goes by the resends used. -/
theorem noticesAreAcknowledgedAndRetried : Obligations.NoticesAreAcknowledgedAndRetried := by
  refine ⟨fun s d fr seq cb q htakes hclaim hslot => ⟨?noClass, ?ofClass⟩,
    fun s c q n r due hentry => ?expiry⟩
  case noClass => exact exec_ackNotice_noClass htakes hclaim hslot
  case ofClass =>
    rintro k rfl
    refine ⟨fun hq => ?stale, fun hq => ?matching⟩
    case stale => exact exec_ackNotice_stale htakes hclaim hslot (decodeClass_classNumber k) hq
    case matching =>
      obtain ⟨t, hnext, ⟨raw, enabled, others, drained, reissued⟩, hanswered⟩ :=
        exec_ackNotice_matching htakes hclaim hslot (decodeClass_classNumber k) hq
      exact ⟨t, hnext, raw, enabled, others, drained, reissued, hanswered⟩
  case expiry =>
    rcases Nat.lt_or_ge r 3 with hr | hr
    · exact ⟨_, exec_retryTimerExpiry_resent hentry hr, fun _ => by simp, fun h => by omega, by simp,
        by simp, fun e he => by simp [he], by simp,
        ((s.advanceTo_sameBut due).trans (State.resendNotice_sameBut _ c q n r)).settle⟩
    · exact ⟨_, exec_retryTimerExpiry_exhausted hentry hr, fun h => by omega, fun _ => by simp, by simp,
        by simp, fun e he => by simp [he], by simp,
        ((s.advanceTo_sameBut due).trans (State.putEntry_sameBut _ c _)).settle⟩

end
end

section
/-! The places of the descriptors, counted (R25, R175): the location lists have the lengths of their places,
the places and the free list make up the 40 descriptors, and each descriptor that is not FREE holds a cell. -/

namespace Sys2Proof.Machine

/-! ### The snapshot (R174) -/

theorem State.enginesBusy_eq (s : State) :
    s.enginesBusy = ([EngineId.engine0, .engine1].filter fun e => (s.engineRun e).isSome).length := by
  cases h0 : s.locator.engine0 <;> cases h1 : s.locator.engine1 <;>
    simp [State.enginesBusy, State.engineRun, h0, h1]

/-- The snapshot has the layout of chapter 11.3: each of its codes is the layout's case split. -/
theorem State.statusSnapshot_eq_layout (s : State) : s.statusSnapshot = s.statusLayout := by
  have hlink : s.receiver.link.code = if s.receiver.link = .linkUp then 0x01 else 0x00 := by
    cases s.receiver.link <;> rfl
  have hbank : s.table.active.code = if s.table.active = .bankA then 0x00 else 0x01 := by
    cases s.table.active <;> rfl
  unfold State.statusSnapshot State.statusLayout
  rw [hlink, hbank, s.enginesBusy_eq]
  cases s.receiver.lastToken <;> cases s.management.claim <;> rfl

/-- Where the snapshot holds the place counts (chapter 11.3). -/
theorem State.statusSnapshot_counts (s : State) :
    s.statusSnapshot.getD 12 0 = byteOf s.store.freeDescs.length ∧
    s.statusSnapshot.getD 15 0 = byteOf s.locator.queue.length ∧
    s.statusSnapshot.getD 16 0 = byteOf s.enginesBusy ∧
    s.statusSnapshot.getD 17 0 = byteOf s.egress.forwardQueue.length := by
  unfold State.statusSnapshot
  cases s.receiver.lastToken <;> cases s.management.claim <;> exact ⟨rfl, rfl, rfl, rfl⟩

theorem toNat_byteOf {n : Nat} (hn : n < 256) : (byteOf n).toNat = n :=
  (BitVec.toNat_ofNat n 8).trans (Nat.mod_eq_of_lt hn)

/-! ### The location lists -/

theorem State.inPlaceCheck_of_free {s : State} {d : DescId} (hd : s.desc? d = none) (p : Place) :
    s.inPlaceCheck d p = false := by
  simp [State.inPlaceCheck, hd]

theorem State.inPlaceCheck_of_desc {s : State} {d : DescId} {fr : Descriptor} (hd : s.desc? d = some fr)
    (p : Place) : s.inPlaceCheck d p = decide (fr.place = p) := by
  simp [State.inPlaceCheck, hd]

/-- A list without repetition that holds exactly the descriptors in a place counts them. -/
theorem State.countInPlace_eq_length {s : State} {l : List DescId} {p : Place} (hl : l.Nodup)
    (hmem : ∀ d, d ∈ l ↔ s.InPlace d p) : s.countInPlace p = l.length := by
  have hperm : ((List.finRange 40).filter (s.inPlaceCheck · p)).Perm l :=
    (List.perm_ext_iff_of_nodup ((List.nodup_finRange 40).filter _) hl).mpr fun d => by
      simp [hmem, s.inPlace_iff]
  exact hperm.length_eq

theorem State.mem_sendingDesc (s : State) (d : DescId) :
    d ∈ s.sendingDesc ↔ s.sending = some (.forward d) := by
  unfold State.sendingDesc
  cases s.sending with
  | none => simp
  | some x => cases x <;> simp [eq_comm]

theorem State.length_sendingDesc (s : State) :
    s.sendingDesc.length = if ∃ x, s.sending = some (.forward x) then 1 else 0 := by
  unfold State.sendingDesc
  cases s.sending with
  | none => simp
  | some x => cases x <;> simp

theorem State.sendingDesc_nodup (s : State) : s.sendingDesc.Nodup := by
  unfold State.sendingDesc
  split <;> simp

/-- The descriptors that the two engines hold. -/
def State.engineDescs (s : State) : List DescId :=
  (s.engineDesc .engine0).toList ++ (s.engineDesc .engine1).toList

theorem State.mem_engineDescs (s : State) (d : DescId) :
    d ∈ s.engineDescs ↔ ∃ e, s.engineDesc e = some d := by
  simp only [State.engineDescs, List.mem_append, Option.mem_toList]
  exact ⟨fun h => h.elim (⟨_, ·⟩) (⟨_, ·⟩), fun ⟨e, he⟩ => by cases e <;> simp [he]⟩

theorem State.length_engineDescs (s : State) : s.engineDescs.length = s.enginesBusy := by
  cases h0 : s.locator.engine0 <;> cases h1 : s.locator.engine1 <;>
    simp [State.engineDescs, State.enginesBusy, State.engineDesc, State.engineRun, h0, h1]

section
variable {s : State} (hplaces : s.PlaceInv)
include hplaces

theorem State.PlaceInv.engineDescs_nodup : s.engineDescs.Nodup := by
  refine List.nodup_append.mpr ⟨Option.toList_nodup _, Option.toList_nodup _, ?_⟩
  rintro d h0 _ h1 rfl
  exact hplaces.engines d ⟨Option.mem_toList.mp h0, Option.mem_toList.mp h1⟩

theorem State.PlaceInv.count_receiving {d : DescId} (hd : s.receiver.reception = .receiving d) :
    s.countInPlace .receiving = 1 :=
  State.countInPlace_eq_length (List.nodup_singleton d) fun e => by
    simp [← hplaces.receiving, hd, eq_comm]

theorem State.PlaceInv.count_queued : s.countInPlace .queued = s.locator.queue.length :=
  State.countInPlace_eq_length hplaces.queueNodup hplaces.queued

theorem State.PlaceInv.count_locating : s.countInPlace .locating = s.enginesBusy :=
  (State.countInPlace_eq_length hplaces.engineDescs_nodup fun d =>
    (s.mem_engineDescs d).trans (hplaces.locating d)).trans s.length_engineDescs

theorem State.PlaceInv.count_forward : s.countInPlace .forward = s.egress.forwardQueue.length :=
  State.countInPlace_eq_length hplaces.forwardNodup hplaces.forward

theorem State.PlaceInv.count_sending : s.countInPlace .sending = s.sendingDesc.length :=
  State.countInPlace_eq_length s.sendingDesc_nodup fun d =>
    (s.mem_sendingDesc d).trans (hplaces.sending d)

end

/-! ### The free descriptor list and the six places -/

/-- The free list counts the FREE descriptors (R22). -/
theorem State.FreeDescsExact.length_freeDescs {s : State} (h : s.FreeDescsExact) :
    s.store.freeDescs.length = (List.finRange 40).countP fun d => (s.desc? d).isNone := by
  obtain ⟨hnodup, hmem⟩ := h
  have hperm : s.store.freeDescs.Perm ((List.finRange 40).filter fun d => (s.desc? d).isNone) :=
    (List.perm_ext_iff_of_nodup hnodup ((List.nodup_finRange 40).filter _)).mpr fun d => by simp [hmem]
  rw [hperm.length_eq, List.countP_eq_length_filter]

theorem State.countInPlace_eq_countP (s : State) (p : Place) :
    s.countInPlace p = (List.finRange 40).countP (s.inPlaceCheck · p) :=
  List.countP_eq_length_filter.symm

/-- Every descriptor of a list is FREE or in one of the six places. -/
theorem State.length_eq_countP_places (s : State) (l : List DescId) :
    l.length = (l.countP fun d => (s.desc? d).isNone) + l.countP (s.inPlaceCheck · .receiving) +
      l.countP (s.inPlaceCheck · .queued) + l.countP (s.inPlaceCheck · .locating) +
      l.countP (s.inPlaceCheck · .held) + l.countP (s.inPlaceCheck · .forward) +
      l.countP (s.inPlaceCheck · .sending) := by
  induction l with
  | nil => rfl
  | cons d l ih =>
    simp only [List.length_cons, List.countP_cons, ih]
    cases hd : s.desc? d with
    | none => simp [State.inPlaceCheck_of_free hd]; omega
    | some fr => cases hp : fr.place <;> simp [State.inPlaceCheck_of_desc hd, hp] <;> omega

/-- The free list and the six places account for the 40 descriptors (R25). -/
theorem State.FreeDescsExact.places_sum {s : State} (h : s.FreeDescsExact) :
    s.store.freeDescs.length + s.countInPlace .receiving + s.countInPlace .queued +
      s.countInPlace .locating + s.countInPlace .held + s.countInPlace .forward +
      s.countInPlace .sending = 40 := by
  have hall := s.length_eq_countP_places (List.finRange 40)
  rw [List.length_finRange] at hall
  simp only [h.length_freeDescs, State.countInPlace_eq_countP]
  exact hall.symm

/-! ### The cells (R26, R27) -/

/-- The free cells and the cells that descriptors list are 128. -/
theorem State.CellsConserved.length_add {s : State} (h : s.CellsConserved) :
    s.store.freeCells.length + s.heldCells.length = 128 := by
  simpa using List.Perm.length_eq h

/-- Every frame needs a cell, if only for its header. -/
theorem cellsNeeded_pos (n : Nat) : 0 < cellsNeeded n := by
  simp only [cellsNeeded, Config.headerBytes, Config.cellBytes]
  omega

/-- The cells that a descriptor lists, none where it is FREE. -/
def State.listedCells (s : State) (d : DescId) : List CellId := ((s.desc? d).map Descriptor.cells).getD []

theorem State.heldCells_eq (s : State) : s.heldCells = (List.finRange 40).flatMap s.listedCells := rfl

/-- Of any list of descriptors, those that are not FREE list at least one cell each. -/
theorem State.StoreInv.length_le_free_add_cells {s : State} (h : s.StoreInv) (l : List DescId) :
    l.length ≤ (l.countP fun d => (s.desc? d).isNone) + (l.flatMap s.listedCells).length := by
  induction l with
  | nil => simp
  | cons d l ih =>
    simp only [List.length_cons, List.countP_cons, List.flatMap_cons, List.length_append]
    cases hd : s.desc? d with
    | none =>
      simp only [Option.isNone_none, if_true]
      omega
    | some fr =>
      have hcell : 0 < (s.listedCells d).length := by
        obtain ⟨-, hcells⟩ := h.cellsFit d fr hd
        simpa [State.listedCells, hd, hcells] using cellsNeeded_pos fr.storedLength
      simp only [Option.isNone_some, Bool.false_eq_true, if_false]
      omega

/-- The descriptors that are not FREE hold at least one cell each (R27). -/
theorem State.StoreInv.le_length_heldCells {s : State} (h : s.StoreInv) :
    40 - s.store.freeDescs.length ≤ s.heldCells.length := by
  have hle := h.length_le_free_add_cells (List.finRange 40)
  rw [← h.freeExact.length_freeDescs, ← s.heldCells_eq, List.length_finRange] at hle
  omega

end Sys2Proof.Machine

section

open Sys2Proof Sys2Proof.Machine

/-- Settles O15: each place count of the snapshot is the number of descriptors in that place, and with the
free list the places make up the 40 descriptors. -/
theorem placesAccountForEveryDescriptor : Obligations.PlacesAccountForEveryDescriptor := by
  intro s d hinv hreceiving
  obtain ⟨hfree, hqueued, hbusy, hforward⟩ := s.statusSnapshot_counts
  have hsum := hinv.store.freeExact.places_sum
  rw [hinv.places.count_receiving hreceiving, hinv.places.count_queued, hinv.places.count_locating,
    hinv.places.count_forward, hinv.places.count_sending] at hsum
  have hcells := hinv.store.conserved.length_add
  refine ⟨s.statusSnapshot_eq_layout, ?sum, hfree, hqueued, ?locating, hforward, s.length_sendingDesc,
    by omega, hinv.store.le_length_heldCells⟩
  case sum =>
    rw [hfree, hqueued, hbusy, hforward, toNat_byteOf (by omega), toNat_byteOf (by omega),
      toNat_byteOf (by omega), toNat_byteOf (by omega)]
    omega
  case locating => rw [hbusy, hinv.places.count_locating]

end
end

section
/-! The courses of a command: what a handler has done when its event ends, one constructor for each branch of a
handler. Every proof about all commands goes through these. -/

namespace Sys2Proof.Machine

/-! ### Courses of a request -/

/-- What the owning block does to the part at a request of the kind and arguments given (R140). -/
inductive State.Executed (s : State) (rq : Requester) : Byte → List Byte → State → Prop
  | unchanged {kind args} : s.Executed rq kind args s
  | claim {lease} (haddress : isNodeAddress rq.address = true) :
      s.Executed rq 0x02 [lease] { s with management := { s.management with
        claim := some ⟨rq.address, s.now + Config.seconds lease.toNat⟩ } }
  | release {args} : s.Executed rq 0x03 args s.dropClaim
  | writeEntry {f entry e} (hcopy : s.table.copyInFlight = false) (he : decodeEntry entry = some e) :
      s.Executed rq 0x05 (f :: entry) { s with table := s.table.writeStaged f e }
  | commit (hcopy : s.table.copyInFlight = false) :
      s.Executed rq 0x06 [] { s with table := s.table.swapped }
  | clearFlow {f} : s.Executed rq 0x0A [0, f] { s with counters := { s.counters with
      flows := setFlow s.counters.flows f FlowCounters.zero } }
  | clearAll {f} : s.Executed rq 0x0A [1, f] { s with counters := CounterStore.reset }
  | setTiming {args tm} (htiming : decodeTiming args = some tm) :
      s.Executed rq 0x0C args { s with egress := s.egress.retimed tm s.now }
  | setEvents {args} (set : Half) : s.Executed rq 0x0D args (s.setEnables set)
  | ackNotice {args} (c : EventClass) (q : Byte) (hq : (s.classState c).entry.sequence? = some q) :
      s.Executed rq 0x0E args (s.acknowledge c).1
  | resetPart {args} (scope : ResetScope) :
      s.Executed rq 0x0F args { s with management := { s.management with
        pendingReset := some ⟨scope, true, if rq.broadcast then some rq.desc else none⟩ } }

/-- A handler that is found is that of its kind byte. -/
theorem eq_of_toNat {kind : Byte} {n : Nat} (h : kind.toNat = n) : kind = BitVec.ofNat 8 n := by
  subst h; simp

variable (s : State) (rq : Requester)

theorem runClaim_executed (args : List Byte) :
    s.Executed rq 0x02 args (runClaim rq args s).1 := by
  unfold runClaim
  split
  · next lease =>
    split
    · exact .unchanged
    · next h =>
      have haddress : isNodeAddress rq.address = true := by simp at h; exact h.2
      dsimp only
      split
      · exact .claim haddress
      · split
        · exact .claim haddress
        · exact .unchanged
  · exact .unchanged

theorem runRelease_executed (args : List Byte) :
    s.Executed rq 0x03 args (runRelease rq args s).1 := by
  unfold runRelease
  split
  · exact .unchanged
  · split
    · exact .release
    · exact .unchanged

theorem runReadEntry_fst (args : List Byte) : (runReadEntry rq args s).1 = s := by
  unfold runReadEntry
  split
  · split
    · rfl
    · split <;> rfl
    · rfl
  · rfl

theorem runWriteEntry_executed (args : List Byte) :
    s.Executed rq 0x05 args (runWriteEntry rq args s).1 := by
  unfold runWriteEntry
  split
  · split
    · exact .unchanged
    · next hcopy =>
      split
      · exact .unchanged
      · next e he => exact .writeEntry (by simpa using hcopy) he
  · exact .unchanged

theorem runCommit_executed : s.Executed rq 0x06 [] (runCommit rq [] s).1 := by
  unfold runCommit
  split
  · exact .unchanged
  · next hcopy => exact .commit (by simpa using hcopy)

theorem runReadCounters_fst (args : List Byte) : (runReadCounters rq args s).1 = s := by
  unfold runReadCounters
  split <;> rfl

theorem runClearCounters_executed (args : List Byte) :
    s.Executed rq 0x0A args (runClearCounters rq args s).1 := by
  unfold runClearCounters
  split
  · next selector f =>
    split
    · next h => rw [eq_of_toNat h]; exact .clearFlow
    · next h => rw [eq_of_toNat h]; exact .clearAll
    · exact .unchanged
  · exact .unchanged

theorem runSetTiming_executed (args : List Byte) :
    s.Executed rq 0x0C args (runSetTiming rq args s).1 := by
  unfold runSetTiming
  split
  · exact .unchanged
  · next tm htiming => exact .setTiming htiming

theorem runSetEvents_executed (args : List Byte) :
    s.Executed rq 0x0D args (runSetEvents rq args s).1 := by
  unfold runSetEvents
  split
  · next hi lo =>
    by_cases h : 4096 ≤ value16 hi lo
    · simp only [h, if_true]
      exact .unchanged
    · simp only [h, if_false]
      exact .setEvents _
  · exact .unchanged

theorem runAckNotice_executed (args : List Byte) :
    s.Executed rq 0x0E args (runAckNotice rq args s).1 := by
  unfold runAckNotice
  split
  · split
    · exact .unchanged
    · next c _ =>
      split
      · next hq => exact .ackNotice c _ hq
      · exact .unchanged
  · exact .unchanged

theorem runResetPart_executed (args : List Byte) :
    s.Executed rq 0x0F args (runResetPart rq args s).1 := by
  unfold runResetPart
  split
  · split
    · exact .unchanged
    · next scope _ => exact .resetPart scope
  · exact .unchanged

/-- A handler found runs as its kind is executed. -/
theorem handlerFor_executed (kind : Byte) (h : Handler) (args : List Byte)
    (hkind : handlerFor kind = some h) (hlen : args.length = h.argCount) :
    s.Executed rq kind args (h.run rq args s).1 := by
  unfold handlerFor at hkind
  split at hkind
  case h_16 => cases hkind
  all_goals
    rename_i hk
    obtain rfl := eq_of_toNat hk
    obtain rfl := Option.some.inj hkind
  · exact .unchanged
  · exact runClaim_executed s rq args
  · exact runRelease_executed s rq args
  · show s.Executed rq _ args (runReadEntry rq args s).1
    rw [runReadEntry_fst]
    exact .unchanged
  · exact runWriteEntry_executed s rq args
  · rw [List.length_eq_zero_iff.mp hlen]
    exact runCommit_executed s rq
  · exact .unchanged
  · show s.Executed rq _ args (runReadCounters rq args s).1
    rw [runReadCounters_fst]
    exact .unchanged
  · exact .unchanged
  · exact runClearCounters_executed s rq args
  · exact .unchanged
  · exact runSetTiming_executed s rq args
  · exact runSetEvents_executed s rq args
  · exact runAckNotice_executed s rq args
  · exact runResetPart_executed s rq args

theorem State.execute_executed (kind : Byte) (args : List Byte) :
    s.Executed rq kind args (s.execute rq (handlerFor kind) args).1 := by
  unfold State.execute
  split
  · exact .unchanged
  · next h hkind =>
    split
    · next hlen =>
      split
      · exact .unchanged
      · exact handlerFor_executed s rq kind h args hkind hlen
    · exact .unchanged

/-- A handler whose kind needs the claim runs for the holder alone (R135). -/
theorem handlerFor_need (kind : Byte) (h : Handler) (hkind : handlerFor kind = some h)
    (hneeds : needsClaim kind = true) : h.need = .needed := by
  unfold handlerFor at hkind
  split at hkind
  case h_16 => cases hkind
  all_goals
    rename_i hk
    obtain rfl := eq_of_toNat hk
    obtain rfl := Option.some.inj hkind
    first | rfl | (exact absurd hneeds (by decide))

theorem holder_of_claimRefusal {address : Byte} (h : claimRefusal .needed address s = none) :
    ∃ c, s.management.claim = some c ∧ c.holder = address := by
  unfold claimRefusal at h
  cases hc : s.management.claim with
  | none => simp [hc] at h
  | some c => exact ⟨c, rfl, by simpa [hc] using h⟩

/-- An execution that changes the part has passed the claim check. -/
theorem State.execute_passed (kind : Byte) (args : List Byte)
    (hv : (s.execute rq (handlerFor kind) args).1 ≠ s) (hneeds : needsClaim kind = true) :
    ∃ c, s.management.claim = some c ∧ c.holder = rq.address := by
  unfold State.execute at hv
  split at hv
  · exact absurd rfl hv
  · next h hkind =>
    split at hv
    · split at hv
      · exact absurd rfl hv
      · next hrefusal =>
        rw [handlerFor_need kind h hkind hneeds] at hrefusal
        exact holder_of_claimRefusal s hrefusal
    · exact absurd rfl hv

/-! ### Acceptance -/

/-- What the management unit does to the part at a REQUEST payload whose check has passed (R125, R126). -/
inductive State.Managed (s : State) (rq : Requester) (payload : List Byte) : State → Prop
  | tooShort (hlength : payload.length < 4) : s.Managed rq payload (s.countGlobal .mgmtCheckFaults)
  | shed : s.Managed rq payload ((s.countGlobal .requestsShed).raise .requestShed)
  | replied (q : QueuedResponse) (hroom : s.management.responses.length < 4) :
      s.Managed rq payload (s.queueResponse q)
  | taken {kind sequence args v} (a : Answer) (hpayload : payload = requestPayload kind (sequence :: args))
      (htakes : s.Takes rq.address sequence) (hv : s.Executed rq kind args v)
      (hpassed : v ≠ s → needsClaim kind = true →
        ∃ c, s.management.claim = some c ∧ c.holder = rq.address) :
      s.Managed rq payload (v.recordAnswer rq.address kind sequence a)

variable {s rq}

theorem State.room_of_course {address sequence : Byte} {course : Course}
    (h : s.course address sequence = course) (hne : course ≠ .shed) :
    s.management.responses.length < 4 := by
  by_contra hfull
  exact hne (h ▸ s.course_shed address sequence (by omega))

theorem State.takes_of_course {address sequence : Byte} (h : s.course address sequence = .taken) :
    s.Takes address sequence := by
  have hroom : s.management.responses.length < 4 := State.room_of_course h (by simp)
  have hfull : ¬Config.responseSlots ≤ s.management.responses.length := by
    simp only [Config.responseSlots]; omega
  simp only [State.course, hfull, if_false] at h
  have honward : s.management.pendingReset = none := by
    cases hp : s.management.pendingReset with
    | none => rfl
    | some p =>
      simp only [hp, Option.isSome_some, if_true] at h
      split at h
      · simp at h
      · split at h
        · split at h
          · simp at h
          · split at h <;> simp at h
        · simp at h
  refine ⟨hroom, honward, fun r hr ha => ?_⟩
  simp only [hr, ha, if_true] at h
  by_contra hnear
  have hle : sequenceDistance r.sequence sequence ≤ 127 := by
    unfold sequenceDistance; omega
  by_cases heq : r.sequence = sequence <;> simp [heq, hle] at h

theorem State.accept_managed (payload : List Byte) (kind sequence : Byte) (args : List Byte)
    (hpayload : payload = requestPayload kind (sequence :: args)) :
    s.Managed rq payload (s.accept rq kind sequence (handlerFor kind) args) := by
  unfold State.accept
  split
  · exact .shed
  · next h => exact .replied _ (State.room_of_course h (by simp))
  · next h => exact .replied _ (State.room_of_course h (by simp))
  · next h => exact .replied _ (State.room_of_course h (by simp))
  · next h =>
    rw [State.take_eq]
    exact .taken _ hpayload (State.takes_of_course h) (s.execute_executed rq kind args)
      (s.execute_passed rq kind args)

/-- A payload whose check passes is its bytes before the check with the check behind them (R178). -/
theorem eq_withPayloadCheck_of_passes {p : List Byte} (h : payloadCheckPasses p = true) :
    p = withPayloadCheck (p.take (p.length - 2)) := by
  obtain ⟨-, hdrop⟩ := of_decide_eq_true h
  rw [withPayloadCheck, ← hdrop, List.take_append_drop]

theorem State.manage_managed (payload : List Byte) (hcheck : payloadCheckPasses payload = true) :
    s.Managed rq payload (s.manage rq (handlerFor (payload.headD 0)) payload) := by
  have hshort : payload.length < 4 ∨ 4 ≤ payload.length := by omega
  match payload, hshort with
  | [], _ => exact .tooShort (by simp)
  | [_], _ => exact .tooShort (by simp)
  | kind :: sequence :: rest, .inl h =>
    simp only [State.manage, Nat.not_le.mpr h, if_false]
    exact .tooShort h
  | kind :: sequence :: rest, .inr h =>
    simp only [State.manage, h, if_true, List.headD_cons]
    refine State.accept_managed _ kind sequence _ ?_
    have hrest : 2 ≤ rest.length := by simpa using h
    have hp := eq_withPayloadCheck_of_passes hcheck
    have hlen : (kind :: sequence :: rest).length - 2 = rest.length - 2 + 1 + 1 := by
      simp; omega
    rwa [hlen, List.take_succ_cons, List.take_succ_cons] at hp

/-! ### The frame-end of a frame in the receive slot -/

/-- What the dispatch of a kept frame, whose payload has arrived, does to the part (R15). -/
inductive State.Dispatched (s : State) (d : DescId) (fr : Descriptor) (payload : List Byte) : State → Prop
  | data (snap : Snapshot) (hrole : fr.role = .data snap) : s.Dispatched d fr payload (s.endData d fr)
  | forwarded (hrole : fr.role = .forwardedOther) : s.Dispatched d fr payload (s.toForward d)
  | request {v} (hrole : fr.role = .request) (hcheck : payloadCheckPasses payload = true)
      (hv : s.Managed (requesterOf d fr) payload v) :
      s.Dispatched d fr payload
        (if fr.header.destination = Config.broadcast then v.toForward d else v.releaseDropped d)
  | enumeration (hrole : fr.role = .enumeration) (hform : enumWellFormed payload = true) :
      s.Dispatched d fr payload ((s.enumerate fr payload).toForward d)
  | checkFault (hrole : fr.role = .request ∨ fr.role = .enumeration) :
      s.Dispatched d fr payload (s.dropCheckFault d)

theorem State.dispatch_dispatched (s : State) (d : DescId) (fr : Descriptor) (payload : List Byte) :
    s.Dispatched d fr payload (s.dispatch d fr payload) := by
  unfold State.dispatch
  split
  · next snap hrole => exact .data snap hrole
  · next hrole => exact .forwarded hrole
  · next hrole =>
    split
    · next hcheck =>
      have h := State.Dispatched.request hrole hcheck
        (s.manage_managed (rq := requesterOf d fr) payload hcheck)
      simpa [State.endRequest, requesterOf] using h
    · exact .checkFault (.inl hrole)
  · next hrole =>
    split
    · next hform => exact .enumeration hrole hform
    · exact .checkFault (.inr hrole)

/-- The command is the end of a frame with the payload given, be it FRAME_END or a request row (R125). -/
def EndsFrame (c : Instr) (payload : List Byte) : Prop :=
  c = .frameEnd payload ∨ ∃ kind body, requestOf c = some (kind, body) ∧ payload = requestPayload kind body

/-- What the payload built for a request is: one whose check passes (R178). -/
theorem payloadCheckPasses_withPayloadCheck (p : List Byte) :
    payloadCheckPasses (withPayloadCheck p) = true := by
  simp [payloadCheckPasses, withPayloadCheck, bytes16]

/-! ### Header arrival -/

/-- The part with ARRIVED counted for a DATA frame (R42). -/
def State.countArrival (s : State) (role : Role) (h : HeaderBytes) : State :=
  match role with
  | .data _ => s.countFlow h.flow .arrived 1
  | .forwardedOther => s
  | .request => s
  | .enumeration => s

/-- The part with a frame in the receive slot, granted descriptor `d` (R28). -/
def State.admitFrame (s : State) (d : DescId) (role : Role) (h : HeaderBytes) : State :=
  { s with
    store := s.store.granted d role h
    receiver := { s.receiver with reception := .receiving d, currentHeader := some h }
    codeUnit := codeUnitFor role h }

/-- What a header arrival does to the part (R8 to R12). -/
inductive State.HeaderArrived (s : State) (h : HeaderBytes) : State → Prop
  | fault (hcheck : headerCheckPasses h = false) :
      s.HeaderArrived h (((s.countGlobal .headerFaults).raise .headerFault).setReception .skipping)
  | stripped (hcheck : headerCheckPasses h = true) (hfate : fateOf s.nodeAddress h = .loopStripped) :
      s.HeaderArrived h ((s.countGlobal .loopStripped).setReception .skipping)
  | token (hcheck : headerCheckPasses h = true) (hfate : fateOf s.nodeAddress h = .tokenConsumed) :
      s.HeaderArrived h (s.consumeToken h)
  | discarded (hdiscard : (s.table.activeEntry h.flow).action = .discard) :
      s.HeaderArrived h
        (((s.countFlow h.flow .arrived 1).countFlow h.flow .dropped 1).setReception .skipping)
  | refused (role : Role) (hrole : s.keptRole h = some role) :
      s.HeaderArrived h ((s.countArrival role h).refuseFrame role h)
  | kept (role : Role) (hrole : s.keptRole h = some role) (d : DescId) (rest : List DescId)
      (hd : s.store.freeDescs = d :: rest)
      (hcells : cellsNeeded (storedLengthOf role h) ≤ s.store.freeCells.length) :
      s.HeaderArrived h ((s.countArrival role h).admitFrame d role h)

theorem State.countArrival_store (s : State) (role : Role) (h : HeaderBytes) :
    (s.countArrival role h).store = s.store := by
  cases role <;> rfl

theorem State.keepFrame_arrived (s : State) (role : Role) (h : HeaderBytes)
    (hrole : s.keptRole h = some role) :
    s.HeaderArrived h ((s.countArrival role h).keepFrame role h) := by
  unfold State.keepFrame
  split
  · exact .refused role hrole
  · next d rest hd =>
    rw [s.countArrival_store] at hd
    split
    · next hgrants =>
      rw [s.countArrival_store, FrameStore.grants, Bool.and_eq_true, decide_eq_true_eq] at hgrants
      exact .kept role hrole d rest hd hgrants.2
    · exact .refused role hrole

theorem State.keptRole_of_kept {s : State} {h : HeaderBytes} {role : Role}
    (hfate : fateOf s.nodeAddress h = .kept role) : s.keptRole h = some role := by
  simp [State.keptRole, hfate]

theorem fateOf_kept_not_data (address : Byte) (h : HeaderBytes) (snap : Snapshot) :
    fateOf address h ≠ .kept (.data snap) := by
  unfold fateOf
  split
  · simp
  · split
    case h_2 | h_3 => split <;> simp
    all_goals simp

theorem State.arriveHeader_arrived (s : State) (h : HeaderBytes) :
    s.HeaderArrived h (s.arriveHeader h) := by
  unfold State.arriveHeader
  split
  · next hcheck =>
    split
    · next hfate => exact .stripped hcheck hfate
    · next hfate => exact .token hcheck hfate
    · next hfate =>
      unfold State.classify
      dsimp only
      split
      · next hdiscard => exact .discarded hdiscard
      · next hkept =>
        exact s.keepFrame_arrived (.data (s.snapshotOf h.flow)) h
          (by simpa [State.keptRole, hfate, State.snapshotOf] using hkept)
    · next role hfate =>
      have harrived := s.keepFrame_arrived role h (State.keptRole_of_kept hfate)
      cases role with
      | data snap => exact absurd hfate (fateOf_kept_not_data _ h snap)
      | forwardedOther => exact harrived
      | request => exact harrived
      | enumeration => exact harrived
  · next hcheck => exact .fault (by simpa using hcheck)

/-! ### The courses of all commands -/

/-- What a command does to the part before the hold-wait timer is settled at the end of its event, power-on
apart. -/
inductive State.Handled (s : State) : Instr → State → Prop
  | holdInAssertion : s.Handled .holdInAssertion (s.setHoldIn true)
  | holdInRelease : s.Handled .holdInRelease (s.setHoldIn false)
  | acquisition (hlink : s.receiver.link = .linkDown) :
      s.Handled .acquisition ({ s with receiver := { s.receiver with link := .linkUp } }.raise .upstreamUp)
  | lossIdle {received} (hlink : s.receiver.link = .linkUp)
      (hrec : s.receiver.reception = .between ∨ s.receiver.reception = .skipping) :
      s.Handled (.loss received) s.loseLink
  | lossBeforeHeader {received} (hlink : s.receiver.link = .linkUp)
      (hrec : s.receiver.reception = .beforeHeader) :
      s.Handled (.loss received) (s.countGlobal .upstreamAborts).loseLink
  | lossReceiving {received d fr} (hlink : s.receiver.link = .linkUp)
      (hrec : s.receiver.reception = .receiving d) (hd : s.desc? d = some fr) :
      s.Handled (.loss received) (s.abortFrame d fr received .between).loseLink
  | startDelimiterIdle {received} (hlink : s.receiver.link = .linkUp)
      (hrec : s.receiver.reception = .between ∨ s.receiver.reception = .skipping) :
      s.Handled (.startDelimiter received) (s.setReception .beforeHeader)
  | startDelimiterBeforeHeader {received} (hlink : s.receiver.link = .linkUp)
      (hrec : s.receiver.reception = .beforeHeader) :
      s.Handled (.startDelimiter received) (s.countGlobal .upstreamAborts)
  | startDelimiterReceiving {received d fr} (hlink : s.receiver.link = .linkUp)
      (hrec : s.receiver.reception = .receiving d) (hd : s.desc? d = some fr) :
      s.Handled (.startDelimiter received) (s.abortFrame d fr received .beforeHeader)
  | cutShortByEnd (hrec : s.receiver.reception = .beforeHeader) :
      s.Handled (.frameCutShort .endDelimiter)
        (((s.setReception .between).countGlobal .headerFaults).raise .headerFault)
  | cutShort {symbol} (hrec : s.receiver.reception = .beforeHeader)
      (hsymbol : symbol = .abortDelimiter ∨ symbol = .idleSymbol ∨ symbol = .codeViolation) :
      s.Handled (.frameCutShort symbol) ((s.setReception .between).countGlobal .upstreamAborts)
  | cutShortByStart (hrec : s.receiver.reception = .beforeHeader) :
      s.Handled (.frameCutShort .startDelimiter) (s.countGlobal .upstreamAborts)
  | skipEnd {symbol} (hrec : s.receiver.reception = .skipping) :
      s.Handled (.skipEnd symbol) (s.setReception (afterSymbol symbol))
  | headerArrival {h u} (hrec : s.receiver.reception = .beforeHeader) (hu : s.HeaderArrived h u) :
      s.Handled (.headerArrival h) u
  | abort {symbol received d fr} (hrec : s.receiver.reception = .receiving d) (hd : s.desc? d = some fr) :
      s.Handled (.abort symbol received) (s.abortFrame d fr received (afterSymbol symbol))
  | frameEndAborted {payload d fr} (hrec : s.receiver.reception = .receiving d)
      (hd : s.desc? d = some fr) :
      s.Handled (.frameEnd payload) (s.abortFrame d fr payload .between)
  | frameEnd {c payload d fr u} (hc : EndsFrame c payload) (hrec : s.receiver.reception = .receiving d)
      (hd : s.desc? d = some fr) (hlength : payload.length = headerLength fr.header)
      (hu : (s.arrivePayload d fr payload).Dispatched d fr payload u)
      (hrow : c = .frameEnd payload ∨ fr.role = .request) :
      s.Handled c (u.endReception .between)
  | pickup {e d rest fr} (he : s.engineRun e = none) (hqueue : s.locator.queue = d :: rest)
      (hturn : s.locator.firstFreed ≠ some (otherEngine e)) (hd : s.desc? d = some fr) :
      s.Handled (.pickup e)
        ((({ s with locator := { s.locator with queue := rest, firstFreed := none } } : State).setPlace d
          .locating).setEngine e (some (startRun d fr s.now)))
  | completionWithList {e r fr entries} (he : s.engineRun e = some r) (hd : s.desc? r.desc = some fr)
      (hresult : locate r.syndromes r.strength.t r.length = some entries) :
      s.Handled (.locatorCompletionList e)
        ((s.advanceTo r.listTime).completeWithList e r.desc fr entries)
  | completionFailed {e r fr} (he : s.engineRun e = some r) (hd : s.desc? r.desc = some fr)
      (hresult : locate r.syndromes r.strength.t r.length = none) :
      s.Handled (.locatorCompletionFailed e)
        (((((s.advanceTo r.failedTime).countFlow fr.flow .codeFailed 1).raise .codeFailure).setEngine e
          none).handBack r.desc fr true)
  | deadlineExpiry {d fr due} (hd : s.desc? d = some fr) (hdue : fr.deadline = some due) :
      s.Handled (.deadlineExpiry d) ((s.advanceTo due).expireFrame d fr)
  | startToken (hidle : s.egress.transmitter = none) (hdebt : 1 ≤ s.egress.debt) :
      s.Handled .transmissionStart s.startToken
  | startResponse {q rest} (hidle : s.egress.transmitter = none)
      (hqueue : s.management.responses = q :: rest) :
      s.Handled .transmissionStart (s.startResponse q)
  | startNotice {c} (hidle : s.egress.transmitter = none) :
      s.Handled .transmissionStart (s.startNotice c)
  | startForward {d rest fr} (hidle : s.egress.transmitter = none)
      (hqueue : s.egress.forwardQueue = d :: rest) (hd : s.desc? d = some fr) :
      s.Handled .transmissionStart (s.startForward d fr)
  | completeToken {tx received} (htx : s.egress.transmitter = some tx) (hsource : tx.source = .token) :
      s.Handled (.transmissionCompletion received)
        ((s.advanceTo tx.endsAt).idleTransmitter.completeToken.resetIfDue received)
  | completeResponse {tx received} (htx : s.egress.transmitter = some tx)
      (hsource : tx.source = .response) :
      s.Handled (.transmissionCompletion received)
        ((s.advanceTo tx.endsAt).idleTransmitter.completeResponse.resetIfDue received)
  | completeNotice {tx received c q} (htx : s.egress.transmitter = some tx)
      (hsource : tx.source = .notice c q) :
      s.Handled (.transmissionCompletion received)
        (((s.advanceTo tx.endsAt).idleTransmitter.completeNotice c q).resetIfDue received)
  | completeForward {tx received d fr} (htx : s.egress.transmitter = some tx)
      (hsource : tx.source = .forward d) (hd : s.desc? d = some fr) :
      s.Handled (.transmissionCompletion received)
        (((s.advanceTo tx.endsAt).idleTransmitter.completeForward d fr).resetIfDue received)
  | cadenceExpiry :
      s.Handled .cadenceExpiry { s.advanceTo s.egress.cadenceDue with egress := s.egress.cadenceExpired }
  | cadenceSlip (hdebt : Config.debtLimit ≤ s.egress.debt) :
      s.Handled .cadenceExpiry
        ((({ s.advanceTo s.egress.cadenceDue with egress := s.egress.cadenceExpired } : State).countGlobal
          .cadenceSlips).raise .cadenceSlip)
  | holdWaitExpiry {due} (hdue : s.egress.holdWait = some due) :
      s.Handled .holdWaitExpiry
        ((((s.advanceTo due).grantPermission).countGlobal .holdForced).raise .holdForced)
  | leaseExpiry {c} (hclaim : s.management.claim = some c) :
      s.Handled .leaseExpiry (((s.advanceTo c.leaseEnds).dropClaim).raise .leaseEnded)
  | retryResent {c q n r due} (hentry : (s.classState c).entry = .awaitingAck q n r due) (hr : r < 3) :
      s.Handled (.retryTimerExpiry c) ((s.advanceTo due).resendNotice c q n r)
  | retryExhausted {c q n r due} (hentry : (s.classState c).entry = .awaitingAck q n r due) (hr : 3 ≤ r) :
      s.Handled (.retryTimerExpiry c) ((s.advanceTo due).putEntry c (.exhausted q n))
  | copyCompletion (hcopy : s.table.copyInFlight = true) :
      s.Handled .copyCompletion { s with table := s.table.copied }

/-- A command answers the part as it is, or settled after one of its courses. -/
def Answers (s : State) (c : Instr) (t : State) : Prop := t = s ∨ ∃ u, s.Handled c u ∧ t = u.settle

section

variable {s t : State}

theorem Answers.of_eq (c : Instr) (h : Host.Outcome.next s = (.next t : Host.Outcome State Fault Refusal)) :
    Answers s c t := .inl (Host.Outcome.next.inj h).symm

theorem Answers.of_done {c : Instr} {u : State} (hu : s.Handled c u) (h : u.done = .next t) :
    Answers s c t := .inr ⟨u, hu, (State.done_eq u t).mp h⟩

theorem execLoss_answers {received : List Byte} (h : execLoss received s = .next t) :
    Answers s (.loss received) t := by
  unfold execLoss at h
  split at h
  · exact .of_eq _ h
  · next hlink =>
    split at h
    · next hrec => exact .of_done (.lossIdle hlink (.inl hrec)) h
    · next hrec => exact .of_done (.lossIdle hlink (.inr hrec)) h
    · next hrec => exact .of_done (.lossBeforeHeader hlink hrec) h
    · next d hrec =>
      split at h
      · cases h
      · next fr hd => exact .of_done (.lossReceiving hlink hrec hd) h

theorem execStartDelimiter_answers {received : List Byte} (h : execStartDelimiter s received = .next t) :
    Answers s (.startDelimiter received) t := by
  unfold execStartDelimiter at h
  split at h
  · exact .of_eq _ h
  · next hlink =>
    split at h
    · next hrec => exact .of_done (.startDelimiterIdle hlink (.inl hrec)) h
    · next hrec => exact .of_done (.startDelimiterIdle hlink (.inr hrec)) h
    · next hrec => exact .of_done (.startDelimiterBeforeHeader hlink hrec) h
    · next d hrec =>
      split at h
      · cases h
      · next fr hd => exact .of_done (.startDelimiterReceiving hlink hrec hd) h

theorem execFrameCutShort_answers {symbol : LineSymbol} (h : execFrameCutShort symbol s = .next t) :
    Answers s (.frameCutShort symbol) t := by
  unfold execFrameCutShort at h
  split at h
  · exact .of_eq _ h
  · exact .of_eq _ h
  · exact .of_eq _ h
  · next hrec =>
    split at h
    · exact .of_eq _ h
    · exact .of_done (.cutShortByEnd hrec) h
    · exact .of_done (.cutShort hrec (by simp)) h
    · exact .of_done (.cutShort hrec (by simp)) h
    · exact .of_done (.cutShort hrec (by simp)) h
    · exact .of_done (.cutShortByStart hrec) h

theorem execSkipEnd_answers {symbol : LineSymbol} (h : execSkipEnd symbol s = .next t) :
    Answers s (.skipEnd symbol) t := by
  unfold execSkipEnd at h
  split at h
  · exact .of_eq _ h
  · exact .of_eq _ h
  · exact .of_eq _ h
  · next hrec => exact .of_done (.skipEnd hrec) h

theorem execHeaderArrival_answers {header : HeaderBytes} (h : execHeaderArrival header s = .next t) :
    Answers s (.headerArrival header) t := by
  unfold execHeaderArrival at h
  split at h
  · exact .of_eq _ h
  · exact .of_eq _ h
  · exact .of_eq _ h
  · next hrec => exact .of_done (.headerArrival hrec (s.arriveHeader_arrived header)) h

theorem execAbort_answers {symbol : LineSymbol} {received : List Byte}
    (h : execAbort symbol received s = .next t) : Answers s (.abort symbol received) t := by
  unfold execAbort at h
  split at h
  · exact .of_eq _ h
  · exact .of_eq _ h
  · exact .of_eq _ h
  · next d hrec =>
    split at h
    · cases h
    · next fr hd =>
      split at h
      · exact .of_done (.abort hrec hd) h
      · exact .of_eq _ h

theorem execFrameEnd_answers {payload : List Byte} (h : execFrameEnd payload s = .next t) :
    Answers s (.frameEnd payload) t := by
  unfold execFrameEnd at h
  split at h
  · exact .of_eq _ h
  · exact .of_eq _ h
  · exact .of_eq _ h
  · next d hrec =>
    split at h
    · cases h
    · next fr hd =>
      split at h
      · next hlength =>
        exact .of_done (.frameEnd (.inl rfl) hrec hd hlength (State.dispatch_dispatched _ d fr payload)
          (.inl rfl)) h
      · exact .of_done (.frameEndAborted hrec hd) h

/-- A request row whose frame is in the slot is the frame-end with the row's payload. -/
theorem exec_request_eq_frameEnd {c : Instr} {d : DescId} {fr : Descriptor} {kind : Byte}
    {body : List Byte} (hc : requestOf c = some (kind, body)) (hrec : s.receiver.reception = .receiving d)
    (hd : s.desc? d = some fr) (hrole : fr.role = .request)
    (hlength : (requestPayload kind body).length = headerLength fr.header) :
    exec c s = exec (.frameEnd (requestPayload kind body)) s := by
  have hcheck : payloadCheckPasses (requestPayload kind body) = true :=
    payloadCheckPasses_withPayloadCheck _
  have hhead : (requestPayload kind body).headD 0 = kind := rfl
  rw [exec_requestOf c s kind body hc]
  simp only [requestFrameEnd, hrec, hd, hrole, hlength, and_self, if_true, exec, execFrameEnd,
    State.dispatch, hcheck, hhead]

theorem exec_request_answers {c : Instr} {kind : Byte} {body : List Byte}
    (hc : requestOf c = some (kind, body)) (h : exec c s = .next t) : Answers s c t := by
  have hrow := h
  rw [exec_requestOf c s kind body hc] at hrow
  unfold requestFrameEnd at hrow
  split at hrow
  · exact .of_eq _ hrow
  · exact .of_eq _ hrow
  · exact .of_eq _ hrow
  · next d hrec =>
    split at hrow
    · cases hrow
    · next fr hd =>
      dsimp only at hrow
      split at hrow
      · next hframe =>
        rw [exec_request_eq_frameEnd hc hrec hd hframe.1 hframe.2] at h
        simp only [exec, execFrameEnd, hrec, hd, hframe.2, if_true] at h
        exact .of_done (.frameEnd (.inr ⟨kind, body, hc, rfl⟩) hrec hd hframe.2
          (State.dispatch_dispatched _ d fr _) (.inr hframe.1)) h
      · exact .of_eq _ hrow

theorem execPickup_answers {e : EngineId} (h : execPickup e s = .next t) : Answers s (.pickup e) t := by
  unfold execPickup at h
  split at h
  · exact .of_eq _ h
  · next he =>
    split at h
    · exact .of_eq _ h
    · next d rest hqueue =>
      split at h
      · exact .of_eq _ h
      · next hturn =>
        split at h
        · cases h
        · next fr hd => exact .of_done (.pickup he hqueue hturn hd) h

theorem execLocatorCompletionList_answers {e : EngineId} (h : execLocatorCompletionList e s = .next t) :
    Answers s (.locatorCompletionList e) t := by
  unfold execLocatorCompletionList at h
  split at h
  · exact .of_eq _ h
  · next r he =>
    split at h
    · cases h
    · next fr hd =>
      split at h
      · exact .of_eq _ h
      · next entries hresult => exact .of_done (.completionWithList he hd hresult) h

theorem execLocatorCompletionFailed_answers {e : EngineId} (h : execLocatorCompletionFailed e s = .next t) :
    Answers s (.locatorCompletionFailed e) t := by
  unfold execLocatorCompletionFailed at h
  split at h
  · exact .of_eq _ h
  · next r he =>
    split at h
    · cases h
    · next fr hd =>
      split at h
      · exact .of_eq _ h
      · next hresult => exact .of_done (.completionFailed he hd hresult) h

theorem execDeadlineExpiry_answers {d : DescId} (h : execDeadlineExpiry d s = .next t) :
    Answers s (.deadlineExpiry d) t := by
  unfold execDeadlineExpiry at h
  split at h
  · exact .of_eq _ h
  · next fr hd =>
    split at h
    · exact .of_eq _ h
    · next due hdue => exact .of_done (.deadlineExpiry hd hdue) h

/-- A token is chosen only while one is owed. -/
theorem State.debt_of_chosen_token (h : s.chosen = some .token) : 1 ≤ s.egress.debt := by
  unfold State.chosen at h
  dsimp only at h
  split at h
  · simp at h
  · split at h
    · next hdue => exact hdue.2
    · split at h
      · simp at h
      · simp at h
      · split at h
        · assumption
        · simp at h
      · split at h
        · assumption
        · simp at h

/-- A frame is chosen only from the head of the forward queue. -/
theorem State.head_of_chosen_forward {d : DescId} (h : s.chosen = some (.forward d)) :
    ∃ rest, s.egress.forwardQueue = d :: rest := by
  unfold State.chosen at h
  dsimp only at h
  split at h
  · simp at h
  · split at h
    · simp at h
    · split at h
      · simp at h
      · next d' rest _ _ hqueue =>
        obtain rfl : d' = d := by simpa using h
        exact ⟨rest, hqueue⟩
      · split at h <;> simp at h
      · split at h <;> simp at h

theorem execTransmissionStart_answers (h : execTransmissionStart s = .next t) :
    Answers s .transmissionStart t := by
  unfold execTransmissionStart at h
  split at h
  · exact .of_eq _ h
  · next hidle =>
    split at h
    · exact .of_eq _ h
    · next hchosen => exact .of_done (.startToken hidle (State.debt_of_chosen_token hchosen)) h
    · exact .of_done (.startNotice hidle) h
    · split at h
      · exact .of_eq _ h
      · next q rest hqueue => exact .of_done (.startResponse hidle hqueue) h
    · next d hchosen =>
      obtain ⟨rest, hqueue⟩ := State.head_of_chosen_forward hchosen
      split at h
      · cases h
      · next fr hd => exact .of_done (.startForward hidle hqueue hd) h

theorem execTransmissionCompletion_answers {received : List Byte}
    (h : execTransmissionCompletion s received = .next t) :
    Answers s (.transmissionCompletion received) t := by
  unfold execTransmissionCompletion at h
  split at h
  · exact .of_eq _ h
  · next tx htx =>
    dsimp only at h
    split at h
    · next hsource => exact .of_done (.completeToken htx hsource) h
    · next hsource => exact .of_done (.completeResponse htx hsource) h
    · next c q hsource => exact .of_done (.completeNotice htx hsource) h
    · next d hsource =>
      split at h
      · cases h
      · next fr hd => exact .of_done (.completeForward htx hsource hd) h

theorem execCadenceExpiry_answers (h : execCadenceExpiry s = .next t) : Answers s .cadenceExpiry t := by
  unfold execCadenceExpiry at h
  dsimp only at h
  split at h
  · next hdebt => exact .of_done (.cadenceSlip hdebt) h
  · exact .of_done .cadenceExpiry h

theorem execHoldWaitExpiry_answers (h : execHoldWaitExpiry s = .next t) : Answers s .holdWaitExpiry t := by
  unfold execHoldWaitExpiry at h
  split at h
  · exact .of_eq _ h
  · next due hdue => exact .of_done (.holdWaitExpiry hdue) h

theorem execLeaseExpiry_answers (h : execLeaseExpiry s = .next t) : Answers s .leaseExpiry t := by
  unfold execLeaseExpiry at h
  split at h
  · exact .of_eq _ h
  · next c hclaim => exact .of_done (.leaseExpiry hclaim) h

theorem execRetryTimerExpiry_answers {c : EventClass} (h : execRetryTimerExpiry c s = .next t) :
    Answers s (.retryTimerExpiry c) t := by
  unfold execRetryTimerExpiry at h
  split at h
  · next q n r due hentry =>
    dsimp only at h
    split at h
    · next hr => exact .of_done (.retryResent hentry hr) h
    · next hr => exact .of_done (.retryExhausted hentry (Nat.le_of_not_lt hr)) h
  · exact .of_eq _ h
  · exact .of_eq _ h
  · exact .of_eq _ h

theorem execCopyCompletion_answers (h : execCopyCompletion s = .next t) : Answers s .copyCompletion t := by
  unfold execCopyCompletion at h
  split at h
  · next hcopy => exact .of_done (.copyCompletion hcopy) h
  · exact .of_eq _ h

theorem execAcquisition_answers (h : execAcquisition s = .next t) : Answers s .acquisition t := by
  unfold execAcquisition at h
  split at h
  · exact .of_eq _ h
  · next hlink => exact .of_done (.acquisition hlink) h

/-- Every command but power-on answers the part as it is, or settled after one of its courses. -/
theorem exec_answers {c : Instr} (h : exec c s = .next t) (hc : ∀ b, c ≠ .powerOn b) : Answers s c t := by
  cases c
  case powerOn b => exact absurd rfl (hc b)
  case holdInAssertion => exact .of_done .holdInAssertion h
  case holdInRelease => exact .of_done .holdInRelease h
  case acquisition => exact execAcquisition_answers h
  case loss received => exact execLoss_answers h
  case headerArrival header => exact execHeaderArrival_answers h
  case frameCutShort symbol => exact execFrameCutShort_answers h
  case abort symbol received => exact execAbort_answers h
  case frameEnd payload => exact execFrameEnd_answers h
  case pickup e => exact execPickup_answers h
  case locatorCompletionList e => exact execLocatorCompletionList_answers h
  case locatorCompletionFailed e => exact execLocatorCompletionFailed_answers h
  case deadlineExpiry d => exact execDeadlineExpiry_answers h
  case transmissionStart => exact execTransmissionStart_answers h
  case transmissionCompletion received => exact execTransmissionCompletion_answers h
  case cadenceExpiry => exact execCadenceExpiry_answers h
  case holdWaitExpiry => exact execHoldWaitExpiry_answers h
  case leaseExpiry => exact execLeaseExpiry_answers h
  case retryTimerExpiry e => exact execRetryTimerExpiry_answers h
  case copyCompletion => exact execCopyCompletion_answers h
  case startDelimiter received => exact execStartDelimiter_answers h
  case skipEnd symbol => exact execSkipEnd_answers h
  all_goals exact exec_request_answers rfl h

end

end Sys2Proof.Machine
end

section
/-! The frame of every command: the pieces that each operation, and with it each command, can change. -/

namespace Sys2Proof.Machine

/-! ### Single updates -/

theorem State.receiver_sameBut (s : State) (r : Receiver) : s.SameBut { s with receiver := r } [.receiver] :=
  ⟨rfl, fun p hp => by
    cases p <;> simp [State.samePiece, State.desc?, State.chain, State.flowCounters] at hp ⊢⟩

theorem State.putMemory_sameBut (s : State) (m : Memory) : s.SameBut (s.putMemory m) [.cells] :=
  ⟨rfl, fun p hp => by cases p <;> simp [State.samePiece] at hp ⊢⟩

theorem State.modDesc_sameBut (s : State) (d : DescId) (f : Descriptor → Descriptor) :
    s.SameBut (s.modDesc d f) [.descriptors] :=
  ⟨rfl, fun p hp => by cases p <;> simp [State.samePiece] at hp ⊢⟩

theorem State.setPlace_sameBut (s : State) (d : DescId) (p : Place) :
    s.SameBut (s.setPlace d p) [.descriptors] := s.modDesc_sameBut d _

theorem State.startDeadline_sameBut (s : State) (d : DescId) :
    s.SameBut (s.startDeadline d) [.descriptors] := s.modDesc_sameBut d _

theorem State.joinCorrectionQueue_sameBut (s : State) (d : DescId) :
    s.SameBut (s.joinCorrectionQueue d) [.locator] :=
  ⟨rfl, fun p hp => by
    cases p <;> simp [State.samePiece, State.desc?, State.chain, State.flowCounters] at hp ⊢⟩

theorem State.locator_sameBut (s : State) (l : Locator) : s.SameBut { s with locator := l } [.locator] :=
  ⟨rfl, fun p hp => by
    cases p <;> simp [State.samePiece, State.desc?, State.chain, State.flowCounters] at hp ⊢⟩

theorem State.setEngine_sameBut (s : State) (e : EngineId) (r : Option Run) :
    s.SameBut (s.setEngine e r) [.locator] := by cases e <;> exact s.locator_sameBut _

theorem State.setHoldIn_sameBut (s : State) (b : Bool) : s.SameBut (s.setHoldIn b) [.holdIn] :=
  ⟨rfl, fun p hp => by cases p <;> simp [State.samePiece] at hp ⊢⟩

theorem State.grantPermission_sameBut (s : State) :
    s.SameBut s.grantPermission [.permission, .holdWait] :=
  ⟨rfl, fun p hp => by cases p <;> simp [State.samePiece] at hp ⊢⟩

theorem State.consumePermission_sameBut (s : State) : s.SameBut s.consumePermission [.permission] :=
  ⟨rfl, fun p hp => by cases p <;> simp [State.samePiece] at hp ⊢⟩

theorem State.idleTransmitter_sameBut (s : State) : s.SameBut s.idleTransmitter [.transmitter] :=
  ⟨rfl, fun p hp => by cases p <;> simp [State.samePiece] at hp ⊢⟩

theorem State.send_sameBut (s : State) (source : TxSource) (h : HeaderBytes) (p : List Byte) :
    s.SameBut (s.send source h p) [.transmitter] :=
  ⟨rfl, fun p hp => by cases p <;> simp [State.samePiece] at hp ⊢⟩

theorem State.dropClaim_sameBut (s : State) : s.SameBut s.dropClaim [.claim] :=
  ⟨rfl, fun p hp => by cases p <;> simp [State.samePiece] at hp ⊢⟩

theorem State.claim_sameBut (s : State) (c : Option Claim) :
    s.SameBut { s with management := { s.management with claim := c } } [.claim] :=
  ⟨rfl, fun p hp => by
    cases p <;> simp [State.samePiece, State.desc?, State.chain, State.flowCounters] at hp ⊢⟩

theorem State.responses_sameBut (s : State) (l : List QueuedResponse) :
    s.SameBut { s with management := { s.management with responses := l } } [.responses] :=
  ⟨rfl, fun p hp => by
    cases p <;> simp [State.samePiece, State.desc?, State.chain, State.flowCounters] at hp ⊢⟩

theorem State.updatePending_sameBut (s : State) (f : PendingReset → PendingReset) :
    s.SameBut (s.updatePending f) [.pendingReset] :=
  ⟨rfl, fun p hp => by cases p <;> simp [State.samePiece] at hp ⊢⟩

theorem State.forwardQueue_sameBut (s : State) (l : List DescId) :
    s.SameBut { s with egress := { s.egress with forwardQueue := l } } [.forwardQueue] :=
  ⟨rfl, fun p hp => by
    cases p <;> simp [State.samePiece, State.desc?, State.chain, State.flowCounters] at hp ⊢⟩

theorem State.nodeAddress_sameBut (s : State) (a : Byte) :
    s.SameBut { s with nodeAddress := a } [.nodeAddress] :=
  ⟨rfl, fun p hp => by
    cases p <;> simp [State.samePiece, State.desc?, State.chain, State.flowCounters] at hp ⊢⟩

theorem State.releaseSent_sameBut (s : State) (d : DescId) :
    s.SameBut (s.releaseSent d) [.freeLists, .descriptors, .holdOut, .flowCounters] :=
  ⟨by simp, fun p hp => by cases p <;> simp [State.samePiece] at hp ⊢⟩

/-! ### The receiver -/

theorem State.abortFrame_sameBut (s : State) (d : DescId) (fr : Descriptor) (received : List Byte)
    (next : Reception) : s.SameBut (s.abortFrame d fr received next) abortPieces :=
  ((((s.storePayload_sameBut fr _).trans (State.releaseDropped_sameBut_counted _ d)).trans
    (State.countGlobal_sameBut _ _)).trans (State.endReception_sameBut _ next)).mono (by decide)

theorem State.loseLink_sameBut (s : State) : s.SameBut s.loseLink [.receiver, .events] :=
  (((s.receiver_sameBut _).trans (State.setReception_sameBut _ _)).trans
    (State.raise_sameBut _ _)).mono (by decide)

theorem State.countArrival_sameBut (s : State) (role : Role) (h : HeaderBytes) :
    s.SameBut (s.countArrival role h) [.flowCounters] := by
  cases role
  case data => exact s.countFlow_sameBut _ _ _
  all_goals exact .refl s _

theorem State.refuseFrame_sameBut (s : State) (role : Role) (h : HeaderBytes) :
    s.SameBut (s.refuseFrame role h) [.receiver, .events, .flowCounters, .globalCounters] := by
  have tail (t : State) : t.SameBut (((t.countGlobal .poolShort).raise .poolShort).setReception .skipping)
      [.globalCounters, .events, .receiver] :=
    (((t.countGlobal_sameBut _).trans (State.raise_sameBut _ _)).trans
      (State.setReception_sameBut _ _)).mono (by decide)
  cases role
  case data => exact ((s.countFlow_sameBut h.flow .dropped 1).trans (tail _)).mono (by decide)
  all_goals exact (tail s).mono (by decide)

theorem State.admitFrame_sameBut (s : State) (d : DescId) (role : Role) (h : HeaderBytes) :
    s.SameBut (s.admitFrame d role h)
      [.receiver, .cells, .freeLists, .descriptors, .holdOut, .codeUnit] :=
  ⟨rfl, fun p hp => by
    cases p <;> simp [State.admitFrame, State.samePiece, State.chain, State.flowCounters] at hp ⊢⟩

theorem State.consumeToken_sameBut (s : State) (h : HeaderBytes) :
    s.SameBut (s.consumeToken h) [.receiver, .globalCounters] :=
  (s.receiver_sameBut _).trans (State.countGlobal_sameBut _ _)

/-- The pieces that a header arrival can change. -/
def arrivalPieces : List Piece :=
  [.receiver, .events, .globalCounters, .flowCounters, .cells, .freeLists, .descriptors, .holdOut,
    .codeUnit]

theorem State.HeaderArrived.sameBut {s u : State} {h : HeaderBytes} (hu : s.HeaderArrived h u) :
    s.SameBut u arrivalPieces := by
  cases hu with
  | fault =>
    exact (((s.countGlobal_sameBut _).trans (State.raise_sameBut _ _)).trans
      (State.setReception_sameBut _ _)).mono (by decide)
  | stripped => exact ((s.countGlobal_sameBut _).trans (State.setReception_sameBut _ _)).mono (by decide)
  | token => exact (s.consumeToken_sameBut h).mono (by decide)
  | discarded =>
    exact (((s.countFlow_sameBut _ _ _).trans (State.countFlow_sameBut _ _ _ _)).trans
      (State.setReception_sameBut _ _)).mono (by decide)
  | refused role =>
    exact ((s.countArrival_sameBut role h).trans (State.refuseFrame_sameBut _ role h)).mono (by decide)
  | kept role _ d =>
    exact ((s.countArrival_sameBut role h).trans (State.admitFrame_sameBut _ d role h)).mono (by decide)

/-! ### Frame-end -/

/-- The pieces that the outcome of a DATA frame can change. -/
def outcomePieces : List Piece :=
  [.cells, .descriptors, .freeLists, .holdOut, .forwardQueue, .chains, .locator, .flowCounters, .events]

theorem State.joinChain_sameBut (s : State) (d : DescId) (fr : Descriptor) :
    s.SameBut (s.joinChain d fr) [.chains] := s.setChain_sameBut _ _

theorem State.dropOverflow_sameBut (s : State) (d : DescId) :
    s.SameBut (s.dropOverflow d) [.freeLists, .descriptors, .holdOut, .flowCounters, .events] :=
  (s.releaseDropped_sameBut_counted d).trans (State.raise_sameBut _ _)

/-- The part with a frame HELD behind its chain (R87, R92). -/
def State.hold (s : State) (d : DescId) (fr : Descriptor) : State :=
  ((s.setPlace d .held).startDeadline d).joinChain d fr

theorem State.hold_sameBut (s : State) (d : DescId) (fr : Descriptor) :
    s.SameBut (s.hold d fr) [.descriptors, .chains] :=
  (((s.setPlace_sameBut d _).trans (State.startDeadline_sameBut _ d)).trans
    (State.joinChain_sameBut _ d fr)).mono (by decide)

/-- The part with a frame QUEUED for the locator (R69, R92). -/
def State.enqueue (s : State) (d : DescId) (syndromes : List Byte) : State :=
  (((s.modDesc d fun x => { x with syndromes := some syndromes }).setPlace d .queued).startDeadline
    d).joinCorrectionQueue d

theorem State.enqueue_sameBut (s : State) (d : DescId) (syndromes : List Byte) :
    s.SameBut (s.enqueue d syndromes) [.descriptors, .locator] :=
  ((((s.modDesc_sameBut d _).trans (State.setPlace_sameBut _ d _)).trans
    (State.startDeadline_sameBut _ d)).trans (State.joinCorrectionQueue_sameBut _ d)).mono (by decide)

/-- Where a frame that needs no more of the code goes (R87, R89, R90, R91). -/
inductive State.RoutedReady (s : State) (d : DescId) (fr : Descriptor) : State → Prop
  | onward (h : s.goesOn fr) : s.RoutedReady d fr (s.toForward d)
  | held (hchain : s.chain fr.flow ≠ []) (h : s.joins fr) : s.RoutedReady d fr (s.hold d fr)
  | overflow (hchain : s.chain fr.flow ≠ []) (horder : fr.entry.order = .ordered)
      (h : fr.entry.holdDepth < (s.chain fr.flow).length + 1) : s.RoutedReady d fr (s.dropOverflow d)

theorem State.routeReady_routed (s : State) (d : DescId) (fr : Descriptor) :
    s.RoutedReady d fr (s.routeReady d fr) := by
  unfold State.routeReady
  split
  · next horder => exact .onward (.inl horder)
  · next horder =>
    split
    · next hempty => exact .onward (.inr (by simpa using hempty))
    · next hchain =>
      have hne : s.chain fr.flow ≠ [] := by simpa using hchain
      split
      · next h => exact .overflow hne horder (by simpa [State.overflows] using h)
      · next h => exact .held hne ⟨horder, by simpa [State.overflows] using h⟩

theorem State.RoutedReady.sameBut {s u : State} {d : DescId} {fr : Descriptor} (hu : s.RoutedReady d fr u) :
    s.SameBut u [.descriptors, .freeLists, .holdOut, .forwardQueue, .chains, .flowCounters, .events] := by
  cases hu with
  | onward => exact (s.toForward_sameBut d).mono (by decide)
  | held => exact (s.hold_sameBut d fr).mono (by decide)
  | overflow => exact (s.dropOverflow_sameBut d).mono (by decide)

/-- Where a frame to locate goes (R88, R90, R91). -/
inductive State.RoutedLocate (s : State) (d : DescId) (fr : Descriptor) (syndromes : List Byte) :
    State → Prop
  | free (h : fr.entry.order = .free) : s.RoutedLocate d fr syndromes (s.enqueue d syndromes)
  | ordered (h : s.joins fr) : s.RoutedLocate d fr syndromes ((s.enqueue d syndromes).joinChain d fr)
  | overflow (horder : fr.entry.order = .ordered)
      (h : fr.entry.holdDepth < (s.chain fr.flow).length + 1) :
      s.RoutedLocate d fr syndromes (s.dropOverflow d)

theorem State.routeLocate_routed (s : State) (d : DescId) (fr : Descriptor) (syndromes : List Byte) :
    s.RoutedLocate d fr syndromes (s.routeLocate d fr syndromes) := by
  unfold State.routeLocate
  dsimp only
  split
  · next horder => exact .free horder
  · next horder =>
    split
    · next h => exact .overflow horder (by simpa [State.overflows] using h)
    · next h => exact .ordered ⟨horder, by simpa [State.overflows] using h⟩

theorem State.RoutedLocate.sameBut {s u : State} {d : DescId} {fr : Descriptor} {syndromes : List Byte}
    (hu : s.RoutedLocate d fr syndromes u) :
    s.SameBut u [.descriptors, .freeLists, .holdOut, .locator, .chains, .flowCounters, .events] := by
  cases hu with
  | free => exact (s.enqueue_sameBut d syndromes).mono (by decide)
  | ordered =>
    exact ((s.enqueue_sameBut d syndromes).trans (State.joinChain_sameBut _ d fr)).mono (by decide)
  | overflow => exact (s.dropOverflow_sameBut d).mono (by decide)

/-- The outcome of a DATA frame at its frame-end, and where it goes (R60, R61). -/
inductive State.DataEnded (s : State) (d : DescId) (fr : Descriptor) : State → Prop
  | ready {u} (hunit : s.codeUnit = .idle ∨ s.codeUnit = .passing false ∨
        ∃ acc, s.codeUnit = .syndrome acc ∧ isClean acc = true)
      (hu : (s.countFlow fr.flow .clean 1).RoutedReady d fr u) : s.DataEnded d fr u
  | encoded {rem u} (hunit : s.codeUnit = .encoding rem)
      (hu : ((s.putMemory (writeFrameBytes s.store.memory fr.cells
        (Config.headerBytes + headerLength fr.header) rem)).countFlow fr.flow .clean 1).RoutedReady d fr u) :
      s.DataEnded d fr u
  | toLocate {acc u} (hunit : s.codeUnit = .syndrome acc) (hclean : isClean acc = false)
      (haction : fr.entry.action ≠ .check) (hu : s.RoutedLocate d fr acc u) : s.DataEnded d fr u
  | dropped (hunit : s.codeUnit = .passing true ∨
        ∃ acc, s.codeUnit = .syndrome acc ∧ isClean acc = false ∧ fr.entry.action = .check)
      (hpolicy : fr.entry.policy = .drop) :
      s.DataEnded d fr (((s.countFlow fr.flow .codeFailed 1).raise .codeFailure).releaseDropped d)
  | marked {u} (hunit : s.codeUnit = .passing true ∨
        ∃ acc, s.codeUnit = .syndrome acc ∧ isClean acc = false ∧ fr.entry.action = .check)
      (hpolicy : fr.entry.policy = .mark)
      (hu : (((s.countFlow fr.flow .codeFailed 1).raise .codeFailure).setDamaged d).RoutedReady d fr u) :
      s.DataEnded d fr u

theorem State.failAtFrameEnd_ended (s : State) (d : DescId) (fr : Descriptor)
    (hunit : s.codeUnit = .passing true ∨
      ∃ acc, s.codeUnit = .syndrome acc ∧ isClean acc = false ∧ fr.entry.action = .check) :
    s.DataEnded d fr (s.failAtFrameEnd d fr) := by
  unfold State.failAtFrameEnd State.routeFailed
  split
  · next hpolicy => exact .dropped hunit hpolicy
  · next hpolicy => exact .marked hunit hpolicy (State.routeReady_routed _ d fr)

theorem State.endData_ended (s : State) (d : DescId) (fr : Descriptor) :
    s.DataEnded d fr (s.endData d fr) := by
  unfold State.endData
  split
  · next hunit => exact .ready (.inl hunit) (State.routeReady_routed _ d fr)
  · next found hunit =>
    split
    · next hfound => exact s.failAtFrameEnd_ended d fr (.inl (by rw [hunit, hfound]))
    · next hfound =>
      exact .ready (.inr (.inl (by rw [hunit, eq_false_of_ne_true hfound])))
        (State.routeReady_routed _ d fr)
  · next rem hunit => exact .encoded hunit (State.routeReady_routed _ d fr)
  · next acc hunit =>
    split
    · next hclean =>
      exact .ready (.inr (.inr ⟨acc, hunit, hclean⟩)) (State.routeReady_routed _ d fr)
    · next hclean =>
      have hnot : isClean acc = false := by simpa using hclean
      split
      · next haction => exact s.failAtFrameEnd_ended d fr (.inr ⟨acc, hunit, hnot, haction⟩)
      · next haction => exact .toLocate hunit hnot haction (s.routeLocate_routed d fr acc)

theorem State.DataEnded.sameBut {s u : State} {d : DescId} {fr : Descriptor} (hu : s.DataEnded d fr u) :
    s.SameBut u outcomePieces := by
  cases hu with
  | ready _ hu => exact ((s.countFlow_sameBut _ _ _).trans hu.sameBut).mono (by decide)
  | encoded _ hu =>
    exact (((s.putMemory_sameBut _).trans (State.countFlow_sameBut _ _ _ _)).trans hu.sameBut).mono
      (by decide)
  | toLocate _ _ _ hu => exact hu.sameBut.mono (by decide)
  | dropped =>
    exact (((s.countFlow_sameBut _ _ _).trans (State.raise_sameBut _ _)).trans
      (State.releaseDropped_sameBut_counted _ d)).mono (by decide)
  | marked _ _ hu =>
    exact ((((s.countFlow_sameBut _ _ _).trans (State.raise_sameBut _ _)).trans
      (State.setDamaged_sameBut _ d)).trans hu.sameBut).mono (by decide)

theorem State.takeAddress_sameBut (s : State) (fr : Descriptor) (a : Byte) :
    s.SameBut (s.takeAddress fr a) [.cells, .nodeAddress, .events] :=
  ((s.storePayload_sameBut fr _).trans (State.nodeAddress_sameBut _ a)).trans (State.raise_sameBut _ _)

theorem State.enumerate_sameBut (s : State) (fr : Descriptor) (payload : List Byte) :
    s.SameBut (s.enumerate fr payload) [.cells, .nodeAddress, .events] := by
  unfold State.enumerate
  split
  · exact .refl s _
  · split
    · exact s.takeAddress_sameBut fr _
    · exact .refl s _

theorem State.dropCheckFault_sameBut (s : State) (d : DescId) :
    s.SameBut (s.dropCheckFault d)
      [.freeLists, .descriptors, .holdOut, .flowCounters, .globalCounters] :=
  (s.releaseDropped_sameBut_counted d).trans (State.countGlobal_sameBut _ _)

theorem State.setEnable_sameBut (s : State) (c : EventClass) (b : Bool) :
    s.SameBut (s.setEnable c b) [.events] := by
  unfold State.setEnable
  dsimp only
  split
  · exact .refl s _
  · split
    · split
      · exact ((s.putClass_sameBut c _).trans (State.issueNotice_sameBut _ c)).mono (by decide)
      · exact s.putClass_sameBut c _
    · exact s.putClass_sameBut c _

theorem State.foldl_setEnable_sameBut (set : Half) (l : List EventClass) (s : State) :
    s.SameBut (l.foldl (fun t c => t.setEnable c (set.getLsbD (classNumber c).val)) s) [.events] := by
  induction l generalizing s with
  | nil => exact .refl s _
  | cons c l ih => exact ((s.setEnable_sameBut c _).trans (ih _)).mono (by decide)

theorem State.setEnables_sameBut (s : State) (set : Half) : s.SameBut (s.setEnables set) [.events] :=
  State.foldl_setEnable_sameBut set allClasses s

/-- The pieces that the execution of a request can change. -/
def executedPieces : List Piece :=
  [.claim, .table, .flowCounters, .globalCounters, .timing, .cadence, .events, .pendingReset]

theorem State.Executed.sameBut {s v : State} {rq : Requester} {kind : Byte} {args : List Byte}
    (hv : s.Executed rq kind args v) : s.SameBut v executedPieces := by
  cases hv with
  | unchanged => exact .refl s _
  | claim => exact (s.claim_sameBut _).mono (by decide)
  | release => exact s.dropClaim_sameBut.mono (by decide)
  | writeEntry => exact (s.table_sameBut _).mono (by decide)
  | commit => exact (s.table_sameBut _).mono (by decide)
  | clearFlow => exact (s.counterFlows_sameBut _).mono (by decide)
  | clearAll => exact (s.counters_sameBut _).mono (by decide)
  | setTiming => exact (s.retimed_sameBut _ _).mono (by decide)
  | setEvents set => exact (s.setEnables_sameBut set).mono (by decide)
  | ackNotice c => exact (s.acknowledge_sameBut c).mono (by decide)
  | resetPart => exact (s.pendingReset_sameBut _).mono (by decide)

theorem State.Managed.sameBut {s v : State} {rq : Requester} {payload : List Byte}
    (hv : s.Managed rq payload v) : s.SameBut v (.replay :: .responses :: executedPieces) := by
  cases hv with
  | tooShort => exact (s.countGlobal_sameBut _).mono (by decide)
  | shed => exact ((s.countGlobal_sameBut _).trans (State.raise_sameBut _ _)).mono (by decide)
  | replied q => exact (s.queueResponse_sameBut q).mono (by decide)
  | taken a _ _ hv => exact (hv.sameBut.trans (State.recordAnswer_sameBut _ _ _ _ a)).mono (by decide)

/-- The pieces that a dispatch at frame-end can change. -/
def dispatchPieces : List Piece :=
  .nodeAddress :: .replay :: .responses :: (outcomePieces ++ executedPieces)

theorem State.Dispatched.sameBut {s u : State} {d : DescId} {fr : Descriptor} {payload : List Byte}
    (hu : s.Dispatched d fr payload u) : s.SameBut u dispatchPieces := by
  cases hu with
  | data => exact (s.endData_ended d fr).sameBut.mono (by decide)
  | forwarded => exact (s.toForward_sameBut d).mono (by decide)
  | request _ _ hv =>
    split
    · exact (hv.sameBut.trans (State.toForward_sameBut _ d)).mono (by decide)
    · exact (hv.sameBut.trans (State.releaseDropped_sameBut_counted _ d)).mono (by decide)
  | enumeration =>
    exact ((s.enumerate_sameBut fr payload).trans (State.toForward_sameBut _ d)).mono (by decide)
  | checkFault => exact (s.dropCheckFault_sameBut d).mono (by decide)

/-! ### The locator -/

theorem State.failedOr_sameBut (s : State) (d : DescId) (fr : Descriptor) (failed : Bool)
    {goOn : State → State} {l : List Piece} (hgoOn : ∀ t : State, t.SameBut (goOn t) l) :
    s.SameBut (s.failedOr d fr failed goOn)
      ([.freeLists, .descriptors, .holdOut, .flowCounters] ++ l) := by
  unfold State.failedOr
  split
  · split
    · exact (s.releaseDropped_sameBut_counted d).mono (List.subset_append_left _ _)
    · exact ((s.setDamaged_sameBut d).trans (hgoOn _)).mono fun p hp => by
        simp only [List.mem_append, List.mem_cons] at hp ⊢
        tauto
  · exact (hgoOn s).mono (List.subset_append_right _ _)

theorem State.handBack_sameBut (s : State) (d : DescId) (fr : Descriptor) (failed : Bool) :
    s.SameBut (s.handBack d fr failed)
      [.freeLists, .descriptors, .holdOut, .flowCounters, .forwardQueue, .chains] := by
  have onward (t : State) : t.SameBut (t.failedOr d fr failed (State.toForward · d)) _ :=
    t.failedOr_sameBut d fr failed fun u => u.toForward_sameBut d
  unfold State.handBack
  dsimp only
  split
  · split
    · exact (((s.setChain_sameBut _ _).trans (onward _)).trans
        (State.releaseOnward_sameBut _ _)).mono (by decide)
    · split
      · exact ((s.setChain_sameBut _ _).trans (State.releaseDropped_sameBut_counted _ d)).mono (by decide)
      · exact (s.failedOr_sameBut d fr failed fun u => u.setPlace_sameBut d .held).mono (by decide)
  · exact (onward s).mono (by decide)

/-- A frame handed back as corrected goes back to no free list and counts nothing. -/
theorem State.handBack_corrected_sameBut (s : State) (d : DescId) (fr : Descriptor) :
    s.SameBut (s.handBack d fr false) [.descriptors, .forwardQueue, .chains] := by
  unfold State.handBack State.failedOr
  simp only [Bool.false_eq_true, if_false, Bool.false_and]
  split
  · split
    · exact (((s.setChain_sameBut _ _).trans (State.toForward_sameBut _ d)).trans
        (State.releaseOnward_sameBut _ _)).mono (by decide)
    · exact (s.setPlace_sameBut d .held).mono (by decide)
  · exact (s.toForward_sameBut d).mono (by decide)

theorem State.completeWithList_sameBut (s : State) (e : EngineId) (d : DescId) (fr : Descriptor)
    (entries : List ErrorEntry) :
    s.SameBut (s.completeWithList e d fr entries)
      [.cells, .descriptors, .locator, .chains, .forwardQueue, .flowCounters] :=
  ((((((s.modDesc_sameBut d _).trans (State.putMemory_sameBut _ _)).trans
    (State.countFlow_sameBut _ _ _ _)).trans (State.countFlow_sameBut _ _ _ _)).trans
    (State.setEngine_sameBut _ e none)).trans
    (State.handBack_corrected_sameBut _ d fr)).mono (by decide)

theorem State.expireFrame_sameBut (s : State) (d : DescId) (fr : Descriptor) :
    s.SameBut (s.expireFrame d fr) (.chains :: resolvedPieces) := by
  unfold State.expireFrame
  dsimp only
  split
  · exact (((((s.setChain_sameBut _ _).trans (State.foldl_resolveMember_sameBut _ _)).trans
      (State.giveHeadTo_sameBut _ _)).trans (State.releaseOnward_sameBut _ _)).trans
      (State.raise_sameBut _ _)).mono (by decide)
  · exact (((s.resolveMember_sameBut d).trans (State.giveHeadTo_sameBut _ _)).trans
      (State.raise_sameBut _ _)).mono (by decide)

/-! ### The scheduler -/

theorem State.startToken_sameBut (s : State) : s.SameBut s.startToken [.transmitter] := s.send_sameBut _ _ _

theorem State.startResponse_sameBut (s : State) (q : QueuedResponse) :
    s.SameBut (s.startResponse q) [.transmitter, .permission] :=
  (s.consumePermission_sameBut.trans (State.send_sameBut _ _ _ _)).mono (by decide)

theorem State.startNotice_sameBut (s : State) (c : EventClass) :
    s.SameBut (s.startNotice c) [.transmitter, .permission, .events] :=
  ((s.consumePermission_sameBut.trans (State.putEntry_sameBut _ c _)).trans
    (State.send_sameBut _ _ _ _)).mono (by decide)

theorem State.startForward_sameBut (s : State) (d : DescId) (fr : Descriptor) :
    s.SameBut (s.startForward d fr) [.transmitter, .permission, .forwardQueue, .descriptors] :=
  (((s.consumePermission_sameBut.trans (State.forwardQueue_sameBut _ _)).trans
    (State.setPlace_sameBut _ d _)).trans (State.send_sameBut _ _ _ _)).mono (by decide)

theorem State.completeToken_sameBut (s : State) :
    s.SameBut s.completeToken [.cadence, .globalCounters] :=
  ⟨rfl, fun p hp => by
    cases p <;> simp [State.completeToken, State.samePiece, State.desc?, State.chain,
      State.flowCounters, State.countGlobal] at hp ⊢⟩

theorem State.completeResponse_sameBut (s : State) :
    s.SameBut s.completeResponse [.responses, .pendingReset] := by
  unfold State.completeResponse
  split
  · exact .refl s _
  · dsimp only
    split
    · exact (s.responses_sameBut _).trans (State.updatePending_sameBut _ _)
    · exact (s.responses_sameBut _).mono (by decide)

theorem State.completeNotice_sameBut (s : State) (c : EventClass) (q : Byte) :
    s.SameBut (s.completeNotice c q) [.events] := s.putEntry_sameBut c _

theorem State.completeForward_sameBut (s : State) (d : DescId) (fr : Descriptor) :
    s.SameBut (s.completeForward d fr)
      [.freeLists, .descriptors, .holdOut, .flowCounters, .pendingReset] := by
  unfold State.completeForward
  dsimp only
  split
  · exact (s.releaseSent_sameBut d).trans (State.updatePending_sameBut _ _)
  · exact (s.releaseSent_sameBut d).mono (by decide)

theorem State.cadenceExpired_sameBut (s : State) :
    s.SameBut { s with egress := s.egress.cadenceExpired } [.cadence] :=
  ⟨rfl, fun p hp => by
    cases p <;> simp [Egress.cadenceExpired, State.samePiece, State.desc?, State.chain,
      State.flowCounters] at hp ⊢⟩

end Sys2Proof.Machine
end

section
/-! The invariants of single blocks: memory and flow table, cadence, notice table and counters, clock,
hold-wait timer. Each is kept by every operation that touches its block. -/

namespace Sys2Proof.Machine

/-- Every command answers the power-on state, the part as it is, or a settled course. -/
theorem exec_cases {c : Instr} {s t : State} (h : exec c s = .next t) :
    (∃ b, c = .powerOn b ∧
      t = { State.reset with egress := Egress.reset b, pending := s.pending }) ∨ Answers s c t := by
  by_cases hc : ∀ b, c ≠ .powerOn b
  · exact .inr (exec_answers h hc)
  · simp only [not_forall, ne_eq, not_not] at hc
    obtain ⟨b, rfl⟩ := hc
    exact .inl ⟨b, rfl, (Host.Outcome.next.inj h).symm⟩

/-- A property of the part that settling keeps holds after a command if it holds after power-on and after
every course. -/
theorem exec_keeps {P : State → Prop} {c : Instr} {s t : State} (h : exec c s = .next t) (hs : P s)
    (hpower : ∀ b, P { State.reset with egress := Egress.reset b, pending := s.pending })
    (hsettle : ∀ u : State, P u → P u.settle) (hhandled : ∀ u, s.Handled c u → P u) : P t := by
  obtain ⟨b, -, rfl⟩ | rfl | ⟨u, hu, rfl⟩ := exec_cases h
  · exact hpower b
  · exact hs
  · exact hsettle u (hhandled u hu)

/-! ### The store under operations of other blocks -/

theorem State.foldl_setEnable_store (set : Half) (l : List EventClass) (s : State) :
    (l.foldl (fun t c => t.setEnable c (set.getLsbD (classNumber c).val)) s).store = s.store := by
  induction l generalizing s with
  | nil => rfl
  | cons c l ih =>
    rw [List.foldl_cons, ih]
    unfold State.setEnable
    dsimp only
    split
    · rfl
    · split
      · split <;> rfl
      · rfl

theorem State.acknowledge_store (s : State) (c : EventClass) : (s.acknowledge c).1.store = s.store := by
  unfold State.acknowledge
  dsimp only
  split <;> rfl

theorem State.Executed.store_eq {s v : State} {rq : Requester} {kind : Byte} {args : List Byte}
    (hv : s.Executed rq kind args v) : v.store = s.store := by
  cases hv with
  | setEvents set => exact State.foldl_setEnable_store set allClasses s
  | ackNotice c => exact s.acknowledge_store c
  | _ => rfl

theorem State.Managed.store_eq {s v : State} {rq : Requester} {payload : List Byte}
    (hv : s.Managed rq payload v) : v.store = s.store := by
  cases hv with
  | shed => simp
  | taken a _ _ hv => exact hv.store_eq
  | _ => rfl

/-! ### Where the cells' memory is written (R20) -/

/-- The second memory is the first with bytes of the cells given written. -/
inductive Written (cells : List CellId) (m : Memory) : Memory → Prop
  | refl : Written cells m m
  | write {m' a b} (h : Written cells m m') (ha : ∃ c ∈ cells, a / 64 = c.val) :
      Written cells m (writeByte m' a b)

theorem Written.wf {cells : List CellId} {m m' : Memory} (h : Written cells m m')
    (hm : memoryWf m = true) : memoryWf m' = true := by
  induction h with
  | refl => exact hm
  | write _ _ ih => exact memoryWf_writeByte _ _ _ ih

theorem Written.readByte_eq {cells : List CellId} {m m' : Memory} (h : Written cells m m') {a : Nat}
    (ha : ∀ c ∈ cells, a / 64 ≠ c.val) : readByte m' a = readByte m a := by
  induction h with
  | refl => rfl
  | @write m' a' b _ ha' ih =>
    obtain ⟨c, hc, hac⟩ := ha'
    rw [readByte_writeByte_ne _ _ _ _ fun heq => ha c hc (by rw [heq]; exact hac), ih]

theorem Written.trans {cells : List CellId} {m m' m'' : Memory} (h : Written cells m m')
    (h' : Written cells m' m'') : Written cells m m'' := by
  induction h' with
  | refl => exact h
  | write _ ha ih => exact ih.write ha

theorem frameAddress_cell {cells : List CellId} {k a : Nat} (h : frameAddress cells k = some a) :
    ∃ c ∈ cells, a / 64 = c.val := by
  simp only [frameAddress, Option.map_eq_some_iff, Config.cellBytes] at h
  obtain ⟨c, hc, rfl⟩ := h
  exact ⟨c, List.mem_of_getElem? hc, by omega⟩

theorem Written.writeFrameByte {cells cells' : List CellId} {m m' : Memory} (h : Written cells' m m')
    (hcells : cells ⊆ cells') (k : Nat) (b : Byte) : Written cells' m (writeFrameByte m' cells k b) := by
  unfold Machine.writeFrameByte
  split
  · next a ha =>
    obtain ⟨c, hc, hac⟩ := frameAddress_cell ha
    exact h.write ⟨c, hcells hc, hac⟩
  · exact h

theorem Written.writeFrameBytes {cells cells' : List CellId} {m m' : Memory} (bytes : List Byte) (k : Nat)
    (h : Written cells' m m') (hcells : cells ⊆ cells') :
    Written cells' m (writeFrameBytes m' cells k bytes) := by
  induction bytes generalizing m' k with
  | nil => exact h
  | cons b bytes ih => exact ih (k + 1) (h.writeFrameByte hcells k b)

theorem Written.applyList {cells : List CellId} {m m' : Memory} (entries : List ErrorEntry)
    (h : Written cells m m') : Written cells m (applyList m' cells entries) := by
  induction entries generalizing m' with
  | nil => exact h
  | cons e entries ih => exact ih (h.writeFrameByte (List.Subset.refl _) _ _)

/-- The cells of the frame in the receive slot. -/
def State.slotCells (s : State) : List CellId :=
  match s.receiver.reception with
  | .receiving d => s.cellsOf d
  | .between => []
  | .beforeHeader => []
  | .skipping => []

/-- The cells that a command can write: those of the frame in the receive slot, the free cells at a header
arrival, and those of the frame corrected (R20, R64). -/
def State.writtenCells (s : State) (c : Instr) : List CellId :=
  match c with
  | .headerArrival _ => s.store.freeCells
  | .locatorCompletionList e => ((s.engineDesc e).map s.cellsOf).getD []
  | _ => s.slotCells

theorem State.slotCells_of_receiving {s : State} {d : DescId} {fr : Descriptor}
    (hrec : s.receiver.reception = .receiving d) (hd : s.desc? d = some fr) : s.slotCells = fr.cells := by
  simp [State.slotCells, hrec, State.cellsOf, hd]

theorem State.RoutedReady.memory_eq {s u : State} {d : DescId} {fr : Descriptor}
    (hu : s.RoutedReady d fr u) : u.store.memory = s.store.memory := by
  cases hu <;> simp [State.hold, State.joinChain, State.dropOverflow]

theorem State.RoutedLocate.memory_eq {s u : State} {d : DescId} {fr : Descriptor} {syndromes : List Byte}
    (hu : s.RoutedLocate d fr syndromes u) : u.store.memory = s.store.memory := by
  cases hu <;> simp [State.enqueue, State.joinChain, State.dropOverflow]

theorem State.DataEnded.written {s u : State} {d : DescId} {fr : Descriptor} (hu : s.DataEnded d fr u) :
    Written fr.cells s.store.memory u.store.memory := by
  cases hu with
  | ready _ hu => rw [hu.memory_eq]; exact .refl
  | encoded _ hu => rw [hu.memory_eq]; exact Written.refl.writeFrameBytes _ _ (List.Subset.refl _)
  | toLocate _ _ _ hu => rw [hu.memory_eq]; exact .refl
  | dropped => simpa using Written.refl
  | marked _ _ hu => rw [hu.memory_eq]; simpa using Written.refl

theorem State.enumerate_written (s : State) (fr : Descriptor) (payload : List Byte) :
    Written fr.cells s.store.memory (s.enumerate fr payload).store.memory := by
  unfold State.enumerate
  split
  · exact .refl
  · split
    · simp only [State.takeAddress, State.raise_store]
      exact Written.refl.writeFrameBytes _ _ (List.Subset.refl _)
    · exact .refl

theorem State.Dispatched.written {s u : State} {d : DescId} {fr : Descriptor} {payload : List Byte}
    (hu : s.Dispatched d fr payload u) : Written fr.cells s.store.memory u.store.memory := by
  cases hu with
  | data => exact (s.endData_ended d fr).written
  | forwarded => exact .refl
  | request _ _ hv =>
    split
    · simp only [State.toForward_store_memory, hv.store_eq]; exact .refl
    · simp only [State.releaseDropped_store_memory, hv.store_eq]; exact .refl
  | enumeration => exact s.enumerate_written fr payload
  | checkFault => simpa [State.dropCheckFault] using Written.refl

theorem State.allToForward_memory (l : List DescId) (s : State) :
    (s.allToForward l).store.memory = s.store.memory := by
  induction l generalizing s with
  | nil => rfl
  | cons d l ih => exact ih (s.toForward d)

theorem State.releaseOnward_memory (s : State) (f : Byte) :
    (s.releaseOnward f).store.memory = s.store.memory := by
  simp [State.releaseOnward, s.allToForward_memory]

theorem State.failedOr_memory (s : State) (d : DescId) (fr : Descriptor) (failed : Bool)
    {goOn : State → State} (h : ∀ t : State, (goOn t).store.memory = t.store.memory) :
    (s.failedOr d fr failed goOn).store.memory = s.store.memory := by
  unfold State.failedOr
  split
  · split
    · simp
    · simp [h]
  · exact h s

theorem State.handBack_memory (s : State) (d : DescId) (fr : Descriptor) (failed : Bool) :
    (s.handBack d fr failed).store.memory = s.store.memory := by
  have onward (t : State) : (t.failedOr d fr failed (State.toForward · d)).store.memory = t.store.memory :=
    t.failedOr_memory d fr failed fun _ => rfl
  unfold State.handBack
  dsimp only
  split
  · split
    · rw [State.releaseOnward_memory, onward, State.setChain_store]
    · split
      · simp
      · exact s.failedOr_memory d fr failed fun _ => rfl
  · exact onward s

theorem State.resolveMember_memory (s : State) (d : DescId) :
    (s.resolveMember d).store.memory = s.store.memory := by
  have abandoned (fr : Descriptor) : (s.abandon d fr).store.memory = s.store.memory := by
    unfold State.abandon
    dsimp only
    rw [State.failedOr_memory _ _ _ _ (goOn := (State.toForward · d)) fun _ => rfl]
    simp
  unfold State.resolveMember
  split
  · rfl
  · split
    · exact abandoned _
    · exact abandoned _
    all_goals rfl

theorem State.foldl_resolveMember_memory (l : List DescId) (s : State) :
    (l.foldl State.resolveMember s).store.memory = s.store.memory := by
  induction l generalizing s with
  | nil => rfl
  | cons d l ih => rw [List.foldl_cons, ih, State.resolveMember_memory]

theorem State.expireFrame_memory (s : State) (d : DescId) (fr : Descriptor) :
    (s.expireFrame d fr).store.memory = s.store.memory := by
  unfold State.expireFrame
  dsimp only
  split
  · rw [State.raise_store, State.releaseOnward_memory, State.giveHeadTo_store,
      State.foldl_resolveMember_memory, State.setChain_store]
  · rw [State.raise_store, State.giveHeadTo_store, State.resolveMember_memory]

theorem State.foldl_countFlow_eq (l : List (Nat × Descriptor)) (s : State) :
    ∃ k, l.foldl (fun t p => t.countFlow p.2.flow .dropped 1) s =
      { s with counters := { s.counters with flows := k } } := by
  induction l generalizing s with
  | nil => exact ⟨s.counters.flows, rfl⟩
  | cons p l ih =>
    obtain ⟨k, hk⟩ := ih (s.countFlow p.2.flow .dropped 1)
    exact ⟨k, hk⟩

/-- The counts of a reset change the flows' counters alone. -/
theorem State.countFreed_eq (s : State) :
    ∃ k, s.countFreed = { s with counters := { s.counters with flows := k } } :=
  State.foldl_countFlow_eq _ s

theorem State.storeArrived_written (s : State) (received : List Byte) :
    Written s.slotCells s.store.memory (s.storeArrived received).store.memory := by
  unfold State.storeArrived
  split
  · exact .refl
  · exact .refl
  · exact .refl
  · next d hrec =>
    split
    · exact .refl
    · next fr hd =>
      rw [State.slotCells_of_receiving hrec hd]
      exact Written.refl.writeFrameBytes _ _ (List.Subset.refl _)

theorem State.flush_memory (s : State) (received : List Byte) :
    (s.flush received).store.memory = (s.storeArrived received).store.memory := by
  obtain ⟨k, hk⟩ := (s.storeArrived received).countFreed_eq
  simp only [State.flush, hk, FrameStore.flushed]

theorem State.resetIfDue_written (s : State) (received : List Byte) :
    Written s.slotCells s.store.memory (s.resetIfDue received).store.memory := by
  unfold State.resetIfDue State.applyReset
  split
  · exact .refl
  · split
    · split
      · rw [State.flush_memory]; exact s.storeArrived_written received
      · simp only [State.restart, State.flush_memory]; exact s.storeArrived_written received
    · exact .refl

theorem Written.mono {cells cells' : List CellId} {m m' : Memory} (h : Written cells m m')
    (hcells : cells ⊆ cells') : Written cells' m m' := by
  induction h with
  | refl => exact .refl
  | write _ ha ih =>
    obtain ⟨c, hc, hac⟩ := ha
    exact ih.write ⟨c, hcells hc, hac⟩

theorem State.abortFrame_written (s : State) (d : DescId) (fr : Descriptor) (received : List Byte)
    (next : Reception) :
    Written fr.cells s.store.memory (s.abortFrame d fr received next).store.memory := by
  simp only [State.abortFrame, State.endReception_store, State.countGlobal_store,
    State.releaseDropped_store_memory]
  exact Written.refl.writeFrameBytes _ _ (List.Subset.refl _)

theorem State.HeaderArrived.written {s u : State} {h : HeaderBytes} (hu : s.HeaderArrived h u) :
    Written s.store.freeCells s.store.memory u.store.memory := by
  have counted (role : Role) := s.countArrival_store role h
  cases hu with
  | fault => simpa using Written.refl
  | stripped => exact .refl
  | token => exact .refl
  | discarded => exact .refl
  | refused role => cases role <;> simpa [State.refuseFrame, counted] using Written.refl
  | kept role _ d =>
    simp only [State.admitFrame, FrameStore.granted, FrameStore.evaluated, counted]
    exact Written.refl.writeFrameBytes _ _ (List.take_subset _ _)

theorem State.completeWithList_memory (s : State) (e : EngineId) (d : DescId) (fr : Descriptor)
    (entries : List ErrorEntry) :
    (s.completeWithList e d fr entries).store.memory = applyList s.store.memory fr.cells entries := by
  simp only [State.completeWithList, State.handBack_memory, State.setEngine_store,
    State.countFlow_store, State.putMemory_store, State.modDesc_store_memory]

/-- Settling a completion's source leaves the receive slot's cells, or frees them. -/
theorem State.slotCells_subset {s t : State} (hrec : t.receiver = s.receiver)
    (hdesc : ∀ d, t.desc? d = s.desc? d ∨ t.desc? d = none) : t.slotCells ⊆ s.slotCells := by
  unfold State.slotCells
  rw [hrec]
  cases s.receiver.reception with
  | receiving d =>
    unfold State.cellsOf
    obtain hd | hd := hdesc d
    · simp [hd]
    · simp [hd]
  | _ => exact List.Subset.refl _

theorem State.completion_written {s t : State} {l : List Piece} (received : List Byte)
    (ht : s.SameBut t l) (hreceiver : .receiver ∉ l) (hmemory : t.store.memory = s.store.memory)
    (hdesc : ∀ d, t.desc? d = s.desc? d ∨ t.desc? d = none) :
    Written s.slotCells s.store.memory (t.resetIfDue received).store.memory := by
  have h := (t.resetIfDue_written received).mono
    (State.slotCells_subset (ht.2 .receiver hreceiver) hdesc)
  rwa [hmemory] at h

theorem State.completeForward_desc? (s : State) (d x : DescId) (fr : Descriptor) :
    (s.completeForward d fr).desc? x = if x = d then none else s.desc? x := by
  unfold State.completeForward
  dsimp only
  split <;> simp

theorem State.completeForward_memory (s : State) (d : DescId) (fr : Descriptor) :
    (s.completeForward d fr).store.memory = s.store.memory := by
  unfold State.completeForward
  dsimp only
  split <;> simp

theorem State.completeResponse_store (s : State) : s.completeResponse.store = s.store := by
  unfold State.completeResponse
  split
  · rfl
  · dsimp only
    split <;> rfl

/-- A command writes the cells that are its to write, and no others (R20, R64). -/
theorem State.Handled.written {s u : State} {c : Instr} (hu : s.Handled c u) :
    Written (s.writtenCells c) s.store.memory u.store.memory := by
  have idle (n : Nat) : s.SameBut (s.advanceTo n).idleTransmitter [.clock, .transmitter] :=
    (s.advanceTo_sameBut n).trans (State.idleTransmitter_sameBut _)
  cases hu with
  | lossReceiving _ hrec hd =>
    simp only [State.writtenCells, State.slotCells_of_receiving hrec hd, State.loseLink_store]
    exact s.abortFrame_written _ _ _ _
  | startDelimiterReceiving _ hrec hd =>
    simp only [State.writtenCells, State.slotCells_of_receiving hrec hd]
    exact s.abortFrame_written _ _ _ _
  | headerArrival _ hu => exact hu.written
  | abort hrec hd =>
    simp only [State.writtenCells, State.slotCells_of_receiving hrec hd]
    exact s.abortFrame_written _ _ _ _
  | frameEndAborted hrec hd =>
    simp only [State.writtenCells, State.slotCells_of_receiving hrec hd]
    exact s.abortFrame_written _ _ _ _
  | @frameEnd _ payload d fr v hc hrec hd _ hv =>
    have hslot : s.writtenCells c = fr.cells := by
      have := State.slotCells_of_receiving hrec hd
      obtain rfl | ⟨kind, body, hreq, -⟩ := hc
      · exact this
      · cases c <;> first | exact this | simp [requestOf] at hreq
    rw [hslot, State.endReception_store]
    have harrived : Written fr.cells s.store.memory (s.arrivePayload d fr payload).store.memory :=
      Written.refl.writeFrameBytes payload Config.headerBytes (List.Subset.refl _)
    exact harrived.trans hv.written
  | @completionWithList e r fr entries he hd =>
    have hcells : s.writtenCells (.locatorCompletionList e) = fr.cells := by
      simp [State.writtenCells, State.engineDesc, he, State.cellsOf, hd]
    rw [hcells, State.completeWithList_memory]
    exact Written.refl.applyList entries
  | completionFailed => simpa [State.handBack_memory] using Written.refl
  | deadlineExpiry => simpa [State.expireFrame_memory] using Written.refl
  | completeToken =>
    exact State.completion_written _ ((idle _).trans (State.completeToken_sameBut _)) (by decide) rfl
      fun _ => .inl rfl
  | completeResponse =>
    exact State.completion_written _ ((idle _).trans (State.completeResponse_sameBut _)) (by decide)
      (by rw [State.completeResponse_store]; rfl)
      fun d => .inl (by unfold State.desc?; rw [State.completeResponse_store]; rfl)
  | completeNotice =>
    exact State.completion_written _ ((idle _).trans (State.completeNotice_sameBut _ _ _)) (by decide) rfl
      fun _ => .inl rfl
  | @completeForward tx _ d fr =>
    refine State.completion_written _ ((idle _).trans (State.completeForward_sameBut _ d fr)) (by decide)
      (by rw [State.completeForward_memory]; rfl) fun x => ?_
    rw [State.completeForward_desc?]
    by_cases hx : x = d
    · exact .inr (if_pos hx)
    · exact .inl (if_neg hx)
  | startToken | startResponse | startNotice | startForward | retryResent => exact .refl
  | _ => simpa using Written.refl

end Sys2Proof.Machine
end

section
/-! What a command leaves of the stored frames, and when a reset takes effect in a completion. -/

namespace Sys2Proof.Machine

/-! ### Stored frames (R23, R26, R44) -/

/-- The frame of a descriptor is the same, its DAMAGED flag apart. -/
structure Descriptor.SameFrame (fr fr' : Descriptor) : Prop where
  role : fr'.role = fr.role
  storedLength : fr'.storedLength = fr.storedLength
  cells : fr'.cells = fr.cells
  header : fr'.header = fr.header ∨ fr'.header = withDamaged fr.header

theorem withDamaged_withDamaged (h : HeaderBytes) : withDamaged (withDamaged h) = withDamaged h := by
  simp [withDamaged, BitVec.or_assoc]

theorem Descriptor.SameFrame.refl (fr : Descriptor) : fr.SameFrame fr := ⟨rfl, rfl, rfl, .inl rfl⟩

theorem Descriptor.SameFrame.trans {fr fr' fr'' : Descriptor} (h : fr.SameFrame fr')
    (h' : fr'.SameFrame fr'') : fr.SameFrame fr'' := by
  refine ⟨h'.role.trans h.role, h'.storedLength.trans h.storedLength, h'.cells.trans h.cells, ?_⟩
  obtain h1 | h1 := h.header <;> obtain h2 | h2 := h'.header <;>
    simp [h1, h2, withDamaged_withDamaged]

theorem Descriptor.SameFrame.entry {fr fr' : Descriptor} (h : fr.SameFrame fr') : fr'.entry = fr.entry := by
  simp [Descriptor.entry, h.role]

theorem Descriptor.SameFrame.isData {fr fr' : Descriptor} (h : fr.SameFrame fr') :
    fr'.isData = fr.isData := by
  simp [Descriptor.isData, h.role]

theorem Descriptor.SameFrame.flow {fr fr' : Descriptor} (h : fr.SameFrame fr') : fr'.flow = fr.flow := by
  obtain h | h := h.header <;> simp [Descriptor.flow, h, withDamaged]

theorem Descriptor.SameFrame.isOrdered {fr fr' : Descriptor} (h : fr.SameFrame fr') :
    fr'.isOrdered = fr.isOrdered := by
  simp [Descriptor.isOrdered, h.isData, h.entry]

theorem Descriptor.SameFrame.headerLength {fr fr' : Descriptor} (h : fr.SameFrame fr') :
    headerLength fr'.header = headerLength fr.header := by
  obtain h | h := h.header <;> simp [h, withDamaged, Machine.headerLength]

/-- Every frame stored in the second state was stored in the first, and is the same. -/
def State.FramesKept (s t : State) : Prop :=
  ∀ d fr', t.desc? d = some fr' → ∃ fr, s.desc? d = some fr ∧ fr.SameFrame fr'

theorem State.FramesKept.refl (s : State) : s.FramesKept s := fun _ fr h => ⟨fr, h, .refl fr⟩

theorem State.FramesKept.trans {s t u : State} (h : s.FramesKept t) (h' : t.FramesKept u) :
    s.FramesKept u := by
  intro d fr hd
  obtain ⟨fr', hd', hsame'⟩ := h' d fr hd
  obtain ⟨fr'', hd'', hsame⟩ := h d fr' hd'
  exact ⟨fr'', hd'', hsame.trans hsame'⟩

theorem State.FramesKept.of_desc? {s t : State} (h : ∀ d, t.desc? d = s.desc? d) : s.FramesKept t :=
  fun d fr hd => ⟨fr, (h d).symm.trans hd, .refl fr⟩

theorem State.SameBut.framesKept {s t : State} {l : List Piece} (h : s.SameBut t l)
    (hl : .descriptors ∉ l) : s.FramesKept t := .of_desc? (h.2 .descriptors hl)

theorem State.FramesKept.of_free {s t : State} {d : DescId}
    (h : ∀ x, t.desc? x = if x = d then none else s.desc? x) : s.FramesKept t := by
  intro x fr hx
  rw [h x] at hx
  split at hx
  · simp at hx
  · exact ⟨fr, hx, .refl fr⟩

theorem State.modDesc_framesKept (s : State) (d : DescId) {f : Descriptor → Descriptor}
    (hf : ∀ fr : Descriptor, fr.SameFrame (f fr)) : s.FramesKept (s.modDesc d f) := by
  intro x fr' hx
  rw [State.modDesc_desc?] at hx
  split at hx
  · next heq =>
    obtain ⟨fr, hfr, rfl⟩ := Option.map_eq_some_iff.mp hx
    exact ⟨fr, heq ▸ hfr, hf fr⟩
  · exact ⟨fr', hx, .refl fr'⟩

theorem State.setPlace_framesKept (s : State) (d : DescId) (p : Place) : s.FramesKept (s.setPlace d p) :=
  s.modDesc_framesKept d fun _ => ⟨rfl, rfl, rfl, .inl rfl⟩

theorem State.setDamaged_framesKept (s : State) (d : DescId) : s.FramesKept (s.setDamaged d) :=
  s.modDesc_framesKept d fun _ => ⟨rfl, rfl, rfl, .inr rfl⟩

theorem State.startDeadline_framesKept (s : State) (d : DescId) : s.FramesKept (s.startDeadline d) :=
  s.modDesc_framesKept d fun _ => ⟨rfl, rfl, rfl, .inl rfl⟩

theorem State.toForward_framesKept (s : State) (d : DescId) : s.FramesKept (s.toForward d) :=
  (s.modDesc_framesKept d (f := fun fr => { fr with place := .forward, deadline := none })
    fun _ => ⟨rfl, rfl, rfl, .inl rfl⟩).trans (.of_desc? fun _ => rfl)

theorem State.giveStamp_framesKept (s : State) (d : DescId) : s.FramesKept (s.giveStamp d) :=
  (s.modDesc_framesKept d (f := fun fr => { fr with stamp := some s.order.nextStamp })
    fun _ => ⟨rfl, rfl, rfl, .inl rfl⟩).trans (.of_desc? fun _ => rfl)

theorem State.releaseDropped_framesKept (s : State) (d : DescId) : s.FramesKept (s.releaseDropped d) :=
  .of_free (s.releaseDropped_desc? d)

theorem State.hold_framesKept (s : State) (d : DescId) (fr : Descriptor) : s.FramesKept (s.hold d fr) :=
  ((s.setPlace_framesKept d _).trans (State.startDeadline_framesKept _ d)).trans (.of_desc? fun _ => rfl)

theorem State.enqueue_framesKept (s : State) (d : DescId) (syndromes : List Byte) :
    s.FramesKept (s.enqueue d syndromes) :=
  (((s.modDesc_framesKept d (f := fun x => { x with syndromes := some syndromes })
    fun _ => ⟨rfl, rfl, rfl, .inl rfl⟩).trans (State.setPlace_framesKept _ d _)).trans
    (State.startDeadline_framesKept _ d)).trans (.of_desc? fun _ => rfl)

theorem State.dropOverflow_framesKept (s : State) (d : DescId) : s.FramesKept (s.dropOverflow d) :=
  (s.releaseDropped_framesKept d).trans ((State.raise_sameBut _ _).framesKept (by decide))

theorem State.RoutedReady.framesKept {s u : State} {d : DescId} {fr : Descriptor}
    (hu : s.RoutedReady d fr u) : s.FramesKept u := by
  cases hu with
  | onward => exact s.toForward_framesKept d
  | held => exact s.hold_framesKept d fr
  | overflow => exact s.dropOverflow_framesKept d

theorem State.RoutedLocate.framesKept {s u : State} {d : DescId} {fr : Descriptor} {syndromes : List Byte}
    (hu : s.RoutedLocate d fr syndromes u) : s.FramesKept u := by
  cases hu with
  | free => exact s.enqueue_framesKept d syndromes
  | ordered =>
    exact (s.enqueue_framesKept d syndromes).trans ((State.joinChain_sameBut _ d fr).framesKept (by decide))
  | overflow => exact s.dropOverflow_framesKept d

theorem State.DataEnded.framesKept {s u : State} {d : DescId} {fr : Descriptor} (hu : s.DataEnded d fr u) :
    s.FramesKept u := by
  cases hu with
  | ready _ hu => exact ((s.countFlow_sameBut _ _ _).framesKept (by decide)).trans hu.framesKept
  | encoded _ hu =>
    exact (((s.putMemory_sameBut _).trans (State.countFlow_sameBut _ _ _ _)).framesKept
      (by decide)).trans hu.framesKept
  | toLocate _ _ _ hu => exact hu.framesKept
  | dropped =>
    exact (((s.countFlow_sameBut _ _ _).trans (State.raise_sameBut _ _)).framesKept (by decide)).trans
      (State.releaseDropped_framesKept _ d)
  | marked _ _ hu =>
    exact ((((s.countFlow_sameBut _ _ _).trans (State.raise_sameBut _ _)).framesKept (by decide)).trans
      (State.setDamaged_framesKept _ d)).trans hu.framesKept

theorem State.Dispatched.framesKept {s u : State} {d : DescId} {fr : Descriptor} {payload : List Byte}
    (hu : s.Dispatched d fr payload u) : s.FramesKept u := by
  cases hu with
  | data => exact (s.endData_ended d fr).framesKept
  | forwarded => exact s.toForward_framesKept d
  | request _ _ hv =>
    have hkept := hv.sameBut.framesKept (by decide)
    split
    · exact hkept.trans (State.toForward_framesKept _ d)
    · exact hkept.trans (State.releaseDropped_framesKept _ d)
  | enumeration =>
    exact ((s.enumerate_sameBut fr payload).framesKept (by decide)).trans (State.toForward_framesKept _ d)
  | checkFault =>
    exact (s.releaseDropped_framesKept d).trans ((State.countGlobal_sameBut _ _).framesKept (by decide))

theorem State.arrivePayload_framesKept (s : State) (d : DescId) (fr : Descriptor) (payload : List Byte) :
    s.FramesKept (s.arrivePayload d fr payload) :=
  (((s.storePayload_sameBut fr payload).trans (State.codeUnit_sameBut _ _)).framesKept (by decide)).trans
    (State.giveStamp_framesKept _ d)

theorem State.abortFrame_framesKept (s : State) (d : DescId) (fr : Descriptor) (received : List Byte)
    (next : Reception) : s.FramesKept (s.abortFrame d fr received next) :=
  (((s.storePayload_sameBut fr _).framesKept (by decide)).trans
    (State.releaseDropped_framesKept _ d)).trans
    (((State.countGlobal_sameBut _ _).trans (State.endReception_sameBut _ next)).framesKept (by decide))

theorem State.failedOr_framesKept (s : State) (d : DescId) (fr : Descriptor) (failed : Bool)
    {goOn : State → State} (h : ∀ t : State, t.FramesKept (goOn t)) :
    s.FramesKept (s.failedOr d fr failed goOn) := by
  unfold State.failedOr
  split
  · split
    · exact s.releaseDropped_framesKept d
    · exact (s.setDamaged_framesKept d).trans (h _)
  · exact h s

theorem State.allToForward_framesKept (l : List DescId) (s : State) : s.FramesKept (s.allToForward l) := by
  induction l generalizing s with
  | nil => exact .refl s
  | cons d l ih => exact (s.toForward_framesKept d).trans (ih _)

theorem State.releaseOnward_framesKept (s : State) (f : Byte) : s.FramesKept (s.releaseOnward f) :=
  (s.allToForward_framesKept _).trans ((State.setChain_sameBut _ _ _).framesKept (by decide))

theorem State.handBack_framesKept (s : State) (d : DescId) (fr : Descriptor) (failed : Bool) :
    s.FramesKept (s.handBack d fr failed) := by
  have onward (t : State) : t.FramesKept (t.failedOr d fr failed (State.toForward · d)) :=
    t.failedOr_framesKept d fr failed fun u => u.toForward_framesKept d
  unfold State.handBack
  dsimp only
  split
  · split
    · exact (((s.setChain_sameBut _ _).framesKept (by decide)).trans (onward _)).trans
        (State.releaseOnward_framesKept _ _)
    · split
      · exact ((s.setChain_sameBut _ _).framesKept (by decide)).trans (State.releaseDropped_framesKept _ d)
      · exact s.failedOr_framesKept d fr failed fun u => u.setPlace_framesKept d .held
  · exact onward s

theorem State.resolveMember_framesKept (s : State) (d : DescId) : s.FramesKept (s.resolveMember d) := by
  have abandoned (fr : Descriptor) : s.FramesKept (s.abandon d fr) :=
    ((s.takeBack_sameBut d fr.flow).framesKept (by decide)).trans
      (State.failedOr_framesKept _ d fr true fun u => u.toForward_framesKept d)
  unfold State.resolveMember
  split
  · exact .refl s
  · split
    · exact abandoned _
    · exact abandoned _
    · exact s.toForward_framesKept d
    all_goals exact .refl s

theorem State.foldl_resolveMember_framesKept (l : List DescId) (s : State) :
    s.FramesKept (l.foldl State.resolveMember s) := by
  induction l generalizing s with
  | nil => exact .refl s
  | cons d l ih => exact (s.resolveMember_framesKept d).trans (ih _)

theorem State.expireFrame_framesKept (s : State) (d : DescId) (fr : Descriptor) :
    s.FramesKept (s.expireFrame d fr) := by
  have raised (t : State) (c : EventClass) : t.FramesKept (t.raise c) :=
    (t.raise_sameBut c).framesKept (by decide)
  have given (t : State) (x : Option EngineId) : t.FramesKept (t.giveHeadTo x) :=
    (t.giveHeadTo_sameBut x).framesKept (by decide)
  unfold State.expireFrame
  dsimp only
  split
  · exact (((((s.setChain_sameBut _ _).framesKept (by decide)).trans
      (State.foldl_resolveMember_framesKept _ _)).trans (given _ _)).trans
      (State.releaseOnward_framesKept _ _)).trans (raised _ _)
  · exact ((s.resolveMember_framesKept d).trans (given _ _)).trans (raised _ _)

theorem State.completeForward_framesKept (s : State) (d : DescId) (fr : Descriptor) :
    s.FramesKept (s.completeForward d fr) := .of_free (s.completeForward_desc? d · fr)

/-! ### A reset that takes effect (R147) -/

@[simp] theorem State.flush_desc? (s : State) (received : List Byte) (d : DescId) :
    (s.flush received).desc? d = none := by
  simp [State.flush, State.desc?, FrameStore.flushed, FrameStore.reset]

@[simp] theorem State.restart_desc? (s : State) (received : List Byte) (d : DescId) :
    (s.restart received).desc? d = none := s.flush_desc? received d

theorem State.applyReset_framesKept (s : State) (scope : ResetScope) (received : List Byte) :
    s.FramesKept (s.applyReset scope received) := by
  intro d fr h
  cases scope <;> simp [State.applyReset] at h

theorem PendingReset.isDue_iff (p : PendingReset) :
    p.isDue = true ↔ p.responseOutstanding = false ∧ p.copyOutstanding = none := by
  simp [PendingReset.isDue]

/-- The reset check leaves the part, or applies the reset that is due. -/
theorem State.resetIfDue_cases (s : State) (received : List Byte) :
    s.resetIfDue received = s ∨ ∃ p, s.management.pendingReset = some p ∧ p.isDue = true ∧
      s.resetIfDue received = s.applyReset p.scope received := by
  unfold State.resetIfDue
  split
  · exact .inl rfl
  · next p hp =>
    split
    · next hdue => exact .inr ⟨p, hp, hdue, rfl⟩
    · exact .inl rfl

theorem State.resetIfDue_framesKept (s : State) (received : List Byte) :
    s.FramesKept (s.resetIfDue received) := by
  obtain h | ⟨p, -, -, h⟩ := s.resetIfDue_cases received
  · rw [h]; exact .refl s
  · rw [h]; exact s.applyReset_framesKept _ received

/-- Stored frames stay the same under every command, and one alone is new: that admitted at a header
arrival. -/
theorem State.Handled.framesKept {s u : State} {c : Instr} (hu : s.Handled c u) :
    s.FramesKept u ∨ ∃ h role d rest, s.keptRole h = some role ∧ s.store.freeDescs = d :: rest ∧
      c = .headerArrival h ∧ u = (s.countArrival role h).admitFrame d role h := by
  have advanced (n : Nat) : s.FramesKept (s.advanceTo n) := .of_desc? fun _ => rfl
  have idle (n : Nat) : s.FramesKept (s.advanceTo n).idleTransmitter := .of_desc? fun _ => rfl
  have due {t : State} (received : List Byte) (h : s.FramesKept t) : s.FramesKept (t.resetIfDue received) :=
    h.trans (t.resetIfDue_framesKept received)
  cases hu with
  | headerArrival hrec hu =>
    have hsame := hu.sameBut
    cases hu with
    | kept role hrole d rest hd => exact .inr ⟨_, role, d, rest, hrole, hd, rfl, rfl⟩
    | fault | stripped | token | discarded => exact .inl (.of_desc? fun _ => by simp [State.consumeToken]; try rfl)
    | refused role hrole =>
      exact .inl (((s.countArrival_sameBut role _).trans (State.refuseFrame_sameBut _ role _)).framesKept
        (by decide))
  | lossReceiving => exact .inl ((s.abortFrame_framesKept _ _ _ _).trans
      ((State.loseLink_sameBut _).framesKept (by decide)))
  | startDelimiterReceiving | abort | frameEndAborted => exact .inl (s.abortFrame_framesKept _ _ _ _)
  | frameEnd _ _ _ _ hv =>
    exact .inl (((s.arrivePayload_framesKept _ _ _).trans hv.framesKept).trans
      ((State.endReception_sameBut _ _).framesKept (by decide)))
  | pickup =>
    exact .inl ((((s.locator_sameBut _).framesKept (by decide)).trans
      (State.setPlace_framesKept _ _ _)).trans ((State.setEngine_sameBut _ _ _).framesKept (by decide)))
  | completionWithList =>
    exact .inl ((((((advanced _).trans (State.modDesc_framesKept _ _ (f := fun x =>
      { x with correction := some _ }) fun _ => ⟨rfl, rfl, rfl, .inl rfl⟩)).trans
      (((State.putMemory_sameBut _ _).trans (State.countFlow_sameBut _ _ _ _)).framesKept
        (by decide))).trans
      (((State.countFlow_sameBut _ _ _ _).trans (State.setEngine_sameBut _ _ _)).framesKept
        (by decide)))).trans (State.handBack_framesKept _ _ _ _))
  | completionFailed =>
    exact .inl (((advanced _).trans ((((State.countFlow_sameBut _ _ _ _).trans
      (State.raise_sameBut _ _)).trans (State.setEngine_sameBut _ _ _)).framesKept (by decide))).trans
      (State.handBack_framesKept _ _ _ _))
  | deadlineExpiry => exact .inl ((advanced _).trans (State.expireFrame_framesKept _ _ _))
  | startForward =>
    exact .inl ((((State.consumePermission_sameBut s).trans (State.forwardQueue_sameBut _ _)).framesKept
      (by decide)).trans ((State.setPlace_framesKept _ _ _).trans
      ((State.send_sameBut _ _ _ _).framesKept (by decide))))
  | completeToken =>
    exact .inl (due _ ((idle _).trans ((State.completeToken_sameBut _).framesKept (by decide))))
  | completeResponse =>
    exact .inl (due _ ((idle _).trans ((State.completeResponse_sameBut _).framesKept (by decide))))
  | completeNotice =>
    exact .inl (due _ ((idle _).trans ((State.completeNotice_sameBut _ _ _).framesKept (by decide))))
  | completeForward => exact .inl (due _ ((idle _).trans (State.completeForward_framesKept _ _ _)))
  | startToken => exact .inl ((s.startToken_sameBut).framesKept (by decide))
  | startResponse => exact .inl ((s.startResponse_sameBut _).framesKept (by decide))
  | startNotice => exact .inl ((s.startNotice_sameBut _).framesKept (by decide))
  | retryResent => exact .inl ((advanced _).trans ((State.resendNotice_sameBut _ _ _ _ _).framesKept (by decide)))
  | copyCompletion => exact .inl ((s.table_sameBut _).framesKept (by decide))
  | acquisition | cadenceExpiry | cadenceSlip => exact .inl (.of_desc? fun _ => by simp [State.desc?])
  | _ => exact .inl (.of_desc? fun _ => by simp)

end Sys2Proof.Machine
end

section
/-! The machine: steps, power-on, and commands whose event cannot occur. -/

namespace Sys2Proof.Machine

set_option maxRecDepth 100000 in
theorem powerOn_check (b : Bool) : ({ State.reset with egress := Egress.reset b } : State).check = true := by
  cases b <;> decide

/-- The part after power-on, with the commands given waiting. -/
def powerOnState (b : Bool) (pending : List Instr) : State :=
  { State.reset with egress := Egress.reset b, pending := pending }

theorem exec_powerOn (b : Bool) (s : State) : exec (.powerOn b) s = .next (powerOnState b s.pending) := rfl

/-- The part after power-on is consistent at both levels of the HOLD_IN pin. -/
theorem powerOnState_inv (b : Bool) (pending : List Instr) : (powerOnState b pending).Inv :=
  State.inv_of_check (powerOn_check b)

@[simp] theorem powerOnState_desc? (b : Bool) (pending : List Instr) (d : DescId) :
    (powerOnState b pending).desc? d = none := by
  simp [powerOnState, State.desc?, State.reset, FrameStore.reset]

@[simp] theorem powerOnState_chain (b : Bool) (pending : List Instr) (f : Byte) :
    (powerOnState b pending).chain f = [] := by
  simp [powerOnState, State.chain, State.reset, OrderUnit.reset, atFlow]

@[simp] theorem powerOnState_flowCounters (b : Bool) (pending : List Instr) (f : Byte) :
    (powerOnState b pending).flowCounters f = FlowCounters.zero := by
  simp [powerOnState, State.flowCounters, State.reset, CounterStore.reset, atFlow]

theorem FlowTable.reset_activeEntry (f : Byte) : FlowTable.reset.activeEntry f = FlowEntry.default := by
  simp [FlowTable.reset, FlowTable.activeEntry, FlowTable.bank, atFlow]

theorem FlowTable.reset_stagedEntry (f : Byte) : FlowTable.reset.stagedEntry f = FlowEntry.default := by
  simp [FlowTable.reset, FlowTable.stagedEntry, FlowTable.staged, BankId.other, FlowTable.bank, atFlow]

/-- After power-on no class has counted, no notice stands, and ADDRESS_TAKEN alone is enabled (R166). -/
theorem classes_of_reset {s : State} (h : s.events = EventUnit.reset) (c : EventClass) :
    (s.classState c).raw = 0 ∧ (s.classState c).entry = .idle ∧
      ((s.classState c).enabled = true ↔ c = .addressTaken) := by
  unfold State.classState
  rw [h]
  cases c <;> decide

theorem flowValues_of_zero {s : State} {f : Byte} (h : s.flowCounters f = FlowCounters.zero) :
    ∀ n ∈ s.flowValues f, n = 0 := by
  simp [State.flowValues, h, FlowCounters.zero]

theorem globalValues_of_zero {s : State} (h : s.counters.globals = GlobalCounters.zero) :
    ∀ n ∈ s.globalValues, n = 0 := by
  simp [State.globalValues, h, GlobalCounters.zero]

/-- With no header awaited neither a header arrival nor a frame cut short is an event. -/
theorem exec_headerArrival_of_not_awaited {s : State} (h : s.receiver.reception ≠ .beforeHeader)
    (header : HeaderBytes) (y : LineSymbol) :
    exec (.headerArrival header) s = .next s ∧ exec (.frameCutShort y) s = .next s := by
  simp only [exec, execHeaderArrival, execFrameCutShort]
  cases hrec : s.receiver.reception with
  | beforeHeader => exact absurd hrec h
  | between | receiving | skipping => exact ⟨rfl, rfl⟩

/-- An engine takes nothing before the one that was freed first (R79). -/
theorem exec_pickup_of_turn {s : State} {e x : EngineId} (h : s.locator.firstFreed = some x) (hx : x ≠ e) :
    exec (.pickup e) s = .next s := by
  have hturn : s.locator.firstFreed = some (otherEngine e) := by
    rw [h]
    cases x <;> cases e <;> simp_all [otherEngine]
  simp only [exec, execPickup, hturn]
  split
  · rfl
  · split <;> simp

end Sys2Proof.Machine

section

open Sys2Proof Sys2Proof.Machine

/-- Settles O1: both clauses are the two branches of `step`. -/
theorem stepRunsTheFrontCommand : Obligations.StepRunsTheFrontCommand := by
  refine ⟨fun c s => rfl, fun s h => ?_⟩
  have hnow : max s.now (s.now + 1) = s.now + 1 := by omega
  simp only [step, h, State.tick, State.advanceTo, hnow]

/-- Settles O2, block by block. -/
theorem powerOnResetsEveryBlock : Obligations.PowerOnResetsEveryBlock := by
  intro level s
  refine ⟨_, exec_powerOn level s, rfl, rfl, rfl, rfl, powerOnState_desc? level s.pending, rfl, rfl, rfl,
    fun f => ⟨FlowTable.reset_activeEntry f, FlowTable.reset_stagedEntry f⟩, rfl, rfl, rfl, rfl,
    powerOnState_chain level s.pending, rfl, rfl, rfl, rfl, rfl, (Nat.zero_add _).symm, rfl, rfl, rfl, rfl, rfl, ?classes, rfl,
    fun f => ⟨powerOnState_flowCounters level _ f, flowValues_of_zero (powerOnState_flowCounters level _ f)⟩, rfl, globalValues_of_zero rfl⟩
  case classes => exact classes_of_reset rfl

/-- Settles O3, by the check of the model's laws that evaluates the consistency of a state. -/
theorem resetStateIsConsistent : Obligations.ResetStateIsConsistent := by
  have hinv : State.reset.Inv := powerOnState_inv false []
  refine ⟨rfl, hinv, State.orderInv_of_chains hinv rfl, ?syndromes, ?accounts⟩
  case syndromes =>
    intro d fr hd
    have hfree := powerOnState_desc? false [] d
    exact absurd (hd.symm.trans hfree) (by simp)
  case accounts =>
    intro f
    have hcounters : State.reset.flowCounters f = FlowCounters.zero := powerOnState_flowCounters false [] f
    have hpresent : State.reset.present f = 0 := by
      have hfree (d : DescId) : State.reset.desc? d = none := powerOnState_desc? false [] d
      simp [State.present, hfree]
    simp [State.AccountedWith, hcounters, hpresent, FlowCounters.zero]

/-- Settles O4: each handler's first test fails. -/
theorem eventsThatCannotOccurChangeNothing : Obligations.EventsThatCannotOccurChangeNothing := by
  intro s
  refine ⟨fun h => ?_, fun h p => ⟨?_, ?_⟩, fun h y z => ?_, fun h y => ?_, fun h y p => ⟨?_, ?_, fun i hi => ?_⟩,
    fun h e => ?_, fun e h => ?_, fun e x h hx => ?_, fun e h => ⟨?_, ?_⟩, fun d h => ?_, fun h => ?_,
    fun h p => ?_, fun h => ?_, fun h => ?_, fun c h => ?_, fun h => ?_⟩
  · simp [exec, execAcquisition, h]
  · simp [exec, execLoss, h]
  · simp [exec, execStartDelimiter, h]
  · exact exec_headerArrival_of_not_awaited h y z
  · cases hrec : s.receiver.reception with
    | skipping => exact absurd hrec h
    | between | beforeHeader | receiving => simp [exec, execSkipEnd, hrec]
  · cases hrec : s.receiver.reception with
    | receiving d => exact absurd hrec (h d)
    | between | beforeHeader | skipping => simp [exec, execAbort, hrec]
  · cases hrec : s.receiver.reception with
    | receiving d => exact absurd hrec (h d)
    | between | beforeHeader | skipping => simp [exec, execFrameEnd, hrec]
  · obtain ⟨⟨kind, body⟩, hreq⟩ := Option.isSome_iff_exists.mp hi
    rw [exec_requestOf i s kind body hreq]
    cases hrec : s.receiver.reception with
    | receiving d => exact absurd hrec (h d)
    | between | beforeHeader | skipping => simp [requestFrameEnd, hrec]
  · simp only [exec, execPickup, h]
    split <;> rfl
  · obtain ⟨r, hr⟩ := Option.ne_none_iff_exists'.mp h
    simp [exec, execPickup, hr]
  · exact exec_pickup_of_turn h hx
  · simp [exec, execLocatorCompletionList, h]
  · simp [exec, execLocatorCompletionFailed, h]
  · simp only [exec, execDeadlineExpiry]
    split
    · rfl
    · next fr hd => rw [h fr hd]
  · obtain ⟨tx, htx⟩ := Option.ne_none_iff_exists'.mp h
    simp [exec, execTransmissionStart, htx]
  · simp [exec, execTransmissionCompletion, h]
  · simp [exec, execHoldWaitExpiry, h]
  · simp [exec, execLeaseExpiry, h]
  · simp only [exec, execRetryTimerExpiry]
    split
    · next q n r due hentry => exact absurd hentry (h q n r due)
    all_goals rfl
  · simp [exec, execCopyCompletion, h]

/-- Settles O33: both commands run the same frame-end. -/
theorem requestRowsAreFrameEndsOfRequests : Obligations.RequestRowsAreFrameEndsOfRequests := by
  intro s d fr i kind body hi hslot
  refine ⟨payloadCheckPasses_withPayloadCheck _, exec_request_eq_frameEnd hi hslot.slot hslot.desc hslot.role ?_⟩
  rw [requestPayload_length, hslot.length]

end
end

section
/-! The upstream receiver: what an abort leaves, and the statements about the link and about frames before
their frame-end. -/

namespace Sys2Proof.Machine

variable {s t : State} {d : DescId} {fr : Descriptor}

/-! ### Aborts (R6) -/

theorem State.Freed.of_store {s t u : State} (h : s.Freed t d fr) (hu : u.store = t.store) :
    s.Freed u d fr := by
  have hfree : u.desc? d = none := by
    unfold State.desc?
    rw [hu]
    exact h.free
  exact ⟨hfree, by rw [hu, h.descs], by rw [hu, h.cells], by rw [hu, h.holdOut]⟩

theorem State.OtherDescs.of_store {s t u : State} (h : s.OtherDescs t d) (hu : u.store = t.store) :
    s.OtherDescs u d := by
  intro e he
  unfold State.desc?
  rw [hu]
  exact h e he

theorem State.PayloadStored.of_memory {s t u : State} {bytes : List Byte} (h : s.PayloadStored t fr bytes)
    (hu : u.store.memory = t.store.memory) : s.PayloadStored u fr bytes :=
  h.of_sameReads fun a => by rw [hu]

/-- An abort, in full. -/
theorem State.abortFrame_aborted (s : State) (hd : s.desc? d = some fr) (received : List Byte)
    (next : Reception) : s.Aborted (s.abortFrame d fr received next) d fr received next := by
  obtain ⟨freed, others, counted⟩ :=
    (s.storePayload fr (received.take (headerLength fr.header))).releaseDropped_freed d fr hd
  exact {
    freed := ⟨by simp [State.abortFrame], by simpa [State.abortFrame] using freed.descs,
      by simpa [State.abortFrame] using freed.cells, by simpa [State.abortFrame] using freed.holdOut⟩
    others := others.of_store rfl
    bytes := (s.storePayload_stored fr _).of_memory (by simp [State.abortFrame])
    flow := counted
    aborts := by simp [State.abortFrame]
    reception := rfl
    header := rfl
    lastToken := by simp [State.abortFrame]
    codeUnit := rfl }

/-- An abort stays as it was while the store, the counters, the code unit and the slot do. -/
theorem State.Aborted.of_eq {s t u : State} {received : List Byte} {next : Reception}
    (h : s.Aborted t d fr received next) (hstore : u.store = t.store) (hcounters : u.counters = t.counters)
    (hunit : u.codeUnit = t.codeUnit) (hreception : u.receiver.reception = t.receiver.reception)
    (hheader : u.receiver.currentHeader = t.receiver.currentHeader)
    (htoken : u.receiver.lastToken = t.receiver.lastToken) : s.Aborted u d fr received next where
  freed := h.freed.of_store hstore
  others := h.others.of_store hstore
  bytes := State.PayloadStored.of_memory h.bytes (by rw [hstore])
  flow := fun g => by
    unfold State.flowCounters
    rw [hcounters]
    exact h.flow g
  aborts := by rw [hcounters, h.aborts]
  reception := hreception.trans h.reception
  header := hheader.trans h.header
  lastToken := htoken.trans h.lastToken
  codeUnit := hunit.trans h.codeUnit

theorem State.abortFrame_link (s : State) (d : DescId) (fr : Descriptor) (received : List Byte)
    (next : Reception) : (s.abortFrame d fr received next).receiver.link = s.receiver.link := by
  simp [State.abortFrame]

theorem State.abortFrame_events (s : State) (d : DescId) (fr : Descriptor) (received : List Byte)
    (next : Reception) : (s.abortFrame d fr received next).events = s.events :=
  (s.abortFrame_sameBut d fr received next).2 .events (by decide)

/-- The end of the event of an abort. -/
theorem State.abortFrame_settled (s : State) (hd : s.desc? d = some fr) (received : List Byte)
    (next : Reception) :
    let t := (s.abortFrame d fr received next).settle
    t.receiver.link = s.receiver.link ∧ s.Aborted t d fr received next ∧ s.SameButTimer t abortPieces :=
  ⟨s.abortFrame_link d fr received next,
    (s.abortFrame_aborted hd received next).of_eq rfl rfl rfl rfl rfl rfl,
    (s.abortFrame_sameBut d fr received next).settle⟩

/-- A raise counted last stays raised once when the event ends. -/
theorem State.RaisedOnce.settle_of {s u v : State} {c : EventClass} (hu : u.events = s.events)
    (hv : v.events = (u.raise c).events) : s.RaisedOnce v.settle c :=
  State.RaisedOnce.of_events s v.settle u c hu hv

end Sys2Proof.Machine

section

open Sys2Proof Sys2Proof.Machine

/-- Settles O20. -/
theorem acquisitionBringsTheLinkUp : Obligations.AcquisitionBringsTheLinkUp := by
  intro s hlink
  let u : State := { s with receiver := { s.receiver with link := .linkUp } }
  refine ⟨(u.raise .upstreamUp).settle, by simp [exec, execAcquisition, hlink, State.done, u], by simp [u],
    State.RaisedOnce.settle_of (u := u) rfl rfl, ?_⟩
  exact ((s.receiver_sameBut _).trans (State.raise_sameBut u _)).settle

/-- Settles O21: each point of reception has its branch, and the loss itself is the same in all. -/
theorem lossTakesTheLinkDown : Obligations.LossTakesTheLinkDown := by
  intro s received hlink
  refine ⟨fun hrec => ?idle, fun hrec => ?beforeHeader, fun d fr hrec hd => ?receiving⟩
  case idle =>
    refine ⟨s.loseLink.settle, ?_, by simp, ?_, s.loseLink_sameBut.settle⟩
    · obtain hrec | hrec := hrec <;> simp [exec, execLoss, hlink, hrec, State.done]
    · exact State.RaisedOnce.settle_of (u := ({ s with receiver := { s.receiver with
        link := .linkDown } } : State).setReception .between) rfl rfl
  case beforeHeader =>
    refine ⟨(s.countGlobal .upstreamAborts).loseLink.settle,
      by simp [exec, execLoss, hlink, hrec, State.done], by simp, ?_, by simp,
      (((s.countGlobal_sameBut _).trans (State.loseLink_sameBut _)).mono (by decide)).settle⟩
    exact State.RaisedOnce.settle_of (u := ({ s.countGlobal .upstreamAborts with receiver :=
      { s.receiver with link := .linkDown } } : State).setReception .between) rfl rfl
  case receiving =>
    let a := s.abortFrame d fr received .between
    refine ⟨a.loseLink.settle, by simp [exec, execLoss, hlink, hrec, hd, State.done, a], by simp, ?_, ?_,
      (((s.abortFrame_sameBut d fr received .between).trans a.loseLink_sameBut).mono (by decide)).settle⟩
    · exact (s.abortFrame_aborted hd received .between).of_eq (by simp [a]) (by simp [a]) (by simp [a])
        (by simp [a, State.abortFrame]) (by simp [a]) (by simp [a])
    · exact State.RaisedOnce.settle_of (u := ({ a with receiver := { a.receiver with
        link := .linkDown } } : State).setReception .between) (s.abortFrame_events d fr received .between) rfl

/-- Settles O22, by the point of reception at which the symbol comes. -/
theorem startDelimitersBeginFramesAndSkipsEndUncounted :
    Obligations.StartDelimitersBeginFramesAndSkipsEndUncounted := by
  refine ⟨fun y => by cases y <;> decide, fun s y hrec hy => ?skip, fun s received hlink => ⟨fun hrec => ?idle,
    fun hrec => ?beforeHeader, fun d fr hrec hd => ?receiving⟩⟩
  case skip =>
    refine ⟨(s.setReception (afterSymbol y)).settle, by simp [exec, execSkipEnd, hrec, State.done], ?_,
      (s.setReception_sameBut _).settle⟩
    cases y with
    | dataByte => exact absurd hy (by decide)
    | _ => rfl
  case idle =>
    refine ⟨(s.setReception .beforeHeader).settle, ?_, rfl, (s.setReception_sameBut _).settle⟩
    obtain hrec | hrec := hrec <;> simp [exec, execStartDelimiter, hlink, hrec, State.done]
  case beforeHeader =>
    exact ⟨(s.countGlobal .upstreamAborts).settle, by simp [exec, execStartDelimiter, hlink, hrec, State.done],
      rfl, (s.countGlobal_sameBut _).settle⟩
  case receiving =>
    exact ⟨_, by simp [exec, execStartDelimiter, hlink, hrec, hd, State.done],
      s.abortFrame_settled hd received .beforeHeader⟩

/-- Settles O23, by the symbol. -/
theorem cutShortBeforeHeaderHoldsNothing : Obligations.CutShortBeforeHeaderHoldsNothing := by
  intro s hrec
  let u := s.setReception .between
  refine ⟨⟨((u.countGlobal .headerFaults).raise .headerFault).settle,
    by simp [exec, execFrameCutShort, hrec, State.done, u], by simp [u],
    State.RaisedOnce.settle_of (u := u.countGlobal .headerFaults) rfl rfl, by simp [u],
    (((s.setReception_sameBut _).trans (State.countGlobal_sameBut _ _)).trans
      (State.raise_sameBut _ _)).settle.mono (by decide)⟩, fun y hy => ?_⟩
  have between : (u.countGlobal .upstreamAborts).settle.receiver = { s.receiver with reception := .between } ∧
      (u.countGlobal .upstreamAborts).settle.counters.globals = s.counters.globals.count .upstreamAborts ∧
      s.SameButTimer (u.countGlobal .upstreamAborts).settle [.receiver, .globalCounters] :=
    ⟨rfl, rfl, ((s.setReception_sameBut _).trans (State.countGlobal_sameBut _ _)).settle⟩
  simp only [List.mem_cons, List.not_mem_nil, or_false] at hy
  obtain rfl | rfl | rfl | rfl := hy
  · exact ⟨_, by simp [exec, execFrameCutShort, hrec, State.done]; rfl, between⟩
  · exact ⟨_, by simp [exec, execFrameCutShort, hrec, State.done]; rfl, between⟩
  · exact ⟨_, by simp [exec, execFrameCutShort, hrec, State.done]; rfl, between⟩
  · exact ⟨(s.countGlobal .upstreamAborts).settle, by simp [exec, execFrameCutShort, hrec, State.done],
      by simp [← hrec], rfl, ((s.countGlobal_sameBut _).mono (by decide)).settle⟩

/-- Settles O24: every case of the rule is a case of `abortFits`, and leaves what an abort leaves. -/
theorem abortFreesTheReceiveSlot : Obligations.AbortFreesTheReceiveSlot := by
  intro s d fr received hrec hd
  refine ⟨fun y hy => ?abort, fun hlength => ?frameEnd⟩
  case abort =>
    have hfits : abortFits y received.length (headerLength fr.header) = true := by
      cases y <;> simpa [abortFits] using hy
    have hafter : afterSymbol y =
        (if y = .startDelimiter then .beforeHeader else if y = .dataByte then .skipping else .between) := by
      cases y <;> rfl
    rw [← hafter]
    exact ⟨_, by simp [exec, execAbort, hrec, hd, hfits, State.done],
      s.abortFrame_settled hd received (afterSymbol y)⟩
  case frameEnd =>
    exact ⟨_, by simp [exec, execFrameEnd, hrec, hd, hlength, State.done],
      s.abortFrame_settled hd received .between⟩

/-- Settles O26, one branch of the header arrival for each clause. -/
theorem faultyStrippedAndTokenFramesAreSkipped : Obligations.FaultyStrippedAndTokenFramesAreSkipped := by
  intro s h hrec
  refine ⟨fun hcheck => ?fault, fun hcheck hfate => ?stripped, fun hcheck hfate => ?token⟩
  case fault =>
    exact ⟨(((s.countGlobal .headerFaults).raise .headerFault).setReception .skipping).settle,
      by simp [exec, execHeaderArrival, hrec, State.arriveHeader, hcheck, State.done], by simp,
      State.RaisedOnce.settle_of (u := s.countGlobal .headerFaults) rfl rfl, by simp,
      ((((s.countGlobal_sameBut _).trans (State.raise_sameBut _ _)).trans
        (State.setReception_sameBut _ _)).mono (by decide)).settle⟩
  case stripped =>
    exact ⟨((s.countGlobal .loopStripped).setReception .skipping).settle,
      by simp [exec, execHeaderArrival, hrec, State.arriveHeader, hcheck, hfate, State.done], rfl, rfl,
      (((s.countGlobal_sameBut _).trans (State.setReception_sameBut _ _)).mono (by decide)).settle⟩
  case token =>
    exact ⟨(s.consumeToken h).settle,
      by simp [exec, execHeaderArrival, hrec, State.arriveHeader, hcheck, hfate, State.done], rfl, rfl,
      (s.consumeToken_sameBut h).settle⟩

end
end

section
/-! Header arrivals that keep a frame, and frame-ends of frames that are not DATA. -/

namespace Sys2Proof.Machine

variable {s t w : State} {d : DescId} {fr : Descriptor}

/-! ### Bytes of a frame's cells -/

theorem writeFrameBytes_append (a b : List Byte) (m : Memory) (cells : List CellId) (k : Nat) :
    writeFrameBytes m cells k (a ++ b) =
      writeFrameBytes (writeFrameBytes m cells k a) cells (k + a.length) b := by
  induction a generalizing m k with
  | nil => rfl
  | cons x a ih =>
    simp only [List.cons_append, writeFrameBytes, ih, List.length_cons]
    congr 1
    omega

theorem frameAddress_first (c : CellId) (cells : List CellId) {k : Nat} (hk : k < 64) :
    frameAddress (c :: cells) k = frameAddress [c] k := by
  simp [frameAddress, Config.cellBytes, Nat.div_eq_of_lt hk]

/-- Bytes written within the first cell are written as to that cell alone. -/
theorem writeFrameBytes_first (c : CellId) (cells : List CellId) (bytes : List Byte) (m : Memory) (k : Nat)
    (hk : k + bytes.length ≤ 64) :
    writeFrameBytes m (c :: cells) k bytes = writeFrameBytes m [c] k bytes := by
  induction bytes generalizing m k with
  | nil => rfl
  | cons b bytes ih =>
    rw [List.length_cons] at hk
    have hbyte : writeFrameByte m (c :: cells) k b = writeFrameByte m [c] k b := by
      simp only [writeFrameByte, frameAddress_first c cells (show k < 64 by omega)]
    simp only [writeFrameBytes, hbyte]
    exact ih _ _ (by omega)

/-- The header reads back from the first cell, whatever the other cells are. -/
theorem readFrameByte_header (m : Memory) (hm : memoryWf m = true) (h : HeaderBytes) (cells : List CellId)
    (hcells : cells ≠ []) {k : Nat} (hk : k < 8) :
    readFrameByte (writeFrameBytes m cells 0 (headerList h)) cells k = (headerList h).getD k 0 := by
  obtain ⟨c, rest, rfl⟩ := List.exists_cons_of_ne_nil hcells
  have hlen : (headerList h).length = 8 := rfl
  have hread (m' : Memory) : readFrameByte m' (c :: rest) k = readFrameByte m' [c] k := by
    simp only [readFrameByte, frameAddress_first c rest (show k < 64 by omega)]
  have hat := readFrameByte_writeFrameBytes (headerList h) m [c] 0 k hm (by simp) (by omega) (by simp; omega)
  rw [writeFrameBytes_first c rest _ m 0 (by omega), hread]
  rw [Nat.zero_add] at hat
  rw [hat, List.getD_eq_getElem _ _ (by omega)]

/-! ### Header arrival of a kept frame -/

theorem State.arriveHeader_of_keptRole {h : HeaderBytes} {role : Role} (hcheck : headerCheckPasses h = true)
    (hrole : s.keptRole h = some role) : s.arriveHeader h = (s.countArrival role h).keepFrame role h := by
  simp only [State.arriveHeader, hcheck, if_true]
  cases hfate : fateOf s.nodeAddress h with
  | loopStripped | tokenConsumed => simp only [State.keptRole, hfate, reduceCtorEq] at hrole
  | classified =>
    by_cases hdiscard : (s.table.activeEntry h.flow).action = .discard
    · simp only [State.keptRole, hfate, hdiscard, if_true, reduceCtorEq] at hrole
    · simp only [State.keptRole, hfate, hdiscard, if_false, Option.some.injEq] at hrole
      subst hrole
      simp only [State.classify, State.snapshotOf, hdiscard, if_false, State.countArrival]
  | kept role' =>
    simp only [State.keptRole, hfate, Option.some.injEq] at hrole
    subst hrole
    cases role' with
    | data snap => exact absurd hfate (fateOf_kept_not_data _ h snap)
    | forwardedOther | request | enumeration => rfl

theorem State.countArrival_counted (s : State) (role : Role) (h : HeaderBytes) :
    s.FlowCounted (s.countArrival role h) h.flow (arrivalCount role) := by
  cases role with
  | data snap => exact s.countFlow_counted h.flow .arrived 1
  | _ => exact fun g => by simp [State.countArrival, arrivalCount]

theorem State.refusal_counted (s : State) (role : Role) (h : HeaderBytes) :
    s.FlowCounted ((s.countArrival role h).refuseFrame role h) h.flow (refusalCount role) := by
  cases role with
  | data snap =>
    have hcounted := (s.countFlow_counted h.flow .arrived 1).trans (State.countFlow_counted _ h.flow .dropped 1)
    exact fun g => by simpa [State.refuseFrame, State.countArrival, refusalCount] using hcounted g
  | _ => exact fun g => by simp [State.refuseFrame, State.countArrival, refusalCount]

@[simp] theorem State.countArrival_receiver (s : State) (role : Role) (h : HeaderBytes) :
    (s.countArrival role h).receiver = s.receiver := by cases role <;> rfl

@[simp] theorem State.countArrival_events (s : State) (role : Role) (h : HeaderBytes) :
    (s.countArrival role h).events = s.events := by cases role <;> rfl

@[simp] theorem State.countArrival_globals (s : State) (role : Role) (h : HeaderBytes) :
    (s.countArrival role h).counters.globals = s.counters.globals := by cases role <;> rfl

theorem State.refuseFrame_receiver (s : State) (role : Role) (h : HeaderBytes) :
    (s.refuseFrame role h).receiver = { s.receiver with reception := .skipping } := by
  cases role <;> simp [State.refuseFrame]

theorem State.refuseFrame_globals (s : State) (role : Role) (h : HeaderBytes) :
    (s.refuseFrame role h).counters.globals = s.counters.globals.count .poolShort := by
  cases role <;> simp [State.refuseFrame]

theorem State.refuseFrame_events (s : State) (role : Role) (h : HeaderBytes) :
    (s.refuseFrame role h).events = (s.raise .poolShort).events := by
  cases role <;> exact State.raise_events_congr _ _ _ rfl

/-! ### A frame that has arrived leaves the slot -/

/-- A count or a raise before the end of the event, or a memory write, leaves the frame arrived. -/
theorem State.FrameArrived.forwarded {payload : List Byte} (hw : s.FrameArrived w d fr payload) :
    let t := ((w.toForward d).endReception .between).settle
    s.SlotEnded t ∧ s.SlotForwarded t d fr fr.header ∧ s.OtherDescs t d ∧ s.PayloadStored t fr payload :=
  ⟨⟨by simp [hw.receiver], rfl, by simp [hw.nextStamp]⟩,
    ⟨by simp [hw.desc], by simp [hw.forwardQueue], hw.store⟩,
    fun e he => by simp [he, hw.others e he], hw.bytes.of_sameReads fun _ => rfl⟩

/-- A frame freed at its frame-end, whatever is counted or raised beside it. -/
theorem State.FrameArrived.released {u : State} {payload : List Byte} (hw : s.FrameArrived w d fr payload)
    (hstore : u.store = (w.releaseDropped d).store) (hreceiver : u.receiver = w.receiver)
    (hstamp : u.order.nextStamp = w.order.nextStamp) :
    let t := (u.endReception .between).settle
    s.SlotEnded t ∧ s.Freed t d fr ∧ s.OtherDescs t d ∧ s.PayloadStored t fr payload := by
  obtain ⟨freed, others, _⟩ := w.releaseDropped_freed d _ hw.desc
  obtain ⟨hdescs, hcells, hholdOut⟩ := hw.store
  have hfreed : s.Freed (w.releaseDropped d) d fr :=
    ⟨freed.free, by rw [freed.descs, hdescs], by rw [freed.cells, hcells], by rw [freed.holdOut, hholdOut]⟩
  have hothers : s.OtherDescs (w.releaseDropped d) d := fun e he => (others e he).trans (hw.others e he)
  exact ⟨⟨by simp [hreceiver, hw.receiver], rfl, by simp [hstamp, hw.nextStamp]⟩, hfreed.of_store hstore,
    hothers.of_store hstore, hw.bytes.of_memory (by simp [hstore])⟩

/-- A payload written over one of its length is the one stored. -/
theorem State.PayloadStored.overwritten {p q : List Byte} (h : s.PayloadStored t fr p)
    (hlength : q.length = p.length) (hwf : s.MemoryInv → t.MemoryInv) :
    s.PayloadStored (t.storePayload fr q) fr q where
  others := fun a ha => ((t.storePayload_stored fr q).others a ha).trans
    (h.others a (by rwa [hlength] at ha))
  stored := fun hm => (t.storePayload_stored fr q).stored (hwf hm)

theorem State.arrivePayload_written (s : State) (d : DescId) (fr : Descriptor) (payload : List Byte) :
    Written fr.cells s.store.memory (s.arrivePayload d fr payload).store.memory :=
  Written.refl.writeFrameBytes payload Config.headerBytes (List.Subset.refl _)

theorem exec_frameEnd_dispatch {payload : List Byte} (hrec : s.receiver.reception = .receiving d)
    (hd : s.desc? d = some fr) (hlength : payload.length = headerLength fr.header) :
    exec (.frameEnd payload) s = .next
      ((((s.arrivePayload d fr payload).dispatch d fr payload).endReception .between).settle) := by
  simp only [exec, execFrameEnd, hrec, hd, hlength, if_true]
  rfl

theorem nodeAddress_iff (a : Byte) : isNodeAddress a = true ↔ 1 ≤ a.toNat ∧ a.toNat ≤ 254 := by
  have hzero : a ≠ 0 ↔ a.toNat ≠ 0 := by rw [ne_eq, ← BitVec.toNat_inj]; rfl
  have hall : a ≠ Config.broadcast ↔ a.toNat ≠ 255 := by rw [ne_eq, ← BitVec.toNat_inj]; rfl
  have hlt := a.isLt
  simp only [isNodeAddress, Bool.and_eq_true, bne_iff_ne, hzero, hall]
  omega

theorem nextAddressAfter_eq (a : Byte) : nextAddressAfter a = if a = 254 then 255 else a + 1 := by
  unfold nextAddressAfter
  split
  · next h => rw [h]; rfl
  · rfl

end Sys2Proof.Machine

section

open Sys2Proof Sys2Proof.Machine

/-- Settles O28: the frame kept is granted by the store, and its header lies within its first cell. -/
theorem keptFrameTakesADescriptorAndItsCells : Obligations.KeptFrameTakesADescriptorAndItsCells := by
  intro s h role d rest n hrec hcheck hrole hfree hn hcells
  have hstore : (s.countArrival role h).store = s.store := s.countArrival_store role h
  have hgrants : s.store.grants (cellsNeeded (storedLengthOf role h)) = true := by
    simp [FrameStore.grants, hfree, ← hn, hcells]
  have hkeep : s.arriveHeader h = (s.countArrival role h).admitFrame d role h := by
    rw [State.arriveHeader_of_keptRole hcheck hrole]
    simp only [State.keepFrame, State.admitFrame, hstore, hfree, hgrants, if_true]
  have hne : s.store.freeCells.take n ≠ [] := by
    have := cellsNeeded_pos (storedLengthOf role h)
    rw [ne_eq, List.take_eq_nil_iff, List.eq_nil_iff_length_eq_zero]
    omega
  refine ⟨((s.countArrival role h).admitFrame d role h).settle,
    by simp [exec, execHeaderArrival, hrec, hkeep, State.done], ?desc, ?others, ?freeDescs, ?freeCells,
    ?holdOut, ?header, ?cells, by simp [State.admitFrame], rfl, s.countArrival_counted role h, ?frame⟩
  case desc =>
    simp [State.desc?, State.admitFrame, FrameStore.granted, FrameStore.evaluated, freshDescriptor, hn, hstore]
  case others =>
    intro e he
    have hval : d.val ≠ e.val := fun heq => he (Fin.ext heq.symm)
    simp [State.desc?, State.admitFrame, FrameStore.granted, FrameStore.evaluated, hval,
      hstore]
  case freeDescs => simp [State.admitFrame, FrameStore.granted, FrameStore.evaluated, hfree, hstore]
  case freeCells => simp [State.admitFrame, FrameStore.granted, FrameStore.evaluated, hn, hstore]
  case holdOut => simp [State.admitFrame, FrameStore.granted, FrameStore.evaluated, hfree, hstore]
  case header =>
    intro hm k hlt
    subst hn
    simpa [State.admitFrame, FrameStore.granted, FrameStore.evaluated, hstore] using
      readFrameByte_header s.store.memory hm h _ hne hlt
  case cells =>
    intro a ha
    subst hn
    simpa [State.admitFrame, FrameStore.granted, FrameStore.evaluated, hstore] using
      readByte_writeFrameBytes_ne (headerList h) s.store.memory _ 0 a ha
  case frame =>
    exact (((s.countArrival_sameBut role h).trans (State.admitFrame_sameBut _ d role h)).mono (by decide)).settle

/-- Settles O29: a refusal leaves the store, and counts and raises POOL_SHORT. -/
theorem refusedFrameTakesNothing : Obligations.RefusedFrameTakesNothing := by
  intro s h role hrec hcheck hrole hshort
  have hrefuse : s.arriveHeader h = (s.countArrival role h).refuseFrame role h := by
    rw [State.arriveHeader_of_keptRole hcheck hrole]
    unfold State.keepFrame
    rw [s.countArrival_store]
    split
    · rfl
    · next hfree =>
      have hgrants : s.store.grants (cellsNeeded (storedLengthOf role h)) = false := by
        obtain hempty | hcells := hshort
        · rw [hfree] at hempty; cases hempty
        · simp [FrameStore.grants, hcells]
      rw [hgrants]
      rfl
  refine ⟨((s.countArrival role h).refuseFrame role h).settle,
    by simp [exec, execHeaderArrival, hrec, hrefuse, State.done],
    by simp [State.refuseFrame_receiver], ?raised, by simp [State.refuseFrame_globals],
    s.refusal_counted role h, ?frame⟩
  case raised =>
    exact State.RaisedOnce.settle_of (u := s.countArrival role h) (s.countArrival_events role h)
      (State.refuseFrame_events _ role h)
  case frame =>
    exact (((s.countArrival_sameBut role h).trans (State.refuseFrame_sameBut _ role h)).mono (by decide)).settle

/-- Settles O31. -/
theorem forwardedOtherFramesGoOnUnchanged : Obligations.ForwardedOtherFramesGoOnUnchanged := by
  intro s d fr payload hrec hd hrole hlength
  obtain ⟨hslot, hforwarded, hothers, hbytes⟩ := (s.arrivePayload_frameArrived d fr payload hd).forwarded
  refine ⟨_, ?_, hslot, hforwarded, hothers, hbytes, ?_⟩
  · rw [exec_frameEnd_dispatch hrec hd hlength]
    simp only [State.dispatch, hrole]
  · exact ((((s.arrivePayload_sameBut d fr payload).trans (State.toForward_sameBut _ d)).trans
      (State.endReception_sameBut _ _)).mono (by decide)).settle

/-- Settles O32, one branch of the dispatch for each clause. -/
theorem enumFramesAssignTheAddressAndFailedChecksAreDropped :
    Obligations.EnumFramesAssignTheAddressAndFailedChecksAreDropped := by
  intro s d fr payload hrec hd hlength
  have harrived := s.arrivePayload_frameArrived d fr payload hd
  have hexec := exec_frameEnd_dispatch hrec hd hlength
  refine ⟨fun hfail => ?fault, fun a c1 c0 hrole hpayload hcheck => ⟨fun htake => ?taken, fun hkeep => ?kept⟩⟩
  case fault =>
    have hdispatch : (s.arrivePayload d fr payload).dispatch d fr payload =
        (s.arrivePayload d fr payload).dropCheckFault d := by
      obtain ⟨hrole, hcheck⟩ | ⟨hrole, hform⟩ := hfail
      · simp [State.dispatch, hrole, hcheck]
      · have : enumWellFormed payload = false := by
          rw [enumWellFormed, Bool.and_eq_false_iff, decide_eq_false_iff_not]
          by_cases hthree : payload.length = 3
          · exact .inr (by simpa [hthree] using hform)
          · exact .inl hthree
        simp [State.dispatch, hrole, this]
    have hdata : fr.isData = false := by
      obtain ⟨hrole, _⟩ | ⟨hrole, _⟩ := hfail <;> simp [Descriptor.isData, hrole]
    rw [hdispatch] at hexec
    obtain ⟨hslot, hfreed, hothers, hbytes⟩ := harrived.released
      (u := (s.arrivePayload d fr payload).dropCheckFault d) (by simp [State.dropCheckFault])
      (by simp [State.dropCheckFault]) (by simp [State.dropCheckFault])
    refine ⟨_, hexec, hslot, hfreed, hothers, hbytes, by simp [State.dropCheckFault, State.arrivePayload], ?_⟩
    exact ((((s.arrivePayload_sameBut d fr payload).trans
      (State.releaseDropped_sameBut _ d _ harrived.desc hdata)).trans
      ((State.countGlobal_sameBut _ _).trans (State.endReception_sameBut _ _))).mono (by decide)).settle
  case taken =>
    have hform : enumWellFormed payload = true := by rw [enumWellFormed, hcheck, hpayload]; rfl
    obtain ⟨hzero, hrange⟩ := htake
    have hnode : isNodeAddress a = true := (nodeAddress_iff a).mpr hrange
    let w := (s.arrivePayload d fr payload).takeAddress fr a
    have hdispatch : (s.arrivePayload d fr payload).dispatch d fr payload = w.toForward d := by
      have haddress : (s.arrivePayload d fr payload).nodeAddress = 0 := hzero
      simp only [State.dispatch, hrole, hform, if_true]
      simp [State.enumerate, hpayload, hpayload ▸ haddress, hnode, w]
    have hw : s.FrameArrived w d fr (withPayloadCheck [nextAddressAfter a]) :=
      { harrived with
        receiver := by simp [w, State.takeAddress, harrived.receiver]
        nextStamp := by simp [w, State.takeAddress, harrived.nextStamp]
        desc := harrived.desc ▸ State.raise_desc? _ _ d
        others := fun e he => (State.raise_desc? _ _ e).trans (harrived.others e he)
        bytes := (harrived.bytes.overwritten (q := withPayloadCheck [nextAddressAfter a])
          (by rw [hpayload]; rfl) (s.arrivePayload_written d fr payload).wf).of_memory
          (by simp [w, State.takeAddress])
        store := by simpa [w, State.takeAddress, State.StoreKept] using harrived.store
        forwardQueue := by simp [w, State.takeAddress, harrived.forwardQueue] }
    rw [hdispatch] at hexec
    obtain ⟨hslot, hforwarded, hothers, hbytes⟩ := hw.forwarded
    rw [nextAddressAfter_eq] at hbytes
    refine ⟨_, hexec, by simp [w, State.takeAddress], ?_, hslot, hforwarded, hothers, hbytes, ?_⟩
    · exact State.RaisedOnce.settle_of (u := { (s.arrivePayload d fr payload).storePayload fr
        (withPayloadCheck [nextAddressAfter a]) with nodeAddress := a }) rfl rfl
    · exact (((((s.arrivePayload_sameBut d fr payload).trans (State.takeAddress_sameBut _ fr a)).trans
        (State.toForward_sameBut _ d)).trans (State.endReception_sameBut _ _)).mono (by decide)).settle
  case kept =>
    have hform : enumWellFormed payload = true := by rw [enumWellFormed, hcheck, hpayload]; rfl
    have hdispatch : (s.arrivePayload d fr payload).dispatch d fr payload =
        (s.arrivePayload d fr payload).toForward d := by
      have hno : ¬((s.arrivePayload d fr [a, c1, c0]).nodeAddress = 0 ∧ isNodeAddress a = true) := by
        rw [nodeAddress_iff]
        exact hkeep
      simp only [State.dispatch, hrole, hform, if_true]
      simp only [State.enumerate, hpayload, if_neg hno]
    rw [hdispatch] at hexec
    obtain ⟨hslot, hforwarded, hothers, hbytes⟩ := harrived.forwarded
    refine ⟨_, hexec, hslot, hforwarded, hothers, hbytes, ?_⟩
    exact ((((s.arrivePayload_sameBut d fr payload).trans (State.toForward_sameBut _ d)).trans
      (State.endReception_sameBut _ _)).mono (by decide)).settle

end
end

section
/-! The frame-end of a DATA frame: its outcome, and where each outcome sends the frame (R60, R61, R86 to
R92). -/

namespace Sys2Proof.Machine

variable {s t u w : State} {d : DescId} {fr fr' : Descriptor} {snap : Snapshot} {payload bytes : List Byte}

/-! ### What later updates leave of counts and raises -/

theorem State.FlowCounted.of_sameBut {f : Byte} {change : FlowCounters → FlowCounters} {l : List Piece}
    (h : s.FlowCounted t f change) (hu : t.SameBut u l) (hl : .flowCounters ∉ l) :
    s.FlowCounted u f change :=
  fun g => (hu.2 .flowCounters hl g).trans (h g)

theorem State.FlowCounted.settled {f : Byte} {change : FlowCounters → FlowCounters} {l : List Piece}
    (h : s.FlowCounted t f change) (hu : t.SameBut u l) (hl : .flowCounters ∉ l) :
    s.FlowCounted u.settle f change := fun g => h.of_sameBut hu hl g

/-! ### The payload in its cells -/

/-- The part with the frame of the receive slot arrived, the bytes given behind its header. -/
def State.arriveStored (s : State) (d : DescId) (fr : Descriptor) (payload bytes : List Byte) : State :=
  (s.arrivePayload d fr payload).putMemory
    (writeFrameBytes s.store.memory fr.cells Config.headerBytes bytes)

theorem State.arriveStored_self (s : State) (d : DescId) (fr : Descriptor) (payload : List Byte) :
    s.arriveStored d fr payload payload = s.arrivePayload d fr payload := rfl

theorem State.arriveStored_frameArrived (s : State) (hd : s.desc? d = some fr) (payload bytes : List Byte) :
    s.FrameArrived (s.arriveStored d fr payload bytes) d fr bytes :=
  { s.arrivePayload_frameArrived d fr payload hd with
    bytes := (s.storePayload_stored fr bytes).of_sameReads fun _ => rfl }

theorem State.arriveStored_sameBut (s : State) (d : DescId) (fr : Descriptor) (payload bytes : List Byte) :
    s.SameBut (s.arriveStored d fr payload bytes) [.cells, .codeUnit, .descriptors, .nextStamp] :=
  ((s.arrivePayload_sameBut d fr payload).trans (State.putMemory_sameBut _ _)).mono (by decide)

/-- An ENCODE frame's check bytes written behind its payload. -/
theorem State.arriveStored_append (s : State) (d : DescId) (fr : Descriptor) (payload check : List Byte) :
    (s.arrivePayload d fr payload).putMemory (writeFrameBytes (s.arrivePayload d fr payload).store.memory
      fr.cells (Config.headerBytes + payload.length) check) =
      s.arriveStored d fr payload (payload ++ check) := by
  unfold State.arriveStored
  rw [writeFrameBytes_append]
  rfl

/-! ### The outcome (R60) -/

theorem State.DataInSlot.entry_eq (h : s.DataInSlot d fr snap payload) : fr.entry = snap.entry := by
  simp [Descriptor.entry, h.role]

theorem State.DataInSlot.isData (h : s.DataInSlot d fr snap payload) : fr.isData = true := by
  simp [Descriptor.isData, h.role]

/-- The code unit after the payload has gone through it. -/
theorem State.DataInSlot.unit_streamed (h : s.DataInSlot d fr snap payload) :
    (s.arrivePayload d fr payload).codeUnit = (codeUnitFor (.data snap) fr.header).stream payload := by
  rw [← h.role, ← h.unit]
  rfl

theorem State.endData_of_fault (h : s.DataInSlot d fr snap payload)
    (hfault : codeFault snap.entry fr.header = true) :
    (s.arrivePayload d fr payload).endData d fr = (s.arrivePayload d fr payload).failAtFrameEnd d fr := by
  simp [State.endData, h.unit_streamed, codeUnitFor, hfault, CodeUnit.stream]

theorem State.endData_of_forward (h : s.DataInSlot d fr snap payload)
    (hfault : codeFault snap.entry fr.header = false) (haction : snap.entry.action = .forward) :
    (s.arrivePayload d fr payload).endData d fr = (s.arrivePayload d fr payload).readyAtFrameEnd d fr := by
  simp [State.endData, h.unit_streamed, codeUnitFor, hfault, haction, CodeUnit.stream]

theorem State.endData_of_encode (h : s.DataInSlot d fr snap payload)
    (hfault : codeFault snap.entry fr.header = false) (haction : snap.entry.action = .encode) :
    (s.arrivePayload d fr payload).endData d fr =
      (s.arriveStored d fr payload (payload ++ checkBytesOf snap.entry.strength.t payload)).readyAtFrameEnd
        d fr := by
  rw [← State.arriveStored_append, h.length]
  simp [State.endData, h.unit_streamed, codeUnitFor, hfault, haction, CodeUnit.stream, checkBytesOf]

/-- CHECK, CORRECT and STRIP frames are judged by their syndromes. -/
theorem State.endData_of_syndromes (h : s.DataInSlot d fr snap payload)
    (hfault : codeFault snap.entry fr.header = false)
    (haction : snap.entry.action = .check ∨ snap.entry.action = .correct ∨ snap.entry.action = .strip) :
    (s.arrivePayload d fr payload).endData d fr =
      (if isClean (syndromesOf snap.entry.strength.t payload) then
        (s.arrivePayload d fr payload).readyAtFrameEnd d fr
      else if snap.entry.action = .check then (s.arrivePayload d fr payload).failAtFrameEnd d fr
      else (s.arrivePayload d fr payload).routeLocate d fr
        (syndromesOf snap.entry.strength.t payload)) := by
  have hunit : (s.arrivePayload d fr payload).codeUnit =
      .syndrome (syndromesOf snap.entry.strength.t payload) := by
    rw [h.unit_streamed]
    obtain ha | ha | ha := haction <;> simp [codeUnitFor, hfault, ha, CodeUnit.stream, syndromesOf]
  simp only [State.endData, hunit, h.entry_eq]

/-- The end of a DATA frame follows its outcome. -/
theorem State.DataInSlot.endData_eq (h : s.DataInSlot d fr snap payload) :
    (outcomeOf snap.entry fr.header payload = .ready → (s.arrivePayload d fr payload).endData d fr =
      (s.arriveStored d fr payload (storedPayload snap.entry payload)).readyAtFrameEnd d fr) ∧
    (outcomeOf snap.entry fr.header payload = .failed → (s.arrivePayload d fr payload).endData d fr =
      (s.arrivePayload d fr payload).failAtFrameEnd d fr) ∧
    (outcomeOf snap.entry fr.header payload = .toLocate → (s.arrivePayload d fr payload).endData d fr =
      (s.arrivePayload d fr payload).routeLocate d fr (syndromesOf snap.entry.strength.t payload)) := by
  cases hfault : codeFault snap.entry fr.header with
  | true => simp [outcomeOf, hfault, State.endData_of_fault h hfault]
  | false =>
    cases haction : snap.entry.action with
    | forward =>
      simp [outcomeOf, hfault, haction, State.endData_of_forward h hfault haction, storedPayload,
        State.arriveStored_self]
    | discard => exact absurd haction h.kept
    | encode => simp [outcomeOf, hfault, haction, State.endData_of_encode h hfault haction, storedPayload]
    | check | correct | strip =>
      rw [State.endData_of_syndromes h hfault (by simp [haction])]
      cases hclean : isClean (syndromesOf snap.entry.strength.t payload) <;>
        simp [outcomeOf, hfault, haction, hclean, storedPayload, State.arriveStored_self]

theorem State.DataInSlot.exec_eq (h : s.DataInSlot d fr snap payload) :
    exec (.frameEnd payload) s = .next
      ((((s.arrivePayload d fr payload).endData d fr).endReception .between).settle) := by
  rw [exec_frameEnd_dispatch h.slot h.desc h.length]
  simp only [State.dispatch, h.role]

/-! ### Routes (R86 to R91) -/

theorem State.routeReady_of_goesOn (h : s.goesOn fr) : s.routeReady d fr = s.toForward d := by
  unfold State.routeReady
  obtain horder | hchain := h
  · rw [horder]
  · split <;> simp [hchain]

theorem State.routeReady_of_joins (hchain : s.chain fr.flow ≠ []) (h : s.joins fr) :
    s.routeReady d fr = s.hold d fr := by
  have hoverflow : s.overflows fr = false := by
    have := h.2
    simp only [State.overflows, decide_eq_false_iff_not]
    omega
  simp [State.routeReady, h.1, hchain, hoverflow, State.hold]

theorem State.routeReady_of_overflow (horder : fr.entry.order = .ordered) (hchain : s.chain fr.flow ≠ [])
    (h : fr.entry.holdDepth < (s.chain fr.flow).length + 1) : s.routeReady d fr = s.dropOverflow d := by
  simp [State.routeReady, horder, hchain, State.overflows, h]

theorem State.goesOn_of_sameBut {l : List Piece} (h : s.goesOn fr) (hu : s.SameBut u l) (hl : .chains ∉ l) :
    u.goesOn fr := h.imp id fun hchain => (hu.2 .chains hl fr.flow).trans hchain

theorem State.joins_of_sameBut {l : List Piece} (h : s.joins fr) (hu : s.SameBut u l) (hl : .chains ∉ l) :
    u.joins fr := ⟨h.1, by rw [hu.2 .chains hl fr.flow]; exact h.2⟩

/-! ### The frame arrived, and where it goes -/

theorem State.FrameArrived.damaged (hw : s.FrameArrived w d fr bytes) :
    s.FrameArrived (w.setDamaged d) d { fr with header := withDamaged fr.header } bytes :=
  { receiver := hw.receiver
    nextStamp := hw.nextStamp
    desc := by simp [hw.desc]
    others := fun e he => by simp [he, hw.others e he]
    bytes := ⟨hw.bytes.others, hw.bytes.stored⟩
    store := hw.store
    forwardQueue := hw.forwardQueue }

/-- A frame that waits HELD: in its place, behind its chain, with its deadline running. -/
theorem State.FrameArrived.held (hw : s.FrameArrived w d fr bytes) (hnow : w.now = s.now)
    (hchain : ∀ f, w.chain f = s.chain f) (hflow : fr'.flow = fr.flow) :
    let t := ((w.hold d fr').endReception .between).settle
    s.SlotEnded t ∧
      t.desc? d = some { fr with
        place := .held, stamp := some s.order.nextStamp
        deadline := some (s.now + Config.usec fr.entry.holdLimit) } ∧
      s.OtherDescs t d ∧ s.ChainIs t fr.flow (s.chain fr.flow ++ [d]) ∧ s.PayloadStored t fr bytes := by
  refine ⟨⟨by simp [State.hold, State.joinChain, hw.receiver], rfl,
    by simp [State.hold, State.joinChain, hw.nextStamp]⟩, ?desc, fun e he => ?_, fun g => ?_,
    hw.bytes.of_sameReads fun _ => by simp [State.hold, State.joinChain]⟩
  case desc =>
    simp only [State.hold, State.joinChain, State.settle_desc?, State.endReception_desc?, State.setChain_desc?,
      State.startDeadline_desc?, State.setPlace_desc?, if_true, hw.desc, Option.map_some, State.setPlace_now,
      hnow]
    rfl
  · simp [State.hold, State.joinChain, he, hw.others e he]
  · simp [State.hold, State.joinChain, hchain, hflow]

/-- A frame that overflows its chain: freed, counted and raised beside what its outcome has counted. -/
theorem State.FrameArrived.overflowed {change : FlowCounters → FlowCounters} {l : List Piece}
    (hw : s.FrameArrived w d fr bytes) (hdata : fr.isData = true) (hcount : s.FlowCounted w fr.flow change)
    (hsame : s.SameBut w l) :
    let t := ((w.dropOverflow d).endReception .between).settle
    s.SlotEnded t ∧ s.Freed t d fr ∧ s.OtherDescs t d ∧ s.PayloadStored t fr bytes ∧
      s.FlowCounted t fr.flow (fun k => (change k).count .dropped 1) ∧
      t.events = (w.raise .chainOverflow).events ∧
      s.SameButTimer t (l ++ [.freeLists, .descriptors, .holdOut, .flowCounters, .events, .receiver,
        .codeUnit]) := by
  obtain ⟨hended, hfreed, hothers, hbytes⟩ := hw.released (u := w.dropOverflow d)
    (by simp [State.dropOverflow]) (by simp [State.dropOverflow]) (by simp [State.dropOverflow])
  obtain ⟨_, _, hdropped⟩ := w.releaseDropped_freed d _ hw.desc
  have hlast := ((w.dropOverflow_sameBut d).trans (State.endReception_sameBut _ .between))
  refine ⟨hended, hfreed, hothers, hbytes, fun g => ?_, State.raise_events_congr _ _ _ (by simp),
    ((hsame.trans hlast).mono (by simp)).settle⟩
  have hfr : ({ fr with stamp := some s.order.nextStamp } : Descriptor).isData = true := hdata
  have hboth := (hcount.trans hdropped) g
  simpa [State.dropOverflow, Descriptor.countIf, hfr] using hboth

/-- A frame that is QUEUED: in its place, with its syndromes and its deadline. -/
theorem State.FrameArrived.enqueued (hw : s.FrameArrived w d fr bytes) (hnow : w.now = s.now)
    (syndromes : List Byte) :
    (w.enqueue d syndromes).desc? d = some { fr with
      place := .queued, stamp := some s.order.nextStamp, syndromes := some syndromes
      deadline := some (s.now + Config.usec fr.entry.holdLimit) } ∧
    s.OtherDescs (w.enqueue d syndromes) d := by
  refine ⟨?desc, fun e he => ?_⟩
  case desc =>
    simp only [State.enqueue, State.joinCorrectionQueue_desc?, State.startDeadline_desc?, State.setPlace_desc?,
      State.modDesc_desc?, if_true, hw.desc, Option.map_some, State.setPlace_now, State.modDesc_now, hnow]
    rfl
  · simp [State.enqueue, he, hw.others e he]

end Sys2Proof.Machine

section

open Sys2Proof Sys2Proof.Machine

/-- Settles O34: a ready frame counts CLEAN and is routed, on or behind its chain. -/
theorem readyFramesGoOnOrWaitHeld : Obligations.ReadyFramesGoOnOrWaitHeld := by
  intro s d fr snap payload hslot hready
  have hexec := hslot.exec_eq
  rw [hslot.endData_eq.1 hready] at hexec
  let bytes := storedPayload snap.entry payload
  let w := s.arriveStored d fr payload bytes
  let u := w.countFlow fr.flow .clean 1
  have hw : s.FrameArrived w d fr bytes := s.arriveStored_frameArrived hslot.desc payload bytes
  have hu : s.FrameArrived u d fr bytes := hw.of_sameBut (w.countFlow_sameBut _ _ _) (by decide)
  have hsame : s.SameBut u [.cells, .codeUnit, .descriptors, .nextStamp, .flowCounters] :=
    (s.arriveStored_sameBut d fr payload bytes).trans (w.countFlow_sameBut _ _ _)
  have hcount : s.FlowCounted u fr.flow (fun k => k.count .clean 1) := w.countFlow_counted fr.flow .clean 1
  refine ⟨fun hon => ?onward, fun hchain hjoins => ?held⟩
  case onward =>
    have hroute : w.readyAtFrameEnd d fr = u.toForward d :=
      State.routeReady_of_goesOn (State.goesOn_of_sameBut hon hsame (by decide))
    rw [hroute] at hexec
    obtain ⟨hended, hforwarded, hothers, hbytes⟩ := hu.forwarded
    have hlast := (u.toForward_sameBut d).trans (State.endReception_sameBut _ .between)
    exact ⟨_, hexec, hended, hforwarded, hothers, hbytes, hcount.settled hlast (by decide),
      ((hsame.trans hlast).mono (by decide)).settle⟩
  case held =>
    have hchains : ∀ f, u.chain f = s.chain f := hsame.2 .chains (by decide)
    have hroute : w.readyAtFrameEnd d fr = u.hold d fr :=
      State.routeReady_of_joins (by rwa [hchains]) (State.joins_of_sameBut hjoins hsame (by decide))
    rw [hroute] at hexec
    obtain ⟨hended, hdesc, hothers, hchain, hbytes⟩ := hu.held (fr' := fr) rfl hchains rfl
    have hlast := (u.hold_sameBut d fr).trans (State.endReception_sameBut _ .between)
    rw [hslot.entry_eq] at hdesc
    exact ⟨_, hexec, hended, hdesc, hothers, hchain, hbytes, hcount.settled hlast (by decide),
      ((hsame.trans hlast).mono (by decide)).settle⟩

/-- Settles O35: the frame enters the correction queue, and its chain if it has one. -/
theorem framesToLocateEnterTheCorrectionQueue : Obligations.FramesToLocateEnterTheCorrectionQueue := by
  intro s d fr snap payload hslot hlocate horder
  have hexec := hslot.exec_eq
  rw [hslot.endData_eq.2.2 hlocate] at hexec
  let w := s.arrivePayload d fr payload
  let syndromes := syndromesOf snap.entry.strength.t payload
  have hw : s.FrameArrived w d fr payload := s.arrivePayload_frameArrived d fr payload hslot.desc
  have hsame := s.arrivePayload_sameBut d fr payload
  have hchains : ∀ f, w.chain f = s.chain f := hsame.2 .chains (by decide)
  obtain ⟨hdesc, hothers⟩ := hw.enqueued rfl syndromes
  rw [hslot.entry_eq] at hdesc
  obtain hfree | hjoins := horder
  · have hroute : w.routeLocate d fr syndromes = w.enqueue d syndromes := by
      simp only [State.routeLocate, hfree]; rfl
    rw [hroute] at hexec
    exact ⟨_, hexec, ⟨rfl, rfl, rfl⟩, hdesc, hothers, rfl, fun _ => hchains, fun h => by simp [hfree] at h,
      hw.bytes.of_sameReads fun _ => rfl, (((hsame.trans (w.enqueue_sameBut d syndromes)).trans
        (State.endReception_sameBut _ _)).mono (by decide)).settle⟩
  · have hroute : w.routeLocate d fr syndromes = (w.enqueue d syndromes).joinChain d fr := by
      have hoverflow : w.overflows fr = false := by
        have hlength := hjoins.2
        simp only [State.overflows, decide_eq_false_iff_not, hchains]
        omega
      simp only [State.routeLocate, hjoins.1, hoverflow]; rfl
    rw [hroute] at hexec
    refine ⟨_, hexec, ⟨rfl, rfl, rfl⟩, hdesc, hothers, rfl, fun h => by simp [hjoins.1] at h, fun _ g => ?_,
      hw.bytes.of_sameReads fun _ => rfl, ((((hsame.trans (w.enqueue_sameBut d syndromes)).trans
        (State.joinChain_sameBut _ d fr)).trans (State.endReception_sameBut _ _)).mono (by decide)).settle⟩
    simp [State.joinChain, State.enqueue, hchains]

/-- Settles O36: a failed frame counts and raises its failure, and its policy frees it or routes it. -/
theorem failedFramesFollowTheirPolicy : Obligations.FailedFramesFollowTheirPolicy := by
  intro s d fr snap payload hslot hfailed
  have hexec := hslot.exec_eq
  rw [hslot.endData_eq.2.1 hfailed] at hexec
  let w := s.arrivePayload d fr payload
  let u := (w.countFlow fr.flow .codeFailed 1).raise .codeFailure
  have hw : s.FrameArrived w d fr payload := s.arrivePayload_frameArrived d fr payload hslot.desc
  have hcounted := (w.countFlow_sameBut fr.flow .codeFailed 1).trans (State.raise_sameBut _ .codeFailure)
  have hu : s.FrameArrived u d fr payload := hw.of_sameBut hcounted (by decide)
  have hsame : s.SameBut u _ := (s.arrivePayload_sameBut d fr payload).trans hcounted
  have hfirst : s.FlowCounted (w.countFlow fr.flow .codeFailed 1) fr.flow (fun k => k.count .codeFailed 1) :=
    w.countFlow_counted fr.flow .codeFailed 1
  have hcount : s.FlowCounted u fr.flow (fun k => k.count .codeFailed 1) :=
    hfirst.of_sameBut (State.raise_sameBut _ _) (by decide)
  have hraised (v : State) (hv : v.events = u.events) : s.RaisedOnce v .codeFailure :=
    State.RaisedOnce.of_events s v (w.countFlow fr.flow .codeFailed 1) _ rfl hv
  refine ⟨fun hpolicy => ?drop, fun hpolicy hon => ?onward, fun hpolicy hchain hjoins => ?held⟩
  case drop =>
    have hroute : w.failAtFrameEnd d fr = u.releaseDropped d := by
      simp only [State.failAtFrameEnd, State.routeFailed, hslot.entry_eq, hpolicy]; rfl
    rw [hroute] at hexec
    obtain ⟨hended, hfreed, hothers, hbytes⟩ := hu.released (u := u.releaseDropped d) rfl (by simp) (by simp)
    have hlast := (u.releaseDropped_sameBut_counted d).trans (State.endReception_sameBut _ .between)
    obtain ⟨_, _, hdropped⟩ := u.releaseDropped_freed d _ hu.desc
    refine ⟨_, hexec, hended, hfreed, hothers, hbytes, hraised _ (by simp), fun g => ?_,
      ((hsame.trans hlast).mono (by decide)).settle⟩
    have hboth := (hcount.trans hdropped) g
    simpa [Descriptor.countIf, Descriptor.isData, hslot.role] using hboth
  case onward =>
    have hroute : w.failAtFrameEnd d fr = (u.setDamaged d).toForward d := by
      simp only [State.failAtFrameEnd, State.routeFailed, hslot.entry_eq, hpolicy]
      exact State.routeReady_of_goesOn
        (State.goesOn_of_sameBut hon (hsame.trans (u.setDamaged_sameBut d)) (by decide))
    rw [hroute] at hexec
    obtain ⟨hended, hforwarded, hothers, hbytes⟩ := hu.damaged.forwarded
    have hlast := ((u.setDamaged_sameBut d).trans (State.toForward_sameBut _ d)).trans
      (State.endReception_sameBut _ .between)
    exact ⟨_, hexec, hended, ⟨hforwarded.desc, hforwarded.queue, hforwarded.store⟩, hothers,
      ⟨hbytes.others, hbytes.stored⟩, hraised _ rfl, hcount.settled hlast (by decide),
      ((hsame.trans hlast).mono (by decide)).settle⟩
  case held =>
    have hmarked := hsame.trans (u.setDamaged_sameBut d)
    have hchains : ∀ f, (u.setDamaged d).chain f = s.chain f := hmarked.2 .chains (by decide)
    have hroute : w.failAtFrameEnd d fr = (u.setDamaged d).hold d fr := by
      simp only [State.failAtFrameEnd, State.routeFailed, hslot.entry_eq, hpolicy]
      exact State.routeReady_of_joins (by rwa [hchains]) (State.joins_of_sameBut hjoins hmarked (by decide))
    rw [hroute] at hexec
    obtain ⟨hended, hdesc, hothers, hchain, hbytes⟩ :=
      hu.damaged.held (fr' := fr) (hmarked.2 .clock (by decide)) hchains rfl
    have hlast := ((u.setDamaged_sameBut d).trans (State.hold_sameBut _ d fr)).trans
      (State.endReception_sameBut _ .between)
    have hentry : ({ fr with header := withDamaged fr.header } : Descriptor).entry = snap.entry := hslot.entry_eq
    rw [hentry] at hdesc
    exact ⟨_, hexec, hended, hdesc, hothers, hchain, ⟨hbytes.others, hbytes.stored⟩, hraised _ rfl,
      hcount.settled hlast (by decide), ((hsame.trans hlast).mono (by decide)).settle⟩

/-- Settles O37: whatever the outcome has counted and raised, the overflow frees the frame and raises
CHAIN_OVERFLOW. -/
theorem overflowingFramesAreFreed : Obligations.OverflowingFramesAreFreed := by
  intro s d fr snap payload hslot horder hdepth houtcome
  have hexec := hslot.exec_eq
  rw [← hslot.entry_eq] at horder hdepth
  obtain hlocate | ⟨hchain, hready | ⟨hfailed, hpolicy⟩⟩ := houtcome
  case inl =>
    rw [hslot.endData_eq.2.2 hlocate] at hexec
    have hw := s.arrivePayload_frameArrived d fr payload hslot.desc
    have hsame := s.arrivePayload_sameBut d fr payload
    have hroute : (s.arrivePayload d fr payload).routeLocate d fr (syndromesOf snap.entry.strength.t payload) =
        (s.arrivePayload d fr payload).dropOverflow d := by
      have hoverflow : (s.arrivePayload d fr payload).overflows fr = true := by
        simpa [State.overflows, hsame.2 .chains (by decide) fr.flow] using hdepth
      simp only [State.routeLocate, horder, hoverflow, if_true]
    rw [hroute] at hexec
    obtain ⟨hended, hfreed, hothers, hbytes, hcount, hevents, hframe⟩ :=
      hw.overflowed (change := id) hslot.isData (fun g => by simp [hsame.2 .flowCounters (by decide) g])
        (hsame.mono (m := .events :: dataPieces) (by decide))
    refine ⟨_, hexec, hended, hfreed, hothers, by simpa [hlocate] using hbytes,
      by simpa [hlocate, DataOutcome.count] using hcount,
      fun _ => State.RaisedOnce.of_events s _ (s.arrivePayload d fr payload) _ rfl hevents,
      fun h => by simp [hlocate] at h, hframe.mono (by decide)⟩
  case inr.inl =>
    rw [hslot.endData_eq.1 hready] at hexec
    let w := s.arriveStored d fr payload (storedPayload snap.entry payload)
    let u := w.countFlow fr.flow .clean 1
    have hw : s.FrameArrived w d fr (storedPayload snap.entry payload) :=
      s.arriveStored_frameArrived hslot.desc payload _
    have hu : s.FrameArrived u d fr (storedPayload snap.entry payload) :=
      hw.of_sameBut (w.countFlow_sameBut _ _ _) (by decide)
    have hsame : s.SameBut u _ := (s.arriveStored_sameBut d fr payload _).trans (w.countFlow_sameBut fr.flow .clean 1)
    have hchains : ∀ f, u.chain f = s.chain f := hsame.2 .chains (by decide)
    have hroute : w.readyAtFrameEnd d fr = u.dropOverflow d :=
      State.routeReady_of_overflow horder (by rwa [hchains]) (by rwa [hchains])
    rw [hroute] at hexec
    obtain ⟨hended, hfreed, hothers, hbytes, hcount, hevents, hframe⟩ :=
      hu.overflowed hslot.isData (change := fun k => k.count .clean 1) (w.countFlow_counted fr.flow .clean 1)
        (hsame.mono (m := .events :: dataPieces) (by decide))
    refine ⟨_, hexec, hended, hfreed, hothers, by simpa [hready] using hbytes,
      by simpa [hready, DataOutcome.count] using hcount,
      fun _ => State.RaisedOnce.of_events s _ u _ rfl hevents, fun h => by simp [hready] at h,
      hframe.mono (by decide)⟩
  case inr.inr =>
    rw [hslot.endData_eq.2.1 hfailed] at hexec
    let w := s.arrivePayload d fr payload
    let u := ((w.countFlow fr.flow .codeFailed 1).raise .codeFailure).setDamaged d
    have hw : s.FrameArrived w d fr payload := s.arrivePayload_frameArrived d fr payload hslot.desc
    have hcounted := (w.countFlow_sameBut fr.flow .codeFailed 1).trans (State.raise_sameBut _ .codeFailure)
    have hu := (hw.of_sameBut hcounted (by decide)).damaged
    have hsame : s.SameBut u _ :=
      ((s.arrivePayload_sameBut d fr payload).trans hcounted).trans (State.setDamaged_sameBut _ d)
    have hchains : ∀ f, u.chain f = s.chain f := hsame.2 .chains (by decide)
    have hfirst : s.FlowCounted (w.countFlow fr.flow .codeFailed 1) fr.flow
        (fun k => k.count .codeFailed 1) := w.countFlow_counted fr.flow .codeFailed 1
    have hroute : w.failAtFrameEnd d fr = u.dropOverflow d := by
      simp only [State.failAtFrameEnd, State.routeFailed, hslot.entry_eq, hpolicy]
      exact State.routeReady_of_overflow horder (by rwa [hchains]) (by rwa [hchains])
    rw [hroute] at hexec
    obtain ⟨hended, hfreed, hothers, hbytes, hcount, hevents, hframe⟩ :=
      State.FrameArrived.overflowed (w := u) hu hslot.isData (change := fun k => k.count .codeFailed 1)
        (hfirst.of_sameBut ((State.raise_sameBut _ _).trans (State.setDamaged_sameBut _ d)) (by decide))
        (hsame.mono (m := .events :: dataPieces) (by decide))
    have hraises : (u.raise .chainOverflow).events = ((s.raise .codeFailure).raise .chainOverflow).events :=
      State.raise_events_congr _ _ _ (State.raise_events_congr _ _ _ rfl)
    refine ⟨_, hexec, hended, ⟨hfreed.free, hfreed.descs, hfreed.cells, hfreed.holdOut⟩, hothers,
      by simpa [hfailed] using (⟨hbytes.others, hbytes.stored⟩ : s.PayloadStored _ fr payload),
      by simpa [hfailed, DataOutcome.count, Descriptor.flow, withDamaged] using hcount, fun h => absurd hfailed h,
      fun _ => hevents.trans hraises, hframe.mono (by decide)⟩

end
end

section
/-! The tables: fates, code faults, stored lengths and thresholds, what leaves on the line, and the formats of
chapter 11. -/

namespace Sys2Proof.Machine

/-! ### Headers -/

theorem kind_eq (h : HeaderBytes) : (h.kindFlags.extractLsb' 4 4).toNat = h.kindFlags.toNat / 16 := by
  have hlt := h.kindFlags.isLt
  simp only [BitVec.extractLsb'_toNat, Nat.shiftRight_eq_div_pow]
  omega

theorem FrameKind.ofNibble_foreign {n : Nat} (h : n = 0 ∨ 7 ≤ n) : FrameKind.ofNibble n = .foreign := by
  unfold FrameKind.ofNibble
  split
  case h_7 => rfl
  all_goals omega

/-- Setting DAMAGED sets bit 3 and keeps every other bit. -/
theorem withDamaged_bit (h : HeaderBytes) (i : Nat) (hi : i < 8) :
    ((withDamaged h).kindFlags.getLsbD i = true ↔ i = 3 ∨ h.kindFlags.getLsbD i = true) := by
  have hbit : (0x08#8).getLsbD i = decide (i = 3) := by
    interval_cases i <;> decide
  simp [withDamaged, hbit, or_comm]

/-! ### Fates (R9) -/

variable {a : Byte} {h : HeaderBytes}

theorem fateOf_stripped (hown : isNodeAddress a = true) (hsource : h.source = a) (hkind : frameKind h ≠ .token) :
    fateOf a h = .loopStripped := if_pos ⟨hown, hsource, hkind⟩

theorem fateOf_token (hkind : frameKind h = .token) : fateOf a h = .tokenConsumed := by
  simp [fateOf, hkind]

theorem fateOf_of_other (hother : ¬(isNodeAddress a = true ∧ h.source = a)) :
    fateOf a h = match frameKind h with
      | .token => .tokenConsumed
      | .request =>
        if (isNodeAddress a ∧ h.destination = a) ∨ h.destination = Config.broadcast then
          .kept .request
        else .kept .forwardedOther
      | .enumeration =>
        if h.destination = Config.broadcast then .kept .enumeration else .kept .forwardedOther
      | .data => .classified
      | .response => .kept .forwardedOther
      | .notice => .kept .forwardedOther
      | .foreign => .kept .forwardedOther := by
  unfold fateOf
  refine (if_neg fun hall => hother ⟨hall.1, hall.2.1⟩).trans ?_
  cases frameKind h <;> rfl

/-! ### Code faults and stored lengths (R27, R57) -/

theorem codeFault_of_syndromes (e : FlowEntry) (h : HeaderBytes)
    (haction : e.action = .check ∨ e.action = .correct ∨ e.action = .strip) :
    (codeFault e h = true ↔ h.code.toNat ≠ e.strength.t ∨ h.length.toNat < 2 * e.strength.t + 1) := by
  obtain ha | ha | ha := haction <;> simp [codeFault, ha, headerLength]

theorem codeFault_of_encode (e : FlowEntry) (h : HeaderBytes) (haction : e.action = .encode) :
    (codeFault e h = true ↔ h.code ≠ 0 ∨ h.length = 0 ∨ 255 - 2 * e.strength.t < h.length.toNat) := by
  have hzero : h.length = 0 ↔ h.length.toNat = 0 := by rw [← BitVec.toNat_inj]; rfl
  simp only [codeFault, haction, headerLength, decide_eq_true_eq, hzero, gt_iff_lt]

theorem storedLengthOf_data (e : FlowEntry) (g : Half) (h : HeaderBytes) :
    storedLengthOf (.data ⟨e, g⟩) h =
      if e.action = .encode ∧ h.code = 0 ∧ 1 ≤ headerLength h ∧ headerLength h ≤ 255 - 2 * e.strength.t
      then headerLength h + 2 * e.strength.t else headerLength h := by
  by_cases haction : e.action = .encode
  · have hfault : codeFault e h = false ↔
        h.code = 0 ∧ 1 ≤ headerLength h ∧ headerLength h ≤ 255 - 2 * e.strength.t := by
      simp only [codeFault, haction, decide_eq_false_iff_not, not_or, ne_eq, not_not, not_lt, gt_iff_lt,
        Nat.one_le_iff_ne_zero]
    simp [storedLengthOf, haction, hfault]
  · simp [storedLengthOf, haction]

theorem strength_le (t : Strength) : t.t ≤ 8 := by cases t <;> decide

theorem headerLength_le (h : HeaderBytes) : headerLength h ≤ 255 := by
  have hlt := h.length.isLt
  simp only [headerLength]
  omega

theorem storedLengthOf_le (role : Role) (h : HeaderBytes) : storedLengthOf role h ≤ 255 := by
  have hle := headerLength_le h
  cases role with
  | data snap =>
    have ht := strength_le snap.entry.strength
    rw [storedLengthOf_data]
    split <;> omega
  | _ => exact hle

/-! ### HOLD_OUT (R33) -/

theorem nextHoldOut_true (cells descs : Nat) :
    nextHoldOut true cells descs = !decide (24 ≤ cells ∧ 8 ≤ descs) := rfl

theorem nextHoldOut_false (cells descs : Nat) :
    nextHoldOut false cells descs = decide (cells < 16 ∨ descs < 4) := rfl

/-! ### Formats -/

theorem FlowEntry.valid_iff (e : FlowEntry) : e.valid = true ↔ e.InRange := by
  have huncoded : e.action.uncoded = true ↔ e.action = .forward ∨ e.action = .discard := by
    cases e.action <;> decide
  simp only [FlowEntry.valid, FlowEntry.InRange, decide_eq_true_eq, huncoded]
  tauto

theorem Timing.valid_iff (tm : Timing) : tm.valid = true ↔ tm.InRange := by
  simp only [Timing.valid, Timing.InRange, decide_eq_true_eq, Nat.dvd_iff_mod_eq_zero]
  omega

theorem value16_bytes (n : Nat) (hn : n ≤ 65535) : value16 (byteOf (n / 256)) (byteOf n) = n := by
  simp only [value16, byteOf, BitVec.toNat_ofNat]
  omega

theorem bytes16_value (hi lo : Byte) : bytes16 (value16 hi lo) = [hi, lo] := by
  have hh := hi.isLt
  have hl := lo.isLt
  simp only [bytes16, value16, byteOf, List.cons.injEq, and_true, ← BitVec.toNat_inj, BitVec.toNat_ofNat]
  omega

theorem byteOf_toNat (b : Byte) : byteOf b.toNat = b := by simp [byteOf]

theorem toNat_byteOf_le {n : Nat} (hn : n ≤ 255) : (byteOf n).toNat = n := by
  simp only [byteOf, BitVec.toNat_ofNat]
  omega

theorem encodeEntry_eq_layout (e : FlowEntry) : encodeEntry e = entryLayout e := by
  obtain ⟨action, strength, order, depth, limit, policy⟩ := e
  cases action <;> cases strength <;> cases order <;> cases policy <;> rfl

theorem decodeAction_code (a : Action) : decodeAction a.code = some a := by cases a <;> rfl

theorem decodeStrength_byte (t : Strength) : decodeStrength (byteOf t.t) = some t := by cases t <;> rfl

theorem decodeOrder_code (o : FlowOrder) : decodeOrder o.code = some o := by cases o <;> rfl

theorem decodePolicy_code (p : Policy) : decodePolicy p.code = some p := by cases p <;> rfl

theorem decodeEntry_encodeEntry (e : FlowEntry) (hvalid : e.valid = true) :
    decodeEntry (encodeEntry e) = some e := by
  obtain ⟨-, -, hdepth, -, hlimit⟩ := of_decide_eq_true hvalid
  have hd : (byteOf e.holdDepth).toNat = e.holdDepth := toNat_byteOf_le (by omega)
  simp [encodeEntry, bytes16, decodeEntry, decodeAction_code, decodeStrength_byte, decodeOrder_code,
    decodePolicy_code, hd, value16_bytes e.holdLimit hlimit, hvalid]

theorem code_of_decodeAction {b : Byte} {a : Action} (h : decodeAction b = some a) : a.code = b := by
  unfold decodeAction at h
  split at h <;> cases h <;> exact (eq_of_toNat ‹_›).symm

theorem byte_of_decodeStrength {b : Byte} {t : Strength} (h : decodeStrength b = some t) :
    byteOf t.t = b := by
  unfold decodeStrength at h
  split at h <;> cases h <;> exact (eq_of_toNat ‹_›).symm

theorem code_of_decodeOrder {b : Byte} {o : FlowOrder} (h : decodeOrder b = some o) : o.code = b := by
  unfold decodeOrder at h
  split at h <;> cases h <;> exact (eq_of_toNat ‹_›).symm

theorem code_of_decodePolicy {b : Byte} {p : Policy} (h : decodePolicy b = some p) : p.code = b := by
  unfold decodePolicy at h
  split at h <;> cases h <;> exact (eq_of_toNat ‹_›).symm

/-- An encoding that is accepted is the encoding of its entry, which is valid (R39, R179). -/
theorem encodeEntry_of_decodeEntry {bytes : List Byte} {e : FlowEntry} (h : decodeEntry bytes = some e) :
    encodeEntry e = bytes ∧ e.valid = true := by
  unfold decodeEntry at h
  split at h
  · next a t o d hi lo p =>
    simp only [Option.bind_eq_bind, Option.bind_eq_some_iff] at h
    obtain ⟨action, ha, strength, ht, order, ho, policy, hp, h⟩ := h
    split at h
    · next hvalid =>
      obtain rfl := Option.some.inj h
      refine ⟨?_, hvalid⟩
      simp [encodeEntry, code_of_decodeAction ha, byte_of_decodeStrength ht, code_of_decodeOrder ho,
        code_of_decodePolicy hp, bytes16_value, byteOf_toNat]
    · cases h
  · cases h

theorem decodeTiming_encodeTiming (tm : Timing) (hvalid : tm.valid = true) :
    decodeTiming (encodeTiming tm) = some tm := by
  obtain ⟨-, hperiod, -, -, hdue, -, hoverdue, -, hlimit, -, hretry⟩ := of_decide_eq_true hvalid
  have hd : (byteOf tm.dueThreshold).toNat = tm.dueThreshold := toNat_byteOf_le (by omega)
  have ho : (byteOf tm.overdueThreshold).toNat = tm.overdueThreshold := toNat_byteOf_le (by omega)
  have hr : (byteOf tm.retryInterval).toNat = tm.retryInterval := toNat_byteOf_le hretry
  simp [encodeTiming, bytes16, decodeTiming, hd, ho, hr, value16_bytes tm.period (by omega),
    value16_bytes tm.holdLimit hlimit, hvalid]

theorem encodeTiming_of_decodeTiming {bytes : List Byte} {tm : Timing} (h : decodeTiming bytes = some tm) :
    encodeTiming tm = bytes ∧ tm.valid = true := by
  unfold decodeTiming at h
  split at h
  · dsimp only at h
    split at h
    · next hvalid =>
      obtain rfl := Option.some.inj h
      refine ⟨?_, hvalid⟩
      simp [encodeTiming, bytes16_value, byteOf_toNat]
    · cases h
  · cases h

/-! ### Checks (R178) -/

theorem checkBit_eq {w : Nat} (poly reg : BitVec w) (bit : Bool) :
    checkBit poly reg bit = registerAfterBit poly reg bit := by
  simp [checkBit, registerAfterBit, BitVec.msb_eq_getLsbD_last, Bool.bne_eq_xor]

theorem checkBytes_append {w : Nat} (poly init : BitVec w) (bytes : List Byte) (b : Byte) :
    checkBytes poly init (bytes ++ [b]) = registerAfterByte poly (checkBytes poly init bytes) b := by
  have hbit : checkBit poly = registerAfterBit poly := by
    funext reg bit
    exact checkBit_eq poly reg bit
  simp [checkBytes, registerAfterByte, bitsOf, hbit]

theorem headerCheckPasses_iff (h : HeaderBytes) :
    headerCheckPasses h = true ↔ h.check = headerCrc (checkedBytes h) := by
  rw [headerCheckPasses, beq_iff_eq, eq_comm]

theorem payloadCheckPasses_iff (p : List Byte) :
    payloadCheckPasses p = true ↔ ∃ body, p = withPayloadCheck body := by
  constructor
  · exact fun h => ⟨_, eq_withPayloadCheck_of_passes h⟩
  · rintro ⟨body, rfl⟩
    exact payloadCheckPasses_withPayloadCheck body

end Sys2Proof.Machine

section

open Sys2Proof Sys2Proof.Machine

/-- Settles O25: the rows of the table are the branches of `fateOf`. -/
theorem fatesFollowTheTable : Obligations.FatesFollowTheTable := by
  refine ⟨nodeAddress_iff, fun h => ?headers, fun a h => ?fates⟩
  case headers =>
    dsimp only
    rw [kind_eq]
    refine ⟨fun hk => ?_, fun hk => ?_, fun hk => ?_, fun hk => ?_, fun hk => ?_, fun hk => ?_, fun hk => ?_,
      Iff.rfl, rfl, withDamaged_bit h⟩
    case refine_7 => exact FrameKind.ofNibble_foreign hk
    all_goals rw [frameKind, hk]; rfl
  case fates =>
    refine ⟨fun ⟨hown, hsource, hkind⟩ => fateOf_stripped hown hsource hkind, fateOf_token, fun hother => ?_⟩
    rw [fateOf_of_other hother]
    refine ⟨fun hk hdest => ?_, fun hk hdest => ?_, fun hk => ?_, fun hk hown hdest => ?_, fun hk hdest => ?_,
      fun hk => ?_⟩
    · rw [hk]; exact if_pos hdest
    · rw [hk]; exact if_pos hdest
    · rw [hk]
    · rw [hk]; exact if_neg (not_or.mpr ⟨hown, hdest⟩)
    · rw [hk]; exact if_neg hdest
    · simp only [List.mem_cons, List.not_mem_nil, or_false] at hk
      obtain hk | hk | hk := hk <;> rw [hk]

/-- Settles O30, table by table. -/
theorem storedLengthsCellsAndHoldOutThresholds : Obligations.StoredLengthsCellsAndHoldOutThresholds := by
  refine ⟨fun e h => ⟨fun ha => by simp [codeFault, ha], codeFault_of_syndromes e h, codeFault_of_encode e h⟩,
    fun e g h => ⟨fun hfault => by simp [codeUnitFor, hfault], fun hfault => ⟨fun ha => ?syndromes,
      fun ha => by simp [codeUnitFor, hfault, ha], fun ha => by simp [codeUnitFor, hfault, ha]⟩, rfl, rfl, rfl⟩,
    fun fr snap hrole => by simp [Descriptor.entry, hrole], storedLengthOf_data,
    fun h => ⟨rfl, rfl, rfl⟩, storedLengthOf_le, fun n hn => ?cells, fun cells descs => ⟨fun h b => ?assert,
      fun h b => ?release, fun h b => ?between⟩⟩
  case syndromes => obtain ha | ha | ha := ha <;> simp [codeUnitFor, hfault, ha]
  case cells =>
    simp only [cellsNeeded, Config.headerBytes, Config.cellBytes]
    split_ifs <;> omega
  case assert =>
    cases b with
    | true => rw [nextHoldOut_true, decide_eq_false (by omega)]; rfl
    | false => rw [nextHoldOut_false, decide_eq_true h]
  case release =>
    cases b with
    | true => rw [nextHoldOut_true, decide_eq_true h]; rfl
    | false => rw [nextHoldOut_false, decide_eq_false (by omega)]
  case between =>
    cases b with
    | true => rw [nextHoldOut_true, decide_eq_false (by omega)]; rfl
    | false => rw [nextHoldOut_false, decide_eq_false (by omega)]

/-- Settles O49, by role and action. -/
theorem stripAndEncodeFramesAreRewrittenAsTheyLeave :
    Obligations.StripAndEncodeFramesAreRewrittenAsTheyLeave := by
  intro fr hlength
  refine ⟨fun e g hrole => ?data, fun hrole => ?other⟩
  case data =>
    rw [hrole] at hlength
    refine ⟨fun ha hd _ => ?strip, fun ha hf ht => ⟨?encode, ?fits⟩, fun ha hf => ?fault, fun ha hd => ?damaged,
      fun ha => ?held⟩
    case strip => simp [outgoing, hrole, ha, hd]
    case encode =>
      have hstored : fr.storedLength ≠ headerLength fr.header := by
        rw [hlength, storedLengthOf, if_pos ⟨ha, hf⟩]
        show headerLength fr.header + 2 * e.strength.t ≠ headerLength fr.header
        omega
      simp [outgoing, hrole, ha, hstored]
    case fits =>
      have hle := storedLengthOf_le (.data ⟨e, g⟩) fr.header
      rwa [storedLengthOf, if_pos ⟨ha, hf⟩] at hle
    case fault =>
      have hstored : fr.storedLength = headerLength fr.header := by
        rw [hlength, storedLengthOf]
        exact if_neg fun h => by simp [hf] at h
      simp [outgoing, hrole, ha, hstored]
    case damaged => simp [outgoing, hrole, ha, hd]
    case held => obtain ha | ha | ha := ha <;> simp [outgoing, hrole, ha]
  case other =>
    simp only [List.mem_cons, List.not_mem_nil, or_false] at hrole
    obtain hrole | hrole | hrole := hrole <;> simp [outgoing, hrole]

/-- Settles O60, format by format. -/
theorem formatsDecodeAsTheyAreEncoded : Obligations.FormatsDecodeAsTheyAreEncoded := by
  refine ⟨fun e => ⟨e.valid_iff, encodeEntry_eq_layout e, decodeEntry_encodeEntry e⟩,
    fun bytes e => encodeEntry_of_decodeEntry, fun tm => ⟨tm.valid_iff, rfl, decodeTiming_encodeTiming tm⟩,
    fun bytes tm => encodeTiming_of_decodeTiming,
    fun bytes b => ⟨rfl, checkBytes_append _ _ bytes b, rfl, checkBytes_append _ _ bytes b⟩,
    fun h => ⟨rfl, rfl, rfl, headerCheckPasses_iff h, rfl, (headerCheckPasses_iff _).mpr rfl⟩,
    fun p => ⟨payloadCheckPasses_iff p, rfl, payloadCheckPasses_withPayloadCheck p, fun _ => rfl⟩,
    fun st => by cases st <;> rfl, fun n => ⟨rfl, rfl⟩, rfl, rfl, fun c => by cases c <;> rfl⟩

end
end

section
/-! Pickup, the scheduler's timers, transmission starts and completions. -/

namespace Sys2Proof.Machine

variable {s t : State} {d : DescId} {fr : Descriptor}

/-! ### Starts (R104, R105, R109) -/

theorem State.mayStart_iff (s : State) : s.egress.nonTokenMayStart = true ↔ s.mayStart := by
  simp [Egress.nonTokenMayStart, State.mayStart]

theorem State.not_mayStart_iff (s : State) : s.egress.nonTokenMayStart = false ↔ ¬s.mayStart := by
  rw [← s.mayStart_iff, Bool.not_eq_true]

/-- The header of a frame the part originates, its check computed afresh. -/
theorem ownHeader_eq (destination source length sequence : Byte) (kind : FrameKind) :
    ownHeader destination source kind length sequence =
      withHeaderCheck ⟨destination, source, byteOf (16 * kind.nibble), 0, 0, length, sequence, 0⟩ := rfl

theorem State.send_transmitter (s : State) (source : TxSource) (h : HeaderBytes) (payload : List Byte) :
    (s.send source (withHeaderCheck h) payload).egress.transmitter = some (s.frameNow source h payload) := rfl

/-! ### The notice candidate (R108) -/

theorem olderClass_of_noNotice (h : s.noNotice) (best : Option EventClass) (c : EventClass) :
    olderClass s best c = best := by
  simp [olderClass, h c]

theorem State.noticeCandidate_of_noNotice (h : s.noNotice) : s.noticeCandidate = none := by
  have hall (l : List EventClass) (best : Option EventClass) : l.foldl (olderClass s) best = best := by
    induction l with
    | nil => rfl
    | cons c l ih => rw [List.foldl_cons, olderClass_of_noNotice h, ih]
  exact hall allClasses none

/-- The class waits, and longer than every other that waits. -/
def State.WaitsLongest (s : State) (c : EventClass) (a : Nat) : Prop :=
  (s.classState c).entry.waitingAge = some a ∧
    ∀ e b, e ≠ c → (s.classState e).entry.waitingAge = some b → a < b

theorem olderClass_longest {c : EventClass} {a : Nat} (h : s.WaitsLongest c a) (e : EventClass) :
    olderClass s (some c) e = some c := by
  obtain ⟨hc, holder⟩ := h
  unfold olderClass
  split
  · rfl
  · next b hb =>
    simp only [hc]
    by_cases heq : e = c
    · rw [heq]; split <;> rfl
    · have := holder e b heq hb
      rw [if_neg (by omega)]

theorem olderClass_takes_longest {c : EventClass} {a : Nat} (h : s.WaitsLongest c a) (best : Option EventClass) :
    olderClass s best c = some c := by
  obtain ⟨hc, holder⟩ := h
  cases best with
  | none => simp [olderClass, hc]
  | some b =>
    by_cases heq : b = c
    · rw [heq, olderClass_longest ⟨hc, holder⟩]
    · cases hb : (s.classState b).entry.waitingAge with
      | none => simp [olderClass, hc, hb]
      | some ab => simp [olderClass, hc, hb, holder b ab heq hb]

theorem State.noticeCandidate_of_longest {c : EventClass} {a : Nat} (h : s.WaitsLongest c a) :
    s.noticeCandidate = some c := by
  have hkeeps (l : List EventClass) : l.foldl (olderClass s) (some c) = some c := by
    induction l with
    | nil => rfl
    | cons e l ih => rw [List.foldl_cons, olderClass_longest h, ih]
  have htakes (l : List EventClass) (best : Option EventClass) (hmem : c ∈ l) :
      l.foldl (olderClass s) best = some c := by
    induction l generalizing best with
    | nil => cases hmem
    | cons e l ih =>
      rw [List.foldl_cons]
      by_cases heq : e = c
      · rw [heq, olderClass_takes_longest h, hkeeps]
      · exact ih _ ((List.mem_cons.mp hmem).resolve_left fun h => heq h.symm)
  exact htakes allClasses none (by cases c <;> decide)

/-! ### What the arbiter chooses (R109) -/

theorem State.chosen_of_closed (h : ¬s.mayStart) : s.chosen = if 1 ≤ s.egress.debt then some .token else none := by
  simp only [State.chosen, s.not_mayStart_iff.mpr h, Bool.false_and, Bool.false_eq_true, if_false]
  split
  · next hdue => rw [if_pos hdue.2]
  · rfl

theorem State.chosen_of_response {q : QueuedResponse} {rest : List QueuedResponse} (h : s.mayStart)
    (hqueue : s.management.responses = q :: rest) : s.chosen = some .response := by
  simp [State.chosen, s.mayStart_iff.mpr h, hqueue]

theorem State.chosen_of_due (hempty : s.management.responses = []) (hdebt : 1 ≤ s.egress.debt)
    (hdue : s.egress.timing.dueThreshold ≤ s.egress.debt) : s.chosen = some .token := by
  simp [State.chosen, hempty, hdebt, hdue]

/-- With no response and no token due the notice goes first, then the forward queue, then an early token. -/
theorem State.chosen_of_open (h : s.mayStart) (hempty : s.management.responses = [])
    (hdue : s.egress.debt = 0 ∨ s.egress.debt < s.egress.timing.dueThreshold) :
    s.chosen = match s.noticeCandidate, s.egress.forwardQueue with
      | some c, _ => some (.notice c)
      | none, d :: _ => some (.forward d)
      | none, [] => if 1 ≤ s.egress.debt then some .token else none := by
  have hnot : ¬(s.egress.timing.dueThreshold ≤ s.egress.debt ∧ 1 ≤ s.egress.debt) := by omega
  simp only [State.chosen, s.mayStart_iff.mpr h, hempty, List.isEmpty_nil, Bool.not_true, Bool.and_false,
    Bool.false_eq_true, if_false, if_neg hnot]
  cases s.noticeCandidate with
  | some c => rfl
  | none => cases s.egress.forwardQueue <;> rfl

theorem State.startForward_desc? (s : State) (d x : DescId) (fr : Descriptor) :
    (s.startForward d fr).desc? x =
      if x = d then (s.desc? d).map (fun fr => { fr with place := .sending }) else s.desc? x :=
  State.setPlace_desc? { s.consumePermission with egress := { s.consumePermission.egress with
    forwardQueue := s.consumePermission.egress.forwardQueue.tail } } d x .sending

/-! ### Completions (R106) -/

/-- An entry that does not wait with the sequence sent stays as it stands (R160). -/
theorem NoticeEntry.completed_of_other {e : NoticeEntry} {q : Byte} (due : Nat)
    (h : ∀ n r a, e ≠ .pendingSend q n r a) : e.completed q due = e := by
  cases e with
  | pendingSend q' n r a =>
    have hne : q' ≠ q := fun heq => h n r a (by rw [heq])
    simp [NoticeEntry.completed, hne]
  | _ => rfl

theorem State.putEntry_classState_same {s : State} (c : EventClass) {e : NoticeEntry}
    (h : e = (s.classState c).entry) : (s.putEntry c e).classState c = s.classState c := by
  simp [h]

theorem exec_completion_token {tx : Transmission} (received : List Byte) (htx : s.egress.transmitter = some tx)
    (hsource : tx.source = .token) : exec (.transmissionCompletion received) s = .next
      ((s.advanceTo tx.endsAt).idleTransmitter.completeToken.resetIfDue received).settle := by
  simp [exec, execTransmissionCompletion, htx, hsource, State.done]

theorem exec_completion_response {tx : Transmission} (received : List Byte)
    (htx : s.egress.transmitter = some tx) (hsource : tx.source = .response) :
    exec (.transmissionCompletion received) s = .next
      ((s.advanceTo tx.endsAt).idleTransmitter.completeResponse.resetIfDue received).settle := by
  simp [exec, execTransmissionCompletion, htx, hsource, State.done]

theorem exec_completion_notice {tx : Transmission} (received : List Byte) {c : EventClass} {q : Byte}
    (htx : s.egress.transmitter = some tx) (hsource : tx.source = .notice c q) :
    exec (.transmissionCompletion received) s = .next
      (((s.advanceTo tx.endsAt).idleTransmitter.completeNotice c q).resetIfDue received).settle := by
  simp [exec, execTransmissionCompletion, htx, hsource, State.done]

theorem exec_completion_forward {tx : Transmission} (received : List Byte)
    (htx : s.egress.transmitter = some tx) (hsource : tx.source = .forward d) (hd : s.desc? d = some fr) :
    exec (.transmissionCompletion received) s = .next
      (((s.advanceTo tx.endsAt).idleTransmitter.completeForward d fr).resetIfDue received).settle := by
  simp [exec, execTransmissionCompletion, htx, hsource, hd, State.done]

theorem State.completeResponse_pending {q : QueuedResponse} {rest : List QueuedResponse}
    (hqueue : s.management.responses = q :: rest) :
    s.completeResponse.management.responses = rest ∧
      s.completeResponse.management.pendingReset = s.management.pendingReset.map (fun p =>
        if q.resetMark then { p with responseOutstanding := false } else p) := by
  unfold State.completeResponse
  simp only [hqueue]
  cases hq : q.resetMark with
  | true => exact ⟨by simp [State.updatePending], by simp [State.updatePending]; rfl⟩
  | false => simp

theorem State.completeForward_pending (s : State) (d : DescId) (fr : Descriptor) :
    (s.completeForward d fr).management.pendingReset = s.management.pendingReset.map (fun p =>
      if fr.role = .request ∧ p.copyOutstanding = some d then { p with copyOutstanding := none } else p) := by
  unfold State.completeForward
  by_cases hrole : fr.role = .request
  · simp only [hrole, if_true, State.updatePending, State.releaseSent_management, true_and]
    congr 1
    funext p
    by_cases hp : p.copyOutstanding = some d
    · simp [PendingReset.copyLeft, hp]
    · simp [PendingReset.copyLeft, hp]
  · simp [hrole]

/-- A pending reset of the scope given has nothing outstanding any more. -/
def State.DueNow (s : State) (scope : ResetScope) : Prop :=
  ∃ p, s.management.pendingReset = some p ∧ p.isDue = true ∧ p.scope = scope

theorem State.resetIfDue_of_due {scope : ResetScope} (received : List Byte) (h : s.DueNow scope) :
    s.resetIfDue received = s.applyReset scope received := by
  obtain ⟨p, hp, hdue, rfl⟩ := h
  simp [State.resetIfDue, hp, hdue]

theorem State.resetIfDue_of_not_due (received : List Byte) (h : ∀ scope, ¬s.DueNow scope) :
    s.resetIfDue received = s := by
  obtain heq | ⟨p, hp, hdue, -⟩ := s.resetIfDue_cases received
  · exact heq
  · exact absurd ⟨p, hp, hdue, rfl⟩ (h p.scope)

section

variable {tx : Transmission} (received : List Byte) (scope : ResetScope)

theorem State.resetTakesEffect_iff (htx : s.egress.transmitter = some tx) :
    s.ResetTakesEffect (.transmissionCompletion received) scope ↔
      ∃ p, s.management.pendingReset = some p ∧ p.scope = scope ∧
        (p.responseOutstanding = false ∨ tx.source = .response ∧
          ∃ q rest, s.management.responses = q :: rest ∧ q.resetMark = true) ∧
        (p.copyOutstanding = none ∨ ∃ d fr, tx.source = .forward d ∧ s.desc? d = some fr ∧
          fr.role = .request ∧ p.copyOutstanding = some d) := by
  constructor
  · rintro ⟨_, tx', p, -, htx', hp, hscope, hresponse, hcopy⟩
    obtain rfl : tx = tx' := Option.some.inj (htx.symm.trans htx')
    exact ⟨p, hp, hscope, hresponse, hcopy⟩
  · rintro ⟨p, hp, hscope, hresponse, hcopy⟩
    exact ⟨received, tx, p, rfl, htx, hp, hscope, hresponse, hcopy⟩

/-- After the completion of a token or a notice, which wait for no departure, what was due is due. -/
theorem State.dueNow_of_kept (htx : s.egress.transmitter = some tx) (hsource : tx.source ≠ .response)
    (hforward : ∀ d, tx.source ≠ .forward d) (ht : t.management = s.management) :
    t.DueNow scope ↔ s.ResetTakesEffect (.transmissionCompletion received) scope := by
  rw [State.resetTakesEffect_iff received scope htx]
  simp only [State.DueNow, ht, PendingReset.isDue_iff, hsource, hforward, false_and, or_false, exists_false]
  exact exists_congr fun p => by tauto

theorem State.dueNow_of_response (htx : s.egress.transmitter = some tx) (hsource : tx.source = .response)
    (ht : t.management = s.completeResponse.management) :
    t.DueNow scope ↔ s.ResetTakesEffect (.transmissionCompletion received) scope := by
  rw [State.resetTakesEffect_iff received scope htx]
  simp only [State.DueNow, ht, PendingReset.isDue_iff, hsource, true_and]
  cases hqueue : s.management.responses with
  | nil =>
    have hsame : s.completeResponse = s := by simp [State.completeResponse, hqueue]
    rw [hsame]
    exact exists_congr fun p => by simp; tauto
  | cons q rest =>
    rw [(State.completeResponse_pending hqueue).2]
    cases hp : s.management.pendingReset with
    | none => simp
    | some p =>
      cases hq : q.resetMark with
      | true => simp [hq]; tauto
      | false => simp [hq]; tauto

theorem State.dueNow_of_forward (htx : s.egress.transmitter = some tx) (hsource : tx.source = .forward d)
    (hd : s.desc? d = some fr) (ht : t.management = (s.completeForward d fr).management) :
    t.DueNow scope ↔ s.ResetTakesEffect (.transmissionCompletion received) scope := by
  rw [State.resetTakesEffect_iff received scope htx]
  have hcopy (p : PendingReset) : (∃ e x, tx.source = .forward e ∧ s.desc? e = some x ∧ x.role = .request ∧
      p.copyOutstanding = some e) ↔ fr.role = .request ∧ p.copyOutstanding = some d := by
    constructor
    · rintro ⟨e, x, he, hx, hrole, hp⟩
      obtain rfl : d = e := by simpa [hsource] using he
      obtain rfl : fr = x := by simpa [hd] using hx
      exact ⟨hrole, hp⟩
    · exact fun ⟨hrole, hp⟩ => ⟨d, fr, hsource, hd, hrole, hp⟩
  simp only [State.DueNow, ht, PendingReset.isDue_iff, hcopy, State.completeForward_pending]
  cases hp : s.management.pendingReset with
  | none => simp
  | some p =>
    by_cases hleaves : fr.role = .request ∧ p.copyOutstanding = some d
    · simp [hsource, hleaves]; tauto
    · simp [hsource, hleaves]; tauto

/-- The pieces that the effect of a completion on its source can change. -/
def completionPieces : List Piece :=
  [.transmitter, .clock, .cadence, .globalCounters, .responses, .pendingReset, .events, .freeLists, .holdOut,
    .descriptors, .flowCounters]

/-- What a transmission completion does to its source (R106). -/
inductive State.Completed (s : State) (tx : Transmission) : State → Prop
  | token (hsource : tx.source = .token) :
      s.Completed tx (s.advanceTo tx.endsAt).idleTransmitter.completeToken
  | response (hsource : tx.source = .response) :
      s.Completed tx (s.advanceTo tx.endsAt).idleTransmitter.completeResponse
  | notice {c q} (hsource : tx.source = .notice c q) :
      s.Completed tx ((s.advanceTo tx.endsAt).idleTransmitter.completeNotice c q)
  | forward {x y} (hsource : tx.source = .forward x) (hd : s.desc? x = some y) :
      s.Completed tx ((s.advanceTo tx.endsAt).idleTransmitter.completeForward x y)

theorem State.Completed.sameBut (h : s.Completed tx t) : s.SameBut t completionPieces := by
  have hidle := (s.advanceTo_sameBut tx.endsAt).trans (State.idleTransmitter_sameBut _)
  cases h with
  | token => exact (hidle.trans (State.completeToken_sameBut _)).mono (by decide)
  | response => exact (hidle.trans (State.completeResponse_sameBut _)).mono (by decide)
  | notice => exact (hidle.trans (State.completeNotice_sameBut _ _ _)).mono (by decide)
  | forward => exact (hidle.trans (State.completeForward_sameBut _ _ _)).mono (by decide)

theorem State.completeResponse_idle (s : State) (n : Nat) :
    (s.advanceTo n).idleTransmitter.completeResponse.management = s.completeResponse.management := by
  unfold State.completeResponse
  simp only [State.idleTransmitter_management, State.advanceTo_management]
  split
  · rfl
  · split <;> rfl

theorem State.completeForward_idle (s : State) (n : Nat) (d : DescId) (fr : Descriptor) :
    ((s.advanceTo n).idleTransmitter.completeForward d fr).management =
      (s.completeForward d fr).management := by
  unfold State.completeForward
  dsimp only
  split <;> simp [State.updatePending]

theorem State.Completed.dueNow_iff (h : s.Completed tx t) (htx : s.egress.transmitter = some tx) :
    t.DueNow scope ↔ s.ResetTakesEffect (.transmissionCompletion received) scope := by
  cases h with
  | token hsource => exact State.dueNow_of_kept received scope htx (by simp [hsource]) (by simp [hsource]) rfl
  | response hsource =>
    exact State.dueNow_of_response received scope htx hsource (s.completeResponse_idle _)
  | notice hsource => exact State.dueNow_of_kept received scope htx (by simp [hsource]) (by simp [hsource]) rfl
  | forward hsource hd =>
    exact State.dueNow_of_forward received scope htx hsource hd (s.completeForward_idle _ _ _)

/-- A completion is its effect on the source, and then the reset that is due. -/
theorem State.Handled.completed {u : State}
    (hu : s.Handled (.transmissionCompletion received) u) :
    ∃ tx v, s.egress.transmitter = some tx ∧ s.Completed tx v ∧ u = v.resetIfDue received := by
  cases hu with
  | completeToken htx hsource => exact ⟨_, _, htx, .token hsource, rfl⟩
  | completeResponse htx hsource => exact ⟨_, _, htx, .response hsource, rfl⟩
  | completeNotice htx hsource => exact ⟨_, _, htx, .notice hsource, rfl⟩
  | completeForward htx hsource hd => exact ⟨_, _, htx, .forward hsource hd, rfl⟩
  | frameEnd hc =>
    obtain hc | ⟨_, _, hc, -⟩ := hc
    · cases hc
    · cases hc

/-- The completion answers its effect on the source where no reset takes effect, and the reset where one
does. -/
theorem State.Completed.exec_eq (h : s.Completed tx t) (htx : s.egress.transmitter = some tx) :
    exec (.transmissionCompletion received) s = .next (t.resetIfDue received).settle := by
  cases h with
  | token hsource => exact exec_completion_token received htx hsource
  | response hsource => exact exec_completion_response received htx hsource
  | notice hsource => exact exec_completion_notice received htx hsource
  | forward hsource hd => exact exec_completion_forward received htx hsource hd

theorem State.Completed.exec_of_no_reset (h : s.Completed tx t) (htx : s.egress.transmitter = some tx)
    (hno : ∀ scope, ¬s.ResetTakesEffect (.transmissionCompletion received) scope) :
    exec (.transmissionCompletion received) s = .next t.settle := by
  rw [h.exec_eq received htx,
    t.resetIfDue_of_not_due received fun scope => mt (h.dueNow_iff received scope htx).mp (hno scope)]

end

end Sys2Proof.Machine

section

open Sys2Proof Sys2Proof.Machine

/-- Settles O41. -/
theorem pickupStartsARunOnTheHead : Obligations.PickupStartsARunOnTheHead := by
  intro s e d rest fr he hqueue hd
  refine ⟨fun hturn => ?_, fun x hx hne => exec_pickup_of_turn hx hne⟩
  have hfirst : s.locator.firstFreed ≠ some (otherEngine e) := by
    intro h
    have := hturn _ h
    cases e <;> cases this
  let v : State := { s with locator := { s.locator with queue := rest, firstFreed := none } }
  have hexec : exec (.pickup e) s =
      .next ((v.setPlace d .locating).setEngine e (some (startRun d fr s.now))).settle := by
    simp [exec, execPickup, he, hqueue, hfirst, hd, State.done, v]
  have hvd : v.desc? d = some fr := hd
  refine ⟨_, hexec, ?queue, ?run, fun x hx => ?otherRun, ?first, ?desc, fun x hx => ?others, ?frame⟩
  case queue => cases e <;> rfl
  case run => cases e <;> rfl
  case otherRun =>
    rw [State.settle_engineRun, State.setEngine_engineRun, if_neg hx]
    cases x <;> rfl
  case first => cases e <;> rfl
  case desc => simp [hvd]
  case others => simp [hx]; rfl
  case frame =>
    exact ((((s.locator_sameBut _).trans (State.setPlace_sameBut v d _)).trans
      (State.setEngine_sameBut _ e _)).mono (by decide)).settle

/-- Settles O47, command by command. -/
theorem holdInAndTheSchedulerTimers : Obligations.HoldInAndTheSchedulerTimers := by
  intro s
  refine ⟨⟨(s.setHoldIn true).settle, rfl, rfl, (s.setHoldIn_sameBut true).settle⟩,
    ⟨(s.setHoldIn false).settle, rfl, rfl, ?release, (s.setHoldIn_sameBut false).settle⟩,
    fun due hdue => ?holdWait, fun hdebt => ?cadence⟩
  case release => simp [State.settle, State.holdWaitRuns, State.setHoldIn]
  case holdWait =>
    let u := ((s.advanceTo due).grantPermission).countGlobal .holdForced
    refine ⟨(u.raise .holdForced).settle, by simp [exec, execHoldWaitExpiry, hdue, State.done, u],
      by simp [State.settle, u], by simp [State.settle, State.holdWaitRuns, u], by simp [u],
      State.RaisedOnce.settle_of (u := u) rfl rfl, ?_⟩
    exact ((((s.advanceTo_sameBut due).trans (State.grantPermission_sameBut _)).trans
      ((State.countGlobal_sameBut _ _).trans (State.raise_sameBut u _))).settle).mono (by decide)
  case cadence =>
    let u : State := { s.advanceTo s.egress.cadenceDue with egress := s.egress.cadenceExpired }
    have hu : s.SameBut u [.clock, .cadence] :=
      (s.advanceTo_sameBut _).trans (State.cadenceExpired_sameBut (s.advanceTo s.egress.cadenceDue))
    have hoverdue : u.egress.overdue = true ↔
        s.egress.overdue = true ∨ s.egress.timing.overdueThreshold ≤ u.egress.debt := by
      simp [u, Egress.cadenceExpired, overdueAfterRise]
    by_cases hslip : s.egress.debt = 8
    · let v := (u.countGlobal .cadenceSlips).raise .cadenceSlip
      have hv : v.egress = u.egress := by simp [v]
      refine ⟨v.settle, ?_, ?_⟩
      · have : Config.debtLimit ≤ s.egress.debt := by rw [hslip]; decide
        simp only [exec, execCadenceExpiry, if_pos this]
        rfl
      · have hfields : v.settle.egress = { u.egress with holdWait := v.settle.egress.holdWait } := by
          simp [State.settle, hv]
        rw [hfields]
        refine ⟨rfl, rfl, hoverdue, rfl, fun h => absurd hslip (by omega), fun _ => ⟨by simp [v, u],
          State.RaisedOnce.settle_of (u := u.countGlobal .cadenceSlips) rfl rfl, ?_⟩⟩
        exact ((hu.trans ((State.countGlobal_sameBut _ _).trans (State.raise_sameBut _ _))).mono
          (by decide)).settle
    · refine ⟨u.settle, ?_, rfl, rfl, hoverdue, rfl, fun _ => (hu.mono (by decide)).settle,
        fun h => absurd h hslip⟩
      have : ¬Config.debtLimit ≤ s.egress.debt := by
        simp only [Config.debtLimit]; omega
      simp only [exec, execCadenceExpiry, if_neg this]
      rfl

/-- Settles O48: `State.chosen` is the first tier whose candidate may start, and each start sends what the
statement says. -/
theorem transmissionStartTakesTheFirstTier : Obligations.TransmissionStartTakesTheFirstTier := by
  intro s hidle
  have token (h : s.chosen = some .token) : ∃ t, exec .transmissionStart s = .next t ∧
      t.egress.transmitter = some (s.frameNow .token ⟨0, s.nodeAddress, 0x50#8, 0, 0, 0,
        s.egress.tokenSequence, 0⟩ []) ∧ s.SameButTimer t [.transmitter] :=
    ⟨s.startToken.settle, by simp [exec, execTransmissionStart, hidle, h, State.done], rfl,
      s.startToken_sameBut.settle⟩
  have nothing (h : s.chosen = none) : exec .transmissionStart s = .next s := by
    simp [exec, execTransmissionStart, hidle, h]
  refine ⟨fun q rest hmay hqueue => ?response, fun hdebt htoken => ?token, fun hmay hempty hdue =>
    ⟨fun c q n r a hentry holdest => ?notice, fun d rest fr hno hqueue hd => ?forward,
      fun hno hqueue hdebt => ?none⟩, fun hclosed hdebt => ?closed⟩
  case response =>
    refine ⟨(s.startResponse q).settle, ?_, ?_, rfl, (s.startResponse_sameBut q).settle⟩
    · simp [exec, execTransmissionStart, hidle, State.chosen_of_response hmay hqueue, hqueue, State.done]
    · have hlength : (withPayloadCheck (responseBytes q.response)).length = 5 + q.response.results.length := by
        simp [withPayloadCheck, responseBytes, bytes16]; omega
      show (s.startResponse q).egress.transmitter = _
      rw [State.startResponse, ownHeader_eq, State.send_transmitter, hlength]
      rfl
  case token =>
    refine token ?_
    by_cases hmay : s.mayStart
    · obtain hclosed | ⟨hempty, hdue | ⟨hno, hqueue⟩⟩ := htoken
      · exact absurd hmay hclosed
      · exact State.chosen_of_due hempty hdebt hdue
      · by_cases hdue : s.egress.timing.dueThreshold ≤ s.egress.debt
        · exact State.chosen_of_due hempty hdebt hdue
        · rw [State.chosen_of_open hmay hempty (.inr (by omega)), State.noticeCandidate_of_noNotice hno, hqueue]
          exact if_pos hdebt
    · rw [State.chosen_of_closed hmay, if_pos hdebt]
  case notice =>
    dsimp only
    have hlongest : s.WaitsLongest c a := ⟨by rw [hentry]; rfl, fun e b => holdest e b⟩
    have hchosen : s.chosen = some (.notice c) := by
      rw [State.chosen_of_open hmay hempty hdue, State.noticeCandidate_of_longest hlongest]
    refine ⟨(s.startNotice c).settle, by simp [exec, execTransmissionStart, hidle, hchosen, State.done], ?_, ?_,
      ?_, ?_, fun e he => ?_, rfl, rfl, (s.startNotice_sameBut c).settle⟩
    · show (s.startNotice c).egress.transmitter = _
      simp only [State.startNotice, hentry, NoticeEntry.started]
      rw [ownHeader_eq, State.send_transmitter]
      rfl
    · simp [State.startNotice, hentry, NoticeEntry.started]
    · simp [State.startNotice]
    · simp [State.startNotice]
    · simp [State.startNotice, he]
  case forward =>
    have hchosen : s.chosen = some (.forward d) := by
      rw [State.chosen_of_open hmay hempty hdue, State.noticeCandidate_of_noNotice hno, hqueue]
    refine ⟨(s.startForward d fr).settle, by simp [exec, execTransmissionStart, hidle, hchosen, hd, State.done],
      rfl, ?_, ?_, fun e he => ?_, rfl, (s.startForward_sameBut d fr).settle⟩
    · show s.egress.forwardQueue.tail = rest
      rw [hqueue]; rfl
    · simp [State.startForward_desc?, hd]
    · simp [State.startForward_desc?, he]
  case none =>
    refine nothing ?_
    rw [State.chosen_of_open hmay hempty hdue, State.noticeCandidate_of_noNotice hno, hqueue]
    exact if_neg (by omega)
  case closed =>
    refine nothing ?_
    rw [State.chosen_of_closed hclosed]
    exact if_neg (by omega)

/-- Settles O50: with no reset that takes effect a completion is its effect on the source. -/
theorem completionsGoToTheirSource : Obligations.CompletionsGoToTheirSource := by
  intro s tx received htx hno
  have hidle := (s.advanceTo_sameBut tx.endsAt).trans (State.idleTransmitter_sameBut _)
  refine ⟨fun hsource => ?token, fun q rest hsource hqueue => ?response, fun c q hsource => ?notice,
    fun d fr hsource hd => ?forward⟩
  case token =>
    refine ⟨_, (State.Completed.token hsource).exec_of_no_reset received htx hno, rfl, rfl, rfl, rfl, ?_, rfl,
      ((hidle.trans (State.completeToken_sameBut _)).mono (by decide)).settle⟩
    show (s.egress.overdue && decide (2 ≤ s.egress.debt - 1)) = true ↔ _
    rw [Bool.and_eq_true, decide_eq_true_eq]
    rfl
  case response =>
    have hmanagement := s.completeResponse_idle tx.endsAt
    obtain ⟨hresponses, hpending⟩ := State.completeResponse_pending hqueue
    rw [← hmanagement] at hresponses hpending
    refine ⟨_, (State.Completed.response hsource).exec_of_no_reset received htx hno, ?_, hresponses, hpending,
      ((hidle.trans (State.completeResponse_sameBut _)).mono (by decide)).settle⟩
    exact (State.completeResponse_sameBut _).2 .transmitter (by decide)
  case notice =>
    refine ⟨_, (State.Completed.notice hsource).exec_of_no_reset received htx hno, rfl, fun n r a hentry => ?_,
      fun hother => ?_, fun e he => ?_, rfl,
      ((hidle.trans (State.completeNotice_sameBut _ c q)).mono (by decide)).settle⟩
    · simp [State.completeNotice, hentry, NoticeEntry.completed]
    · have hkept := NoticeEntry.completed_of_other
        (s.now ⊔ tx.endsAt + Config.msec (10 * s.egress.timing.retryInterval)) hother
      exact State.putEntry_classState_same c hkept
    · simp [State.completeNotice, he]
  case forward =>
    let w := (s.advanceTo tx.endsAt).idleTransmitter
    have hw : w.desc? d = some fr := hd
    obtain ⟨hfreed, hothers, hcount⟩ := w.releaseSent_freed d fr hw
    have hstore : (w.completeForward d fr).store = (w.releaseSent d).store := by
      unfold State.completeForward
      dsimp only
      split <;> rfl
    have hcounters : (w.completeForward d fr).counters = (w.releaseSent d).counters := by
      unfold State.completeForward
      dsimp only
      split <;> rfl
    refine ⟨_, (State.Completed.forward hsource hd).exec_of_no_reset received htx hno, ?_,
      State.Freed.of_store (s := s) (t := w.releaseSent d)
        ⟨hfreed.free, hfreed.descs, hfreed.cells, hfreed.holdOut⟩ hstore,
      State.OtherDescs.of_store (t := w.releaseSent d) hothers hstore, fun g => ?_,
      (w.completeForward_pending d fr), ((hidle.trans (State.completeForward_sameBut _ d fr)).mono
        (by decide)).settle⟩
    · exact (State.completeForward_sameBut w d fr).2 .transmitter (by decide)
    · have hg := hcount g
      show atFlow (w.completeForward d fr).counters.flows g = _
      rw [hcounters]
      exact hg

end
end

section
/-! Requests: the checks before an execution, the reading kinds, the claim and the enables. -/

namespace Sys2Proof.Machine

variable {s t : State} {d : DescId} {fr : Descriptor}

/-! ### The kinds (R134) -/

theorem handlerFor_argumentBytes (kind : Byte) : (handlerFor kind).map Handler.argCount = argumentBytes kind := by
  unfold handlerFor argumentBytes
  match kind.toNat with
  | 0 | 1 | 2 | 3 | 4 | 5 | 6 | 7 | 8 | 9 | 10 | 11 | 12 | 13 | 14 | 15 => rfl
  | n + 16 => rfl

theorem handlerFor_none_of_argumentBytes {kind : Byte} (h : argumentBytes kind = none) :
    handlerFor kind = none := by
  rw [← handlerFor_argumentBytes] at h
  exact Option.map_eq_none_iff.mp h

theorem handlerFor_of_argumentBytes {kind : Byte} {n : Nat} (h : argumentBytes kind = some n) :
    ∃ k, handlerFor kind = some k ∧ k.argCount = n := by
  rw [← handlerFor_argumentBytes] at h
  exact Option.map_eq_some_iff.mp h

/-- A refusal of the claim check is the answer of the request (R134, R135). -/
theorem State.execute_of_refused (s : State) (rq : Requester) (h : Handler) (args : List Byte) {a : Answer}
    (hlen : args.length = h.argCount) (hrefused : claimRefusal h.need rq.address s = some a) :
    s.execute rq (some h) args = (s, a) := by
  simp [State.execute, hlen, hrefused]

/-- A taken request whose execution leaves the part is answered, and nothing else changes. -/
theorem exec_taken_unchanged {i : Instr} {kind sequence : Byte} {args : List Byte} {a : Answer}
    (hi : requestOf i = some (kind, sequence :: args)) (hslot : s.RequestInSlot d fr (args.length + 1))
    (htakes : s.Takes fr.header.source sequence)
    (hrun : (s.arrivePayload d fr (requestPayload kind (sequence :: args))).execute (requesterOf d fr)
      (handlerFor kind) args = (s.arrivePayload d fr (requestPayload kind (sequence :: args)), a)) :
    ∃ t, exec i s = .next t ∧ s.Answered t d fr kind sequence args a.status a.results [] a.resetMark := by
  obtain ⟨t, hnext, _, hanswered⟩ := exec_taken_answered hi hslot htakes hrun (.refl _ []) (by simp)
  exact ⟨t, hnext, hanswered⟩

/-! ### A payload too short to be a request (R125) -/

theorem exec_frameEnd_request {payload : List Byte} (hrec : s.receiver.reception = .receiving d)
    (hd : s.desc? d = some fr) (hrole : fr.role = .request) (hlength : payload.length = headerLength fr.header)
    (hcheck : payloadCheckPasses payload = true) :
    exec (.frameEnd payload) s = .next (((s.arrivePayload d fr payload).manage (requesterOf d fr)
      (handlerFor (payload.headD 0)) payload).closeRequest d fr) := by
  rw [exec_frameEnd_dispatch hrec hd hlength]
  simp [State.dispatch, hrole, hcheck, State.endRequest, State.closeRequest, requesterOf]

/-- A payload of fewer than four bytes whose check passes counts a check fault, and gets no response. -/
theorem exec_frameEnd_tooShort {payload : List Byte} (hrec : s.receiver.reception = .receiving d)
    (hd : s.desc? d = some fr) (hrole : fr.role = .request) (hlength : payload.length = headerLength fr.header)
    (hcheck : payloadCheckPasses payload = true) (hshort : payload.length < 4) :
    ∃ t, exec (.frameEnd payload) s = .next t ∧ s.RequestEnded t d fr payload ∧
      t.management.responses = s.management.responses ∧
      t.counters.globals = s.counters.globals.count .mgmtCheckFaults ∧
      s.SameButTimer t (.globalCounters :: requestPieces) := by
  let w := s.arrivePayload d fr payload
  have hmanage : w.manage (requesterOf d fr) (handlerFor (payload.headD 0)) payload =
      w.countGlobal .mgmtCheckFaults := by
    unfold State.manage
    split
    · rw [if_neg (by omega)]
    · rfl
  have hexec := exec_frameEnd_request hrec hd hrole hlength hcheck
  rw [hmanage] at hexec
  have harrived : s.FrameArrived (w.countGlobal .mgmtCheckFaults) d fr payload :=
    (s.arrivePayload_frameArrived d fr payload hd).of_sameBut (w.countGlobal_sameBut _) (by decide)
  have hclose := State.closeRequest_sameBut _ d fr _ harrived.desc hrole
  refine ⟨_, hexec, harrived.closeRequest_ended, by simp [w, State.arrivePayload],
    (hclose.2 .globalCounters (by decide)).trans rfl, ?_⟩
  exact (((s.arrivePayload_sameBut d fr payload).trans (w.countGlobal_sameBut _)).trans hclose).mono (by decide)

/-! ### The listing of the frames (R37, R173) -/

theorem State.liveDescs_eq (s : State) :
    s.liveDescs = (List.finRange 40).filterMap fun d => (s.desc? d).map fun fr => (d.val, fr) := by
  have hzip : s.store.descs.toList.zipIdx = (List.finRange 40).map fun d => (s.desc? d, d.val) := by
    apply List.ext_getElem
    · simp
    · intro i h1 h2
      simp [State.desc?]
  rw [State.liveDescs, hzip, List.filterMap_map]
  rfl

theorem State.length_liveDescs_filter (s : State) (p : Descriptor → Bool) :
    (s.liveDescs.filter fun x => p x.2).length =
      ((List.finRange 40).filter fun d => ((s.desc? d).map p).getD false).length := by
  rw [s.liveDescs_eq]
  induction List.finRange 40 with
  | nil => rfl
  | cons d l ih =>
    cases hd : s.desc? d with
    | none => simpa [hd] using ih
    | some fr => cases hp : p fr <;> simpa [hd, hp] using ih

theorem State.engineByte_eq (s : State) (d : DescId) :
    s.engineByte d.val = if s.engineDesc .engine0 = some d then 0x00
      else if s.engineDesc .engine1 = some d then 0x01 else 0xFF := by
  unfold State.engineByte State.engineDesc
  cases h0 : s.engineRun .engine0 <;> cases h1 : s.engineRun .engine1 <;> simp [h0, h1, Fin.ext_iff]

theorem State.frameRecord_eq (s : State) (d : DescId) (fr : Descriptor) :
    s.frameRecord d.val fr = s.recordLayout d fr := by
  have hplace : fr.place.code = match fr.place with
      | .receiving => 0x01
      | .queued => 0x02
      | .locating => 0x03
      | .held => 0x04
      | .forward => 0x05
      | .sending => 0x06 := by cases fr.place <;> rfl
  simp only [State.frameRecord, State.recordLayout, s.engineByte_eq, hplace]
  rfl

theorem runReadFrames_eq (rq : Requester) (args : List Byte) (s : State) :
    runReadFrames rq args s = (s, Answer.with .ok s.listingLayout) := by
  have hlength : s.liveDescs.length = ((List.finRange 40).filter fun d => (s.desc? d).isSome).length := by
    calc s.liveDescs.length = (s.liveDescs.filter fun _ => true).length := by simp
      _ = _ := s.length_liveDescs_filter fun _ => true
      _ = _ := by
        congr 2
        funext d
        cases s.desc? d <;> rfl
  have hrecords : (s.liveDescs.flatMap fun p => s.frameRecord p.1 p.2) =
      (List.finRange 40).flatMap fun d =>
        match s.desc? d with
        | none => []
        | some fr => s.recordLayout d fr := by
    rw [s.liveDescs_eq]
    induction List.finRange 40 with
    | nil => rfl
    | cons d l ih =>
      cases hd : s.desc? d with
      | none => simpa [hd] using ih
      | some fr => simpa [hd, s.frameRecord_eq] using ih
  simp only [runReadFrames, hlength, hrecords]
  rfl

theorem State.olderFrames_eq (s : State) (f : Byte) : s.olderFrames f = s.olderCount f := by
  unfold State.olderFrames State.olderCount
  rw [s.length_liveDescs_filter fun fr => fr.olderThan f s.table.generation]
  congr 2
  funext d
  cases s.desc? d with
  | none => rfl
  | some fr =>
      simp only [Option.map_some, Option.getD_some, Descriptor.olderThan]
      cases fr.role <;> rfl

theorem entryResults_eq (s : State) (f : Byte) (e : FlowEntry) :
    entryResults s f e = s.entryResultsLayout f e := by
  rw [entryResults, State.entryResultsLayout, encodeEntry_eq_layout, s.olderFrames_eq]
  simp [bytes16, byteOf, State.generationNat]

/-! ### What the arrival of the request's own payload leaves of the listings -/

theorem State.arrivePayload_desc? (s : State) (payload : List Byte) (x : DescId) :
    (s.arrivePayload d fr payload).desc? x =
      if x = d then (s.desc? d).map (fun fr => { fr with stamp := some s.order.nextStamp }) else s.desc? x :=
  State.giveStamp_desc? _ d x

theorem State.arrivePayload_listing (s : State) (d : DescId) (fr : Descriptor) (payload : List Byte) :
    (s.arrivePayload d fr payload).listingLayout = s.listingLayout := by
  unfold State.listingLayout
  congr 1
  · congr 3
    funext x
    rw [State.arrivePayload_desc?]
    by_cases h : x = d
    · rw [if_pos h, h, Option.isSome_map]
    · rw [if_neg h]
  · congr 1
    funext x
    rw [State.arrivePayload_desc?]
    by_cases h : x = d
    · rw [if_pos h, h]
      cases s.desc? d <;> rfl
    · rw [if_neg h]
      cases s.desc? x <;> rfl

theorem State.arrivePayload_olderCount (s : State) (d : DescId) (fr : Descriptor) (payload : List Byte)
    (f : Byte) : (s.arrivePayload d fr payload).olderCount f = s.olderCount f := by
  unfold State.olderCount
  congr 2
  funext x
  rw [State.arrivePayload_desc?]
  by_cases h : x = d
  · rw [if_pos h, h]
    cases s.desc? d <;> rfl
  · rw [if_neg h]
    cases s.desc? x <;> rfl

theorem State.arrivePayload_entryResults (s : State) (d : DescId) (fr : Descriptor) (payload : List Byte)
    (f : Byte) (e : FlowEntry) :
    (s.arrivePayload d fr payload).entryResultsLayout f e = s.entryResultsLayout f e := by
  unfold State.entryResultsLayout
  rw [State.arrivePayload_olderCount]
  rfl

/-! ### The claim (R137 to R139) -/

theorem isNodeAddress_false {a : Byte} (h : a = 0 ∨ a = 255) : isNodeAddress a = false := by
  obtain rfl | rfl := h <;> decide

theorem isNodeAddress_true {a : Byte} (h0 : a ≠ 0) (h255 : a ≠ 255) : isNodeAddress a = true := by
  rw [isNodeAddress, Bool.and_eq_true, bne_iff_ne, bne_iff_ne]
  exact ⟨h0, h255⟩

theorem Claim.remaining_bounds (c : Claim) (now : Nat) : 1 ≤ c.remaining now ∧ c.remaining now ≤ 255 := by
  simp only [Claim.remaining]
  omega

/-- Within the range of the byte the lease remaining is the time left, rounded up to seconds. -/
theorem Claim.remaining_rounds (c : Claim) (now : Nat) (hruns : now < c.leaseEnds)
    (hfits : c.leaseEnds ≤ now + Config.seconds 255) :
    Config.seconds (c.remaining now - 1) < c.leaseEnds - now ∧
      c.leaseEnds - now ≤ Config.seconds (c.remaining now) := by
  simp only [Claim.remaining, Config.seconds, Config.msec, Config.usec, Config.unitsPerMicrosecond] at *
  omega

theorem claimRefusal_needed_unclaimed {address : Byte} (hnone : s.management.claim = none) :
    claimRefusal .needed address s = some (Answer.bare .unclaimed) := by
  simp [claimRefusal, hnone]

/-- Another manager's claim refuses every kind that asks who holds it (R135). -/
theorem claimRefusal_held {need : ClaimNeed} {address : Byte} {c : Claim} (hneed : need ≠ .notNeeded)
    (hclaim : s.management.claim = some c) (hother : c.holder ≠ address) :
    claimRefusal need address s = some (heldAnswer c s.now) := by
  cases need with
  | notNeeded => exact absurd rfl hneed
  | needed => simp [claimRefusal, hclaim, hother]
  | whileClaimed => simp [claimRefusal, hclaim, hother]

theorem handlerFor_asksForClaim {kind : Byte} {h : Handler} (hkind : handlerFor kind = some h)
    (hasks : needsClaim kind = true ∨ kind = 0x0E#8) : h.need ≠ .notNeeded := by
  obtain hneeds | rfl := hasks
  · rw [handlerFor_need kind h hkind hneeds]
    decide
  · obtain rfl : ackNoticeHandler = h := Option.some.inj hkind
    decide

/-- A kind that needs no claim, and whose execution leaves the part, is answered, and nothing else changes. -/
theorem exec_reading {i : Instr} {kind sequence : Byte} {args : List Byte} {a : Answer} {h : Handler}
    (hi : requestOf i = some (kind, sequence :: args)) (htakes : s.Takes fr.header.source sequence)
    (hslot : s.RequestInSlot d fr (args.length + 1)) (hkind : handlerFor kind = some h)
    (hlen : args.length = h.argCount) (hneed : h.need = .notNeeded)
    (hrun : h.run (requesterOf d fr) args (s.arrivePayload d fr (requestPayload kind (sequence :: args))) =
      (s.arrivePayload d fr (requestPayload kind (sequence :: args)), a)) :
    ∃ t, exec i s = .next t ∧ s.Answered t d fr kind sequence args a.status a.results [] a.resetMark := by
  refine exec_taken_unchanged hi hslot htakes ?_
  rw [hkind, State.execute_of_passed _ _ h args hlen (by rw [hneed]; rfl)]
  exact hrun

/-! ### The enables (R165) -/

/-- The class state a SET EVENTS leaves: enabled or not, and a notice issued where the enable is new and the
class has been raised. -/
def ClassState.afterEnable (k : ClassState) (enable : Bool) (sequence : Byte) (age : Nat) : ClassState where
  raw := k.raw
  enabled := enable
  entry := if (enable && !k.enabled && decide (0 < k.raw)) = true then .pendingSend sequence none 0 age
    else if enable = k.enabled then k.entry else if enable then k.entry else .idle

/-- Whether a SET EVENTS issues a notice of the class. -/
def State.issuesAt (s : State) (on : EventClass → Bool) (e : EventClass) : Bool :=
  on e && !(s.classState e).enabled && decide (0 < (s.classState e).raw)

/-- The notices a SET EVENTS over these classes issues. -/
def State.issuedOf (s : State) (on : EventClass → Bool) (l : List EventClass) : Nat :=
  (l.filter (s.issuesAt on)).length

theorem State.setEnable_classState (s : State) (c e : EventClass) (b : Bool) :
    (s.setEnable c b).classState e = if e = c
      then (s.classState c).afterEnable b s.events.noticeSequence s.events.nextAge else s.classState e := by
  by_cases he : e = c
  · subst he
    cases b <;> cases hen : (s.classState e).enabled <;> by_cases hraw : 0 < (s.classState e).raw <;>
      simp [State.setEnable, ClassState.afterEnable, hen, hraw]
    all_goals rw [← hen]
  · rw [if_neg he]
    simp only [State.setEnable]
    split
    · rfl
    · split
      · split <;> simp [he]
      · simp [he]

theorem State.setEnable_issued (s : State) (c : EventClass) (on : EventClass → Bool) :
    (s.setEnable c (on c)).events.noticeSequence =
        s.events.noticeSequence + BitVec.ofNat 8 (s.issuedOf on [c]) ∧
      (s.setEnable c (on c)).events.nextAge = s.events.nextAge + s.issuedOf on [c] := by
  cases hon : on c <;> cases hen : (s.classState c).enabled <;> by_cases hraw : 0 < (s.classState c).raw <;>
    simp [State.setEnable, State.issuedOf, State.issuesAt, hon, hen, hraw, State.issueNotice, State.putEntry]

theorem State.issuedOf_cons (s : State) (on : EventClass → Bool) (c : EventClass) (l : List EventClass) :
    s.issuedOf on (c :: l) = s.issuedOf on [c] + s.issuedOf on l := by
  simp only [State.issuedOf, List.filter_cons, List.filter_nil]
  split <;> simp [Nat.add_comm]

theorem State.issuedOf_congr {on : EventClass → Bool} {l : List EventClass}
    (h : ∀ e ∈ l, t.classState e = s.classState e) : t.issuedOf on l = s.issuedOf on l := by
  unfold State.issuedOf
  rw [List.filter_congr fun e he => show t.issuesAt on e = s.issuesAt on e by
    simp only [State.issuesAt, h e he]]

/-- Classes enabled and disabled in their order: each finds the sequence and the age after the notices issued
for the classes before it. -/
theorem State.foldl_setEnable (on : EventClass → Bool) (l : List EventClass) (hl : l.Nodup) (s : State) :
    let t := l.foldl (fun t c => t.setEnable c (on c)) s
    (∀ e, t.classState e = if e ∈ l then (s.classState e).afterEnable (on e)
        (s.events.noticeSequence + BitVec.ofNat 8 (s.issuedOf on (l.takeWhile (· ≠ e))))
        (s.events.nextAge + s.issuedOf on (l.takeWhile (· ≠ e))) else s.classState e) ∧
      t.events.noticeSequence = s.events.noticeSequence + BitVec.ofNat 8 (s.issuedOf on l) := by
  induction l generalizing s with
  | nil => exact ⟨fun e => rfl, (BitVec.add_zero _).symm⟩
  | cons c l ih =>
    obtain ⟨hc, hl⟩ := List.nodup_cons.mp hl
    obtain ⟨hseq, hage⟩ := s.setEnable_issued c on
    have hkeeps : ∀ m : List EventClass, c ∉ m →
        (s.setEnable c (on c)).issuedOf on m = s.issuedOf on m := fun m hm =>
      State.issuedOf_congr fun e he => by
        rw [State.setEnable_classState, if_neg fun h : e = c => hm (h ▸ he)]
    obtain ⟨hclasses, hlast⟩ := ih hl (s.setEnable c (on c))
    constructor
    · intro e
      rw [List.foldl_cons, hclasses e, State.setEnable_classState]
      by_cases he : e = c
      · subst he
        simp [hc, State.issuedOf]
      · have htail : c ∉ l.takeWhile (· ≠ e) := fun h => hc (List.takeWhile_subset _ h)
        rw [if_neg he, hseq, hage, hkeeps _ htail]
        by_cases hel : e ∈ l
        · rw [if_pos hel, if_pos (List.mem_cons_of_mem _ hel), List.takeWhile_cons_of_pos (by simpa using Ne.symm he),
            s.issuedOf_cons on c (l.takeWhile _), BitVec.add_assoc, Nat.add_assoc, ← BitVec.ofNat_add]
        · rw [if_neg hel, if_neg (by simp [he, hel])]
    · rw [List.foldl_cons, hlast, hseq, hkeeps l hc, s.issuedOf_cons on c l, BitVec.add_assoc, ← BitVec.ofNat_add]

theorem takeWhile_allClasses (e : EventClass) :
    allClasses.takeWhile (· ≠ e) = allClasses.filter fun x => decide (classNumber x < classNumber e) := by
  cases e <;> decide

theorem mem_allClasses (e : EventClass) : e ∈ allClasses := by cases e <;> decide

theorem State.setEnables_classState (s : State) (set : Half) (e : EventClass) :
    (s.setEnables set).classState e = (s.classState e).afterEnable (set.getLsbD (classNumber e).val)
      (s.events.noticeSequence + BitVec.ofNat 8 (s.issuedOf (fun c => set.getLsbD (classNumber c).val)
        (allClasses.filter fun x => decide (classNumber x < classNumber e))))
      (s.events.nextAge + s.issuedOf (fun c => set.getLsbD (classNumber c).val)
        (allClasses.filter fun x => decide (classNumber x < classNumber e))) := by
  have h := (State.foldl_setEnable (fun c => set.getLsbD (classNumber c).val) allClasses (by decide) s).1 e
  rw [if_pos (mem_allClasses e), takeWhile_allClasses] at h
  exact h

theorem State.setEnables_noticeSequence (s : State) (set : Half) :
    (s.setEnables set).events.noticeSequence = s.events.noticeSequence +
      BitVec.ofNat 8 (s.issuedOf (fun c => set.getLsbD (classNumber c).val) allClasses) := by
  have h := (State.foldl_setEnable (fun c => set.getLsbD (classNumber c).val) allClasses (by decide) s).2
  rw [State.setEnables]
  exact h

/-- The low bits of a number, added up. -/
theorem foldl_range_testBit (n k : Nat) :
    (List.range k).foldl (fun m i => if n.testBit i then m + 2 ^ i else m) 0 = n % 2 ^ k := by
  induction k with
  | zero => simp [Nat.mod_one]
  | succ k ih =>
    rw [List.range_succ, List.foldl_append, ih, List.foldl_cons, List.foldl_nil, Nat.mod_pow_succ,
      Nat.testBit_eq_decide_div_mod_eq]
    have hbit : n / 2 ^ k % 2 < 2 := Nat.mod_lt _ (by decide)
    by_cases h : n / 2 ^ k % 2 = 1
    · simp [h]
    · have h0 : n / 2 ^ k % 2 = 0 := by omega
      simp [h0]

/-- The set read back after a SET EVENTS is the set it wrote. -/
theorem State.setEnables_enableSet (s : State) (set : Half) (hset : set.toNat < 4096) :
    (s.setEnables set).enableSet = set.toNat := by
  have hbits : ∀ e, ((s.setEnables set).classState e).enabled = set.toNat.testBit (classNumber e).val := by
    intro e
    rw [State.setEnables_classState]
    rfl
  calc (s.setEnables set).enableSet
      = allClasses.foldl (fun n c => if set.toNat.testBit (classNumber c).val then
          n + 2 ^ (classNumber c).val else n) 0 := by simp only [State.enableSet, hbits]
    _ = (List.range 12).foldl (fun m i => if set.toNat.testBit i then m + 2 ^ i else m) 0 := rfl
    _ = set.toNat % 2 ^ 12 := foldl_range_testBit _ _
    _ = set.toNat := Nat.mod_eq_of_lt hset

/-- A kind that needs no claim is answered as it ran, and what it changed is what the command changed beside
the answer and the frame. -/
theorem exec_unclaimed_answered {i : Instr} {kind sequence : Byte} {args : List Byte} {a : Answer} {h : Handler}
    {v : State} {changed : List Piece} (hi : requestOf i = some (kind, sequence :: args))
    (htakes : s.Takes fr.header.source sequence) (hslot : s.RequestInSlot d fr (args.length + 1))
    (hkind : handlerFor kind = some h) (hlen : args.length = h.argCount) (hneed : h.need = .notNeeded)
    (hrun : h.run (requesterOf d fr) args (s.arrivePayload d fr (requestPayload kind (sequence :: args))) = (v, a))
    (hv : (s.arrivePayload d fr (requestPayload kind (sequence :: args))).SameBut v changed)
    (hfree : ∀ p ∈ .replay :: requestPieces, p ∉ changed) :
    ∃ t, exec i s = .next t ∧ v.SameButTimer t (.replay :: requestPieces) ∧
      s.Answered t d fr kind sequence args a.status a.results changed a.resetMark := by
  refine exec_taken_answered hi hslot htakes ?_ hv hfree
  rw [hkind, State.execute_of_passed _ _ h args hlen (by rw [hneed]; rfl)]
  exact hrun

end Sys2Proof.Machine

section

open Sys2Proof Sys2Proof.Machine

/-- Settles O53: the three checks are the branches of an execution before its handler runs. -/
theorem takenRequestsAreCheckedInOrder : Obligations.TakenRequestsAreCheckedInOrder := by
  unfold Obligations.TakenRequestsAreCheckedInOrder
  refine ⟨fun s d fr hrec hd hrole hlength => exec_frameEnd_tooShort hrec hd hrole
      (by rw [hlength]; rfl) (payloadCheckPasses_withPayloadCheck _) (by decide), ?_⟩
  intro s d fr i kind
  constructor
  · intro hi hslot
    have hpayload : (requestPayload kind []).length = headerLength fr.header := by
      rw [hslot.length]; rfl
    rw [exec_request_eq_frameEnd hi hslot.slot hslot.desc hslot.role hpayload]
    exact exec_frameEnd_tooShort hslot.slot hslot.desc hslot.role hpayload
      (payloadCheckPasses_withPayloadCheck _) (by rw [hpayload, hslot.length]; decide)
  · intro seq args hi hslot htakes
    refine ⟨fun hnone => ?_, fun n hn hne => ?_, fun hn hneeds hunclaimed => ?_, fun c hn hasks hclaim hother => ?_⟩
    · refine exec_taken_unchanged hi hslot htakes (a := Answer.bare .unknown) ?_
      rw [handlerFor_none_of_argumentBytes hnone]
      rfl
    · obtain ⟨h, hh, hcount⟩ := handlerFor_of_argumentBytes hn
      refine exec_taken_unchanged hi hslot htakes (a := Answer.bare .badArg) ?_
      rw [hh, State.execute, if_neg (by rw [hcount]; exact hne)]
    · obtain ⟨h, hh, hcount⟩ := handlerFor_of_argumentBytes hn
      refine exec_taken_unchanged hi hslot htakes (a := Answer.bare .unclaimed) ?_
      rw [hh]
      refine State.execute_of_refused _ _ h args hcount.symm ?_
      rw [handlerFor_need kind h hh hneeds]
      exact claimRefusal_needed_unclaimed hunclaimed
    · obtain ⟨h, hh, hcount⟩ := handlerFor_of_argumentBytes hn
      refine exec_taken_unchanged hi hslot htakes (a := heldAnswer c s.now) ?_
      rw [hh]
      exact State.execute_of_refused _ _ h args hcount.symm
        (claimRefusal_held (handlerFor_asksForClaim hh hasks) hclaim hother)

/-- Settles O54: a reading request answers a sample of the part as acceptance finds it, and the request's own
arrival changes none of what is sampled. -/
theorem readingRequestsAnswerWithTheState : Obligations.ReadingRequestsAnswerWithTheState := by
  unfold Obligations.ReadingRequestsAnswerWithTheState
  intro s d fr seq htakes
  refine ⟨fun hslot => ⟨?_, ?_, ?_, ?_⟩, fun f hslot => ?_, fun b f hslot => ⟨?_, ?_, ?_, ?_⟩⟩
  · exact exec_reading (a := Answer.with .ok
      [0x3C, 0x24, 0x01, s.nodeAddress, BitVec.ofNat 8 (s.table.generation.toNat / 256),
        BitVec.ofNat 8 s.table.generation.toNat]) rfl htakes hslot rfl rfl rfl rfl
  · refine exec_reading (a := Answer.with .ok s.listingLayout) rfl htakes hslot rfl rfl rfl
      ((runReadFrames_eq (requesterOf d fr) [] _).trans ?_)
    rw [State.arrivePayload_listing]
  · exact exec_reading (a := Answer.with .ok (s.globalValues.flatMap counterLayout)) rfl htakes hslot rfl rfl
      rfl rfl
  · refine exec_reading (h := readStatusHandler) (a := Answer.with .ok s.statusLayout) rfl htakes hslot rfl rfl
      rfl ?_
    exact congrArg (fun x => (_, Answer.with .ok x)) ((State.statusSnapshot_eq_layout _).trans rfl)
  · exact exec_reading (a := Answer.with .ok (f :: (s.flowValues f).flatMap counterLayout)) rfl htakes hslot
      rfl rfl rfl rfl
  · rintro rfl
    refine exec_reading (a := Answer.with .ok (s.entryResultsLayout f (s.table.activeEntry f))) rfl htakes
      hslot rfl rfl rfl ?_
    refine congrArg (fun x => (_, Answer.with .ok x)) ((entryResults_eq _ f _).trans ?_)
    exact State.arrivePayload_entryResults s d fr _ f _
  · rintro rfl hfree
    refine exec_reading (h := readEntryHandler)
      (a := Answer.with .ok (s.entryResultsLayout f (s.table.stagedEntry f))) rfl htakes hslot rfl rfl rfl ?_
    refine (if_neg (Bool.eq_false_iff.mp hfree)).trans ?_
    refine congrArg (fun x => (_, Answer.with .ok x)) ((entryResults_eq _ f _).trans ?_)
    exact State.arrivePayload_entryResults s d fr _ f _
  · rintro rfl hbusy
    exact exec_reading (h := readEntryHandler) (a := Answer.with .busy [2]) rfl htakes hslot rfl rfl rfl
      (if_pos hbusy)
  · intro h0 h1
    refine exec_reading (h := readEntryHandler) (a := Answer.bare .badArg) rfl htakes hslot rfl rfl rfl ?_
    simp only [readEntryHandler, runReadEntry]
    split
    · rename_i h
      exact absurd (eq_of_toNat h) h0
    · rename_i h
      exact absurd (eq_of_toNat h) h1
    · rfl

/-- Settles O55, by the branches of CLAIM and RELEASE. -/
theorem theClaimIsGivenReleasedAndEnds : Obligations.TheClaimIsGivenReleasedAndEnds := by
  unfold Obligations.TheClaimIsGivenReleasedAndEnds
  refine ⟨fun s d fr seq htakes => ⟨fun lease hslot => ⟨fun hbad => ?_, fun hlease h0 h255 hsame => ?_,
    fun c hlease h0 h255 hclaim hother => ?_⟩, fun hslot => ⟨fun hnone => ?_, fun c hclaim hholder => ?_,
    fun c hclaim hother => ?_⟩⟩, fun s c hclaim => ⟨(c.remaining_bounds s.now).1, (c.remaining_bounds s.now).2,
    c.remaining_rounds s.now, ?_⟩⟩
  · refine exec_reading (h := claimHandler) (a := Answer.bare .badArg) rfl htakes hslot rfl rfl rfl ?_
    exact if_pos (hbad.imp_right isNodeAddress_false)
  · let w := s.arrivePayload d fr (requestPayload 2 [seq, lease])
    obtain ⟨t, hnext, hsame, hanswered⟩ := exec_unclaimed_answered (h := claimHandler)
      (v := { w with management := { w.management with
        claim := some ⟨fr.header.source, s.now + Config.seconds lease.toNat⟩ } })
      (a := Answer.with .ok [fr.header.source, lease]) (i := .claim [seq, lease]) rfl htakes hslot rfl rfl rfl
      (by
        refine (if_neg (not_or.mpr ⟨hlease, by simp [requesterOf, isNodeAddress_true h0 h255]⟩)).trans ?_
        cases hclaim : s.management.claim with
        | none => simp [w, State.arrivePayload, hclaim, requesterOf]
        | some c => simp [w, State.arrivePayload, hclaim, requesterOf, hsame c hclaim])
      (w.claim_sameBut _) (by decide)
    exact ⟨t, hnext, hsame.2 .claim (by decide), hanswered⟩
  · refine exec_reading (h := claimHandler) (a := heldAnswer c s.now) rfl htakes hslot rfl rfl rfl ?_
    refine (if_neg (not_or.mpr ⟨hlease, by simp [requesterOf, isNodeAddress_true h0 h255]⟩)).trans ?_
    simp [State.arrivePayload, hclaim, requesterOf, hother]
  · refine exec_reading (h := releaseHandler) (a := Answer.bare .unclaimed) rfl htakes hslot rfl rfl rfl ?_
    simp [releaseHandler, runRelease, State.arrivePayload, hnone]
  · let w := s.arrivePayload d fr (requestPayload 3 [seq])
    obtain ⟨t, hnext, hsame, hanswered⟩ := exec_unclaimed_answered (h := releaseHandler) (v := w.dropClaim)
      (a := Answer.bare .ok) (i := .release [seq]) rfl htakes hslot rfl rfl rfl
      (by simp [releaseHandler, runRelease, w, State.arrivePayload, hclaim, requesterOf, hholder])
      w.dropClaim_sameBut (by decide)
    exact ⟨t, hnext, hsame.2 .claim (by decide), hanswered⟩
  · refine exec_reading (h := releaseHandler) (a := heldAnswer c s.now) rfl htakes hslot rfl rfl rfl ?_
    simp [releaseHandler, runRelease, State.arrivePayload, hclaim, requesterOf, hother]
  · refine ⟨(((s.advanceTo c.leaseEnds).dropClaim).raise .leaseEnded).settle, ?_, by simp [State.dropClaim],
      State.RaisedOnce.settle_of (u := (s.advanceTo c.leaseEnds).dropClaim) rfl rfl, ?_⟩
    · simp [exec, execLeaseExpiry, hclaim, State.done]
    · exact (((s.advanceTo_sameBut _).trans (State.dropClaim_sameBut _)).trans
        (State.raise_sameBut _ _)).settle.mono (by decide)

/-- Settles O58: the enables are replaced one class after the other, in ascending class number. -/
theorem setEventsWithdrawsAndIssues : Obligations.SetEventsWithdrawsAndIssues := by
  unfold Obligations.SetEventsWithdrawsAndIssues
  intro s d fr seq hi lo c htakes hclaim hholder hslot
  have hlo := lo.isLt
  refine ⟨fun hbig => ?_, fun hsmall => ?_⟩
  · obtain ⟨t, hnext, _, hanswered⟩ := exec_holder_answered (i := .setEvents [seq, hi, lo]) (h := setEventsHandler)
      (a := Answer.bare .badArg) rfl rfl rfl hslot htakes hclaim hholder
      (if_pos (by simp only [value16]; omega)) (.refl _ []) (by simp)
    exact ⟨t, hnext, hanswered⟩
  · intro set on issues before
    let w := s.arrivePayload d fr (requestPayload 13 [seq, hi, lo])
    have hset : set.toNat = value16 hi lo := by
      simp only [set, BitVec.toNat_ofNat, value16]
      omega
    have hlow : set.toNat < 4096 := by
      rw [hset, value16]
      omega
    obtain ⟨t, hnext, hsame, hanswered⟩ := exec_holder_answered (i := .setEvents [seq, hi, lo])
      (h := setEventsHandler) (v := w.setEnables set) (a := Answer.with .ok [hi, lo]) rfl rfl rfl hslot htakes
      hclaim hholder
      (by
        refine (if_neg (by rw [← hset]; omega)).trans ?_
        refine congrArg (fun x => (w.setEnables set, Answer.with .ok x)) ?_
        exact (congrArg bytes16 ((w.setEnables_enableSet set hlow).trans hset)).trans (bytes16_value hi lo))
      (w.setEnables_sameBut set) (by decide)
    have hevents : t.events = (w.setEnables set).events := hsame.2 .events (by decide)
    refine ⟨t, hnext, fun e => ?_, ?_, hanswered⟩
    · have hstate : t.classState e = (w.setEnables set).classState e := by
        rw [State.classState, State.classState, hevents]
      have hbefore : w.issuedOf on (allClasses.filter fun x => decide (classNumber x < classNumber e)) =
          before e := by
        rw [State.issuedOf, List.filter_filter]
        rfl
      rw [hstate, w.setEnables_classState]
      rw [hbefore]
      exact ⟨rfl, rfl, rfl⟩
    · rw [hevents, w.setEnables_noticeSequence]
      rfl
end
end

section
/-! The frame of every course, and the conditions of single blocks that every command keeps: memory and
table, cadence, events and counters, clock, hold-wait timer, forward queue. -/

namespace Sys2Proof.Machine

variable {s t u : State} {c : Instr}

/-! ### The frame of every course -/

/-- The pieces that the course of a command can change. A completion may end in a reset, and is left to
`State.Completed`. -/
def coursePieces : Instr → List Piece
  | .holdInAssertion => [.holdIn]
  | .holdInRelease => [.holdIn]
  | .acquisition => [.receiver, .events]
  | .loss _ => .events :: abortPieces
  | .startDelimiter _ => abortPieces
  | .frameCutShort _ => [.receiver, .globalCounters, .events]
  | .skipEnd _ => [.receiver]
  | .headerArrival _ => arrivalPieces
  | .abort _ _ => abortPieces
  | .pickup _ => [.locator, .descriptors]
  | .locatorCompletionList _ =>
    [.clock, .cells, .descriptors, .locator, .chains, .forwardQueue, .flowCounters]
  | .locatorCompletionFailed _ =>
    [.clock, .flowCounters, .events, .locator, .freeLists, .descriptors, .holdOut, .forwardQueue, .chains]
  | .deadlineExpiry _ => .clock :: .chains :: resolvedPieces
  | .transmissionStart => [.transmitter, .permission, .events, .forwardQueue, .descriptors]
  | .cadenceExpiry => [.clock, .cadence, .globalCounters, .events]
  | .holdWaitExpiry => [.clock, .permission, .holdWait, .globalCounters, .events]
  | .leaseExpiry => [.clock, .claim, .events]
  | .retryTimerExpiry _ => [.clock, .events]
  | .copyCompletion => [.table]
  | _ => .receiver :: .codeUnit :: .nextStamp :: dispatchPieces

theorem EndsFrame.coursePieces_eq {payload : List Byte} (h : EndsFrame c payload) :
    coursePieces c = .receiver :: .codeUnit :: .nextStamp :: dispatchPieces := by
  obtain rfl | ⟨kind, body, hc, -⟩ := h
  · rfl
  · cases c with
    | claim | release | readEntry | writeEntry | commit | readFrames | readCounters | readGlobals
    | clearCounters | readStatus | setTiming | setEvents | ackNotice | resetPart | probe | unknownKind => rfl
    | _ => cases hc

/-- A course leaves everything but its command's pieces as it was. -/
theorem State.Handled.sameBut (hu : s.Handled c u) (hc : ∀ received, c ≠ .transmissionCompletion received) :
    s.SameBut u (coursePieces c) := by
  have advanced (n : Nat) := s.advanceTo_sameBut n
  cases hu with
  | holdInAssertion => exact s.setHoldIn_sameBut true
  | holdInRelease => exact s.setHoldIn_sameBut false
  | acquisition => exact (s.receiver_sameBut _).trans (State.raise_sameBut _ _)
  | lossIdle => exact s.loseLink_sameBut.mono (by dsimp only [coursePieces]; decide)
  | lossBeforeHeader => exact ((s.countGlobal_sameBut _).trans (State.loseLink_sameBut _)).mono (by dsimp only [coursePieces]; decide)
  | lossReceiving => exact ((s.abortFrame_sameBut _ _ _ _).trans (State.loseLink_sameBut _)).mono (by dsimp only [coursePieces]; decide)
  | startDelimiterIdle => exact (s.setReception_sameBut _).mono (by dsimp only [coursePieces]; decide)
  | startDelimiterBeforeHeader => exact (s.countGlobal_sameBut _).mono (by dsimp only [coursePieces]; decide)
  | startDelimiterReceiving | abort => exact s.abortFrame_sameBut _ _ _ _
  | frameEndAborted => exact (s.abortFrame_sameBut _ _ _ _).mono (by dsimp only [coursePieces]; decide)
  | cutShortByEnd =>
    exact (((s.setReception_sameBut _).trans (State.countGlobal_sameBut _ _)).trans
      (State.raise_sameBut _ _)).mono (by dsimp only [coursePieces]; decide)
  | cutShort => exact ((s.setReception_sameBut _).trans (State.countGlobal_sameBut _ _)).mono (by simp [coursePieces])
  | cutShortByStart => exact (s.countGlobal_sameBut _).mono (by dsimp only [coursePieces]; decide)
  | skipEnd => exact s.setReception_sameBut _
  | headerArrival _ hu => exact hu.sameBut
  | frameEnd hc _ _ _ hv =>
    rw [hc.coursePieces_eq]
    exact (((s.arrivePayload_sameBut _ _ _).trans hv.sameBut).trans
      (State.endReception_sameBut _ _)).mono (by decide)
  | pickup =>
    exact (((s.locator_sameBut _).trans (State.setPlace_sameBut _ _ _)).trans
      (State.setEngine_sameBut _ _ _)).mono (by dsimp only [coursePieces]; decide)
  | completionWithList => exact ((advanced _).trans (State.completeWithList_sameBut _ _ _ _ _)).mono (by dsimp only [coursePieces]; decide)
  | completionFailed =>
    exact (((((advanced _).trans (State.countFlow_sameBut _ _ _ _)).trans (State.raise_sameBut _ _)).trans
      (State.setEngine_sameBut _ _ _)).trans (State.handBack_sameBut _ _ _ _)).mono (by dsimp only [coursePieces]; decide)
  | deadlineExpiry => exact (advanced _).trans (State.expireFrame_sameBut _ _ _)
  | startToken => exact s.startToken_sameBut.mono (by dsimp only [coursePieces]; decide)
  | startResponse => exact (s.startResponse_sameBut _).mono (by dsimp only [coursePieces]; decide)
  | startNotice => exact (s.startNotice_sameBut _).mono (by dsimp only [coursePieces]; decide)
  | startForward => exact (s.startForward_sameBut _ _).mono (by dsimp only [coursePieces]; decide)
  | completeToken | completeResponse | completeNotice | completeForward => exact absurd rfl (hc _)
  | cadenceExpiry =>
    exact ((advanced _).trans (State.cadenceExpired_sameBut (s.advanceTo _))).mono (by dsimp only [coursePieces]; decide)
  | cadenceSlip =>
    exact ((((advanced _).trans (State.cadenceExpired_sameBut (s.advanceTo _))).trans
      (State.countGlobal_sameBut _ _)).trans (State.raise_sameBut _ _)).mono (by dsimp only [coursePieces]; decide)
  | holdWaitExpiry =>
    exact ((((advanced _).trans (State.grantPermission_sameBut _)).trans (State.countGlobal_sameBut _ _)).trans
      (State.raise_sameBut _ _)).mono (by dsimp only [coursePieces]; decide)
  | leaseExpiry =>
    exact (((advanced _).trans (State.dropClaim_sameBut _)).trans (State.raise_sameBut _ _)).mono (by dsimp only [coursePieces]; decide)
  | retryResent => exact (advanced _).trans (State.resendNotice_sameBut _ _ _ _ _)
  | retryExhausted => exact (advanced _).trans (State.putEntry_sameBut _ _ _)
  | copyCompletion => exact s.table_sameBut _

theorem State.Handled.samePiece {p : Piece} (hu : s.Handled c u)
    (hc : ∀ received, c ≠ .transmissionCompletion received) (hp : (coursePieces c).contains p = false) :
    s.samePiece u p :=
  (hu.sameBut hc).2 p fun h => by simp [h] at hp

/-! ### The clock (R92, R114, R117, R136, R161) -/

/-- The time to which a command brings the clock where it carries the end of a timer's run. -/
def State.timeOf (s : State) : Instr → Nat
  | .locatorCompletionList e => ((s.engineRun e).map Run.listTime).getD 0
  | .locatorCompletionFailed e => ((s.engineRun e).map Run.failedTime).getD 0
  | .deadlineExpiry d => ((s.desc? d).bind Descriptor.deadline).getD 0
  | .transmissionCompletion _ => (s.egress.transmitter.map Transmission.endsAt).getD 0
  | .cadenceExpiry => s.egress.cadenceDue
  | .holdWaitExpiry => s.egress.holdWait.getD 0
  | .leaseExpiry => (s.management.claim.map Claim.leaseEnds).getD 0
  | .retryTimerExpiry e =>
    match (s.classState e).entry with
    | .awaitingAck _ _ _ due => due
    | .idle => 0
    | .pendingSend _ _ _ _ => 0
    | .exhausted _ _ => 0
  | _ => 0

theorem State.flush_now (s : State) (received : List Byte) : (s.flush received).now = s.now := by
  obtain ⟨k, hk⟩ := (s.storeArrived received).countFreed_eq
  simp only [State.flush, hk, State.storeArrived_now]

theorem State.applyReset_now (s : State) (scope : ResetScope) (received : List Byte) :
    (s.applyReset scope received).now = s.now := by
  cases scope <;> exact s.flush_now received

theorem State.resetIfDue_now (s : State) (received : List Byte) : (s.resetIfDue received).now = s.now := by
  obtain h | ⟨p, -, -, h⟩ := s.resetIfDue_cases received
  · rw [h]
  · rw [h, State.applyReset_now]

theorem State.Completed.now_eq {tx : Transmission} (h : s.Completed tx t) : t.now = max s.now tx.endsAt := by
  cases h with
  | token => rfl
  | response => exact (State.completeResponse_sameBut _).2 .clock (by decide)
  | notice => rfl
  | forward => exact (State.completeForward_sameBut _ _ _).2 .clock (by decide)

theorem exec_completion_completed {received : List Byte} {tx : Transmission}
    (h : exec (.transmissionCompletion received) s = .next t) (htx : s.egress.transmitter = some tx) :
    ∃ v, s.Completed tx v ∧ t = (v.resetIfDue received).settle := by
  have answered {v : State} (hv : s.Completed tx v) :
      ∃ v, s.Completed tx v ∧ t = (v.resetIfDue received).settle :=
    ⟨v, hv, (Host.Outcome.next.inj ((hv.exec_eq received htx).symm.trans h)).symm⟩
  cases hsource : tx.source with
  | token => exact answered (.token hsource)
  | response => exact answered (.response hsource)
  | notice c q => exact answered (.notice hsource)
  | forward d =>
    cases hd : s.desc? d with
    | none => simp [exec, execTransmissionCompletion, htx, hsource, hd] at h
    | some fr => exact answered (.forward hsource hd)

theorem State.Handled.now_eq (hu : s.Handled c u) : u.now = max s.now (s.timeOf c) := by
  have untimed (h : (coursePieces c).contains .clock = false) (h0 : s.timeOf c = 0)
      (hc : ∀ received, c ≠ .transmissionCompletion received) : u.now = max s.now (s.timeOf c) := by
    rw [h0, Nat.max_zero]
    exact hu.samePiece (p := .clock) hc h
  by_cases hcompletion : ∃ received, c = .transmissionCompletion received
  · obtain ⟨received, rfl⟩ := hcompletion
    obtain ⟨tx, v, htx, hv, rfl⟩ := hu.completed
    rw [State.resetIfDue_now, hv.now_eq]
    simp [State.timeOf, htx]
  have hc (received) : c ≠ .transmissionCompletion received := fun h => hcompletion ⟨received, h⟩
  cases hu with
  | completionWithList he => 
    simp only [State.timeOf, he]
    exact (State.completeWithList_sameBut _ _ _ _ _).2 .clock (by decide)
  | completionFailed he =>
    simp only [State.timeOf, he]
    exact ((((State.countFlow_sameBut _ _ _ _).trans (State.raise_sameBut _ _)).trans
      (State.setEngine_sameBut _ _ _)).trans (State.handBack_sameBut _ _ _ _)).2 .clock (by decide)
  | deadlineExpiry hd hdue =>
    simp only [State.timeOf, hd, Option.bind_some, hdue]
    exact (State.expireFrame_sameBut _ _ _).2 .clock (by decide)
  | cadenceExpiry => rfl
  | cadenceSlip => exact State.raise_now _ _
  | holdWaitExpiry hdue => simp [State.timeOf, hdue]
  | leaseExpiry hclaim => simp [State.timeOf, hclaim, State.dropClaim]
  | retryResent hentry => simp only [State.timeOf, hentry]; rfl
  | retryExhausted hentry => simp only [State.timeOf, hentry]; rfl
  | completeToken | completeResponse | completeNotice | completeForward => exact absurd rfl (hc _)
  | frameEnd he =>
    have hends := he
    obtain rfl | ⟨kind, body, hreq, -⟩ := he
    · exact untimed rfl rfl hc
    · refine untimed (by rw [hends.coursePieces_eq]; decide) ?_ hc
      cases c <;> first | rfl | cases hreq
  | cutShort _ hsymbol => obtain rfl | rfl | rfl := hsymbol <;> exact untimed rfl rfl hc
  | _ => exact untimed rfl rfl hc

theorem State.Handled.clock (hu : s.Handled c u) (h : exec c s = .next u.settle) (ht : exec c s = .next t) :
    t.now = max s.now (s.timeOf c) := by
  rw [h] at ht
  cases ht
  exact hu.now_eq

/-! ### The hold-wait timer (R117) -/

theorem State.settle_holdWaitInv (s : State) : s.settle.HoldWaitInv := by
  rw [State.holdWaitInv_iff]
  have hruns : s.settle.holdWaitRuns = s.holdWaitRuns := rfl
  rw [hruns]
  unfold State.settle
  cases s.holdWaitRuns <;> rfl

/-- A timer that runs at the end of an event has run on, or has been started there. -/
theorem State.settle_holdWait {due : Nat} (h : s.settle.egress.holdWait = some due) :
    s.holdWaitRuns = true ∧ (s.egress.holdWait = some due ∨ s.egress.holdWait = none ∧
      due = s.now + Config.usec s.egress.timing.holdLimit) := by
  unfold State.settle at h
  cases hruns : s.holdWaitRuns with
  | false => simp [hruns] at h
  | true =>
    refine ⟨rfl, ?_⟩
    cases hw : s.egress.holdWait with
    | some x => exact .inl (by simpa [hruns, hw] using h)
    | none => exact .inr ⟨rfl, by simpa [hruns, hw, eq_comm] using h⟩

/-- Without a reset, a piece that is neither the command's nor a completion's stays as it was. -/
theorem State.Handled.untouched {p : Piece} (hu : s.Handled c u) (hno : ∀ scope, ¬s.ResetTakesEffect c scope)
    (hp : (coursePieces c).contains p = false) (hcompletion : completionPieces.contains p = false) :
    s.samePiece u p := by
  by_cases hc : ∃ received, c = .transmissionCompletion received
  · obtain ⟨received, rfl⟩ := hc
    obtain ⟨tx, v, htx, hv, rfl⟩ := hu.completed
    rw [v.resetIfDue_of_not_due received fun scope => mt (hv.dueNow_iff received scope htx).mp (hno scope)]
    exact hv.sameBut.2 p fun h => by simp [h] at hcompletion
  · exact hu.samePiece (fun received h => hc ⟨received, h⟩) hp

/-- Where the timer runs after a course without a reset, the course has left its expiry alone. -/
theorem State.Handled.holdWait_eq (hu : s.Handled c u) (hno : ∀ scope, ¬s.ResetTakesEffect c scope)
    (hruns : u.holdWaitRuns = true) : u.egress.holdWait = s.egress.holdWait := by
  by_cases hc : c = .holdWaitExpiry
  · subst hc
    cases hu with
    | holdWaitExpiry => simp [State.holdWaitRuns, State.grantPermission] at hruns
    | frameEnd hends =>
      obtain h | ⟨_, _, h, -⟩ := hends
      · cases h
      · cases h
  · refine hu.untouched (p := .holdWait) hno ?_ rfl
    cases c with
    | holdWaitExpiry => exact absurd rfl hc
    | _ => rfl

theorem State.applyReset_holdWait (s : State) (scope : ResetScope) (received : List Byte) :
    (s.applyReset scope received).egress.holdWait = none := by
  cases scope <;> rfl

/-! ### The request that a frame-end executes (R125, R134) -/

theorem withPayloadCheck_inj {p q : List Byte} (h : withPayloadCheck p = withPayloadCheck q) : p = q :=
  (List.append_inj' h rfl).1

theorem EndsFrame.of_requestPayload {kind sequence : Byte} {args : List Byte}
    (h : EndsFrame c (requestPayload kind (sequence :: args))) :
    requestOf c = some (kind, sequence :: args) ∨ c = .frameEnd (requestPayload kind (sequence :: args)) := by
  obtain h | ⟨k, body, hc, hp⟩ := h
  · exact .inr h
  · have hbytes := withPayloadCheck_inj hp
    simp only [List.cons.injEq] at hbytes
    rw [hc, ← hbytes.1, ← hbytes.2]
    exact .inl rfl

theorem State.Takes.of_management {address sequence : Byte} (h : s.Takes address sequence)
    (ht : t.management = s.management) : t.Takes address sequence :=
  ⟨by rw [ht]; exact h.room, by rw [ht]; exact h.noReset, by rw [ht]; exact h.fresh⟩

/-- A request that is taken at a frame-end and changes the part is executed there. -/
theorem State.executes_of_taken {d : DescId} {fr : Descriptor} {kind sequence : Byte} {args : List Byte}
    (hends : EndsFrame c (requestPayload kind (sequence :: args))) (hrec : s.receiver.reception = .receiving d)
    (hd : s.desc? d = some fr) (hrole : fr.role = .request)
    (hlength : (requestPayload kind (sequence :: args)).length = headerLength fr.header)
    (htakes : s.Takes fr.header.source sequence)
    (hpassed : needsClaim kind = true → ∃ k, s.management.claim = some k ∧ k.holder = fr.header.source) :
    s.Executes c kind args := by
  refine ⟨d, fr, sequence, hends.of_requestPayload, ⟨hrec, hd, hrole, ?_⟩, htakes, hpassed⟩
  rw [← hlength, requestPayload_length]
  rfl

/-! ### Books: the events, the counters and the forward queue under every course -/

/-- The pieces in which a command keeps its books. -/
def bookPieces : List Piece := [.events, .flowCounters, .globalCounters, .forwardQueue]

/-- What the accounting reads of a frame: whether it is DATA, and its flow (R176). -/
def Descriptor.owner (fr : Descriptor) : Bool × Byte := (fr.isData, fr.flow)

/-- The frames present in the second state are those present in the first, each of the same role and flow. -/
def State.SameOwners (s t : State) : Prop :=
  ∀ d, (t.desc? d).map Descriptor.owner = (s.desc? d).map Descriptor.owner

theorem State.SameOwners.trans (h : s.SameOwners t) (h' : t.SameOwners u) : s.SameOwners u :=
  fun d => (h' d).trans (h d)

theorem State.SameBut.sameOwners {l : List Piece} (h : s.SameBut t l) (hl : .descriptors ∉ l) : s.SameOwners t :=
  fun d => congrArg _ (h.2 .descriptors hl d)

theorem State.modDesc_sameOwners (s : State) (d : DescId) {f : Descriptor → Descriptor}
    (hf : ∀ fr : Descriptor, (f fr).owner = fr.owner) : s.SameOwners (s.modDesc d f) := fun x => by
  rw [State.modDesc_desc?]
  split
  · next hx => simp [hx, Function.comp_def, hf]
  · rfl

theorem State.setPlace_sameOwners (s : State) (d : DescId) (p : Place) : s.SameOwners (s.setPlace d p) :=
  s.modDesc_sameOwners d fun _ => rfl

theorem State.startDeadline_sameOwners (s : State) (d : DescId) : s.SameOwners (s.startDeadline d) :=
  s.modDesc_sameOwners d fun _ => rfl

theorem State.hold_sameOwners (s : State) (d : DescId) (fr : Descriptor) : s.SameOwners (s.hold d fr) :=
  ((s.setPlace_sameOwners d .held).trans (State.startDeadline_sameOwners _ d)).trans
    ((State.joinChain_sameBut _ d fr).sameOwners (by decide))

theorem State.enqueue_sameOwners (s : State) (d : DescId) (syndromes : List Byte) :
    s.SameOwners (s.enqueue d syndromes) :=
  (((s.modDesc_sameOwners d (f := fun x => { x with syndromes := some syndromes }) fun _ => rfl).trans
    (State.setPlace_sameOwners _ d .queued)).trans (State.startDeadline_sameOwners _ d)).trans fun _ => rfl

theorem State.arrivePayload_sameOwners (s : State) (d : DescId) (fr : Descriptor) (payload : List Byte) :
    s.SameOwners (s.arrivePayload d fr payload) :=
  s.modDesc_sameOwners d (f := fun x => { x with stamp := some s.order.nextStamp }) fun _ => rfl

/-- A relation that holds across every raise, release, count and append to the forward queue, and across all
that leaves the books and the frames. ARRIVED is counted alone where a frame is admitted, and with DROPPED where
one is turned away; DROPPED and SENT where a frame is released. -/
structure Upkeep (R : State → State → Prop) : Prop where
  trans : ∀ {s t u}, R s t → R t u → R s u
  same : ∀ {s t : State} {l : List Piece}, s.SameBut t l → (∀ p ∈ bookPieces, p ∉ l) → s.SameOwners t → R s t
  raise : ∀ (s : State) (e : EventClass), R s (s.raise e)
  countFlow : ∀ (s : State) (f : Byte) (k : FlowCounter) (n : Nat), k ∉ [FlowCounter.arrived, .dropped, .sent] →
    R s (s.countFlow f k n)
  countGlobal : ∀ (s : State) (k : GlobalCounter), R s (s.countGlobal k)
  toForward : ∀ (s : State) (d : DescId), R s (s.toForward d)
  releaseDropped : ∀ (s : State) (d : DescId), R s (s.releaseDropped d)
  releaseSent : ∀ (s : State) (d : DescId), R s (s.releaseSent d)
  turnAway : ∀ (s : State) (f : Byte), R s ((s.countFlow f .arrived 1).countFlow f .dropped 1)

/-- A relation that holds across every raise, count and append to the forward queue, and across all that leaves
the books. -/
structure Books (R : State → State → Prop) : Prop where
  trans : ∀ {s t u}, R s t → R t u → R s u
  same : ∀ {s t : State} {l : List Piece}, s.SameBut t l → (∀ p ∈ bookPieces, p ∉ l) → R s t
  raise : ∀ (s : State) (e : EventClass), R s (s.raise e)
  countFlow : ∀ (s : State) (f : Byte) (k : FlowCounter) (n : Nat), R s (s.countFlow f k n)
  countGlobal : ∀ (s : State) (k : GlobalCounter), R s (s.countGlobal k)
  toForward : ∀ (s : State) (d : DescId), R s (s.toForward d)

theorem State.store_sameBut (s : State) (st : FrameStore) :
    s.SameBut { s with store := st } [.cells, .freeLists, .descriptors, .holdOut] :=
  ⟨rfl, fun p hp => by
    cases p <;> simp [State.samePiece, State.chain, State.flowCounters] at hp ⊢⟩

/-- A token's completion before its count. -/
theorem State.tokenLeft_sameBut (s : State) :
    s.SameBut { s with egress := { s.egress with
      debt := s.egress.debt - 1
      tokenSequence := s.egress.tokenSequence + 1
      overdue := overdueAfterToken s.egress.overdue (s.egress.debt - 1) } } [.cadence] :=
  ⟨rfl, fun p hp => by
    cases p <;> simp [State.samePiece, State.desc?, State.chain, State.flowCounters] at hp ⊢⟩

section

variable {R : State → State → Prop} (hR : Upkeep R)

include hR

/-- What leaves the books and every descriptor. -/
theorem Upkeep.still {l : List Piece} (h : s.SameBut t l) (hl : ∀ p ∈ .descriptors :: bookPieces, p ∉ l) : R s t :=
  hR.same h (fun p hp => hl p (List.mem_cons_of_mem _ hp)) (h.sameOwners (hl _ List.mem_cons_self))

theorem Upkeep.refl (s : State) : R s s := hR.still (.refl s []) (by simp)

theorem Upkeep.setDamaged (s : State) (d : DescId) : R s (s.setDamaged d) :=
  hR.same (s.setDamaged_sameBut d) (by decide) (s.modDesc_sameOwners d fun _ => by
    simp [Descriptor.owner, Descriptor.isData, Descriptor.flow, withDamaged])

theorem Upkeep.loseLink (s : State) : R s s.loseLink :=
  hR.trans (hR.still ((s.receiver_sameBut _).trans (State.setReception_sameBut _ _)) (by decide)) (hR.raise _ _)

theorem Upkeep.abortFrame (s : State) (d : DescId) (fr : Descriptor) (received : List Byte) (next : Reception) :
    R s (s.abortFrame d fr received next) :=
  hR.trans (hR.trans (hR.trans (hR.still (s.storePayload_sameBut fr _) (by decide)) (hR.releaseDropped _ d))
    (hR.countGlobal _ _)) (hR.still (State.endReception_sameBut _ next) (by decide))

theorem Upkeep.dropOverflow (s : State) (d : DescId) : R s (s.dropOverflow d) :=
  hR.trans (hR.releaseDropped s d) (hR.raise _ _)

theorem Upkeep.headerArrived {h : HeaderBytes} (hu : s.HeaderArrived h u)
    (hadmit : ∀ role d rest, s.store.freeDescs = d :: rest → R s ((s.countArrival role h).admitFrame d role h)) :
    R s u := by
  have skips (t : State) : R t (t.setReception .skipping) := hR.still (t.setReception_sameBut _) (by decide)
  cases hu with
  | fault => exact hR.trans (hR.trans (hR.countGlobal s _) (hR.raise _ _)) (skips _)
  | stripped => exact hR.trans (hR.countGlobal s _) (skips _)
  | token => exact hR.trans (hR.still (s.receiver_sameBut _) (by decide)) (hR.countGlobal _ _)
  | discarded => exact hR.trans (hR.turnAway s _) (skips _)
  | kept role _ d rest hd => exact hadmit role d rest hd
  | refused role =>
    have short (t : State) : R t (((t.countGlobal .poolShort).raise .poolShort).setReception .skipping) :=
      hR.trans (hR.trans (hR.countGlobal t _) (hR.raise _ _)) (skips _)
    cases role
    case data => exact hR.trans (hR.turnAway s h.flow) (short _)
    all_goals exact short s

theorem Upkeep.routedReady {d : DescId} {fr : Descriptor} (hu : s.RoutedReady d fr u) : R s u := by
  cases hu with
  | onward => exact hR.toForward s d
  | held => exact hR.same (s.hold_sameBut d fr) (by decide) (s.hold_sameOwners d fr)
  | overflow => exact hR.dropOverflow s d

theorem Upkeep.routedLocate {d : DescId} {fr : Descriptor} {syndromes : List Byte}
    (hu : s.RoutedLocate d fr syndromes u) : R s u := by
  cases hu with
  | free => exact hR.same (s.enqueue_sameBut d syndromes) (by decide) (s.enqueue_sameOwners d syndromes)
  | ordered =>
    exact hR.same ((s.enqueue_sameBut d syndromes).trans (State.joinChain_sameBut _ d fr)) (by decide)
      (s.enqueue_sameOwners d syndromes)
  | overflow => exact hR.dropOverflow s d

theorem Upkeep.dataEnded {d : DescId} {fr : Descriptor} (hu : s.DataEnded d fr u) : R s u := by
  have failed := hR.trans (hR.countFlow s fr.flow .codeFailed 1 (by decide)) (hR.raise _ .codeFailure)
  cases hu with
  | ready _ hu => exact hR.trans (hR.countFlow s _ _ _ (by decide)) (hR.routedReady hu)
  | encoded _ hu =>
    exact hR.trans (hR.trans (hR.still (s.putMemory_sameBut _) (by decide)) (hR.countFlow _ _ _ _ (by decide)))
      (hR.routedReady hu)
  | toLocate _ _ _ hu => exact hR.routedLocate hu
  | dropped => exact hR.trans failed (hR.releaseDropped _ d)
  | marked _ _ hu =>
    exact hR.trans (hR.trans failed (hR.setDamaged _ d)) (hR.routedReady hu)

theorem Upkeep.enumerate (s : State) (fr : Descriptor) (payload : List Byte) : R s (s.enumerate fr payload) := by
  unfold State.enumerate
  split
  · exact hR.refl s
  · split
    · exact hR.trans (hR.still ((s.storePayload_sameBut fr _).trans (State.nodeAddress_sameBut _ _)) (by decide))
        (hR.raise _ _)
    · exact hR.refl s

/-- The books at the management of a request: those of its execution, and of what is counted without one. -/
theorem Upkeep.managed {rq : Requester} {payload : List Byte}
    (hexec : ∀ {kind sequence args v}, payload = requestPayload kind (sequence :: args) →
      s.Takes rq.address sequence → s.Executed rq kind args v →
      (v ≠ s → needsClaim kind = true → ∃ k, s.management.claim = some k ∧ k.holder = rq.address) → R s v)
    (hu : s.Managed rq payload u) : R s u := by
  cases hu with
  | tooShort => exact hR.countGlobal s _
  | shed => exact hR.trans (hR.countGlobal s _) (hR.raise _ _)
  | replied q => exact hR.still (s.queueResponse_sameBut q) (by decide)
  | taken a hpayload htakes hv hpassed =>
    exact hR.trans (hexec hpayload htakes hv hpassed) (hR.still (State.recordAnswer_sameBut _ _ _ _ a) (by decide))

theorem Upkeep.dispatched {d : DescId} {fr : Descriptor} {payload : List Byte}
    (hexec : ∀ {kind sequence args v}, fr.role = .request → payload = requestPayload kind (sequence :: args) →
      s.Takes fr.header.source sequence → s.Executed (requesterOf d fr) kind args v →
      (v ≠ s → needsClaim kind = true → ∃ k, s.management.claim = some k ∧ k.holder = fr.header.source) → R s v)
    (hu : s.Dispatched d fr payload u) : R s u := by
  cases hu with
  | data => exact hR.dataEnded (s.endData_ended d fr)
  | forwarded => exact hR.toForward s d
  | request hrole _ hv =>
    refine hR.trans (hR.managed (hexec hrole) hv) ?_
    split
    · exact hR.toForward _ d
    · exact hR.releaseDropped _ d
  | enumeration =>
    exact hR.trans (hR.enumerate s fr payload) (hR.toForward _ d)
  | checkFault => exact hR.trans (hR.releaseDropped s d) (hR.countGlobal _ _)

theorem Upkeep.failedOr (s : State) (d : DescId) (fr : Descriptor) (failed : Bool) {goOn : State → State}
    (hgoOn : ∀ t : State, R t (goOn t)) : R s (s.failedOr d fr failed goOn) := by
  unfold State.failedOr
  split
  · split
    · exact hR.releaseDropped s d
    · exact hR.trans (hR.setDamaged _ d) (hgoOn _)
  · exact hgoOn s

theorem Upkeep.releaseOnward (s : State) (f : Byte) : R s (s.releaseOnward f) := by
  have forwarded (l : List DescId) (t : State) : R t (t.allToForward l) := by
    induction l generalizing t with
    | nil => exact hR.refl t
    | cons d l ih => exact hR.trans (hR.toForward t d) (ih _)
  exact hR.trans (forwarded _ s) (hR.still (State.setChain_sameBut _ _ _) (by decide))

theorem Upkeep.handBack (s : State) (d : DescId) (fr : Descriptor) (failed : Bool) :
    R s (s.handBack d fr failed) := by
  have onward (t : State) : R t (t.failedOr d fr failed (State.toForward · d)) :=
    hR.failedOr t d fr failed fun u => hR.toForward u d
  have chained (l : List DescId) : R s (s.setChain fr.flow l) := hR.still (s.setChain_sameBut _ l) (by decide)
  unfold State.handBack
  dsimp only
  split
  · split
    · exact hR.trans (hR.trans (chained _) (onward _)) (hR.releaseOnward _ _)
    · split
      · exact hR.trans (chained _) (hR.releaseDropped _ d)
      · exact hR.failedOr s d fr failed fun u => hR.same (u.setPlace_sameBut d .held) (by decide) (u.setPlace_sameOwners d .held)
  · exact onward s

theorem Upkeep.completeWithList (s : State) (e : EngineId) (d : DescId) (fr : Descriptor)
    (entries : List ErrorEntry) : R s (s.completeWithList e d fr entries) := by
  have recorded : R s (s.modDesc d fun x => { x with correction := some entries }) :=
    hR.same (s.modDesc_sameBut _ _) (by decide) (s.modDesc_sameOwners d fun _ => rfl)
  exact hR.trans (hR.trans (hR.trans (hR.trans (hR.trans recorded
    (hR.still (State.putMemory_sameBut _ _) (by decide))) (hR.countFlow _ _ .corrected _ (by decide)))
    (hR.countFlow _ _ .symbolsFixed _ (by decide))) (hR.still (State.setEngine_sameBut _ e none) (by decide)))
    (hR.handBack _ d fr false)

theorem Upkeep.abandon (s : State) (d : DescId) (fr : Descriptor) : R s (s.abandon d fr) :=
  hR.trans (hR.trans (hR.trans (hR.trans (hR.still (s.withdrawFromLocator_sameBut d) (by decide))
    (hR.countFlow _ _ _ _ (by decide))) (hR.countFlow _ _ _ _ (by decide))) (hR.raise _ _))
    (hR.failedOr _ d fr true fun u => hR.toForward u d)

theorem Upkeep.resolveMember (s : State) (d : DescId) : R s (s.resolveMember d) := by
  unfold State.resolveMember
  split
  · exact hR.refl s
  · split
    · exact hR.abandon s d _
    · exact hR.abandon s d _
    · exact hR.toForward s d
    all_goals exact hR.refl s

theorem Upkeep.foldl_resolveMember (l : List DescId) (s : State) : R s (l.foldl State.resolveMember s) := by
  induction l generalizing s with
  | nil => exact hR.refl s
  | cons d l ih => exact hR.trans (hR.resolveMember s d) (ih _)

theorem Upkeep.expireFrame (s : State) (d : DescId) (fr : Descriptor) : R s (s.expireFrame d fr) := by
  have given (t : State) (x : Option EngineId) : R t (t.giveHeadTo x) := hR.still (t.giveHeadTo_sameBut x) (by decide)
  unfold State.expireFrame
  dsimp only
  split
  · exact hR.trans (hR.trans (hR.trans (hR.trans (hR.still (s.setChain_sameBut _ _) (by decide))
      (hR.foldl_resolveMember _ _)) (given _ _)) (hR.releaseOnward _ _))
      (hR.raise _ _)
  · exact hR.trans (hR.trans (hR.resolveMember s d) (given _ _)) (hR.raise _ _)

/-- What a completion does to its source, the notice's entry apart, keeps the books. -/
theorem Upkeep.completed {tx : Transmission} (h : s.Completed tx t)
    (hnotice : ∀ (v : State) c q, R v (v.completeNotice c q)) : R s t := by
  have hidle : R s (s.advanceTo tx.endsAt).idleTransmitter :=
    hR.still ((s.advanceTo_sameBut _).trans (State.idleTransmitter_sameBut _)) (by decide)
  refine hR.trans hidle ?_
  cases h with
  | token => exact hR.trans (hR.still (State.tokenLeft_sameBut _) (by decide)) (hR.countGlobal _ _)
  | response => exact hR.still (State.completeResponse_sameBut _) (by decide)
  | notice => exact hnotice _ _ _
  | forward =>
    unfold State.completeForward
    dsimp only
    split
    · exact hR.trans (hR.releaseSent _ _) (hR.still (State.updatePending_sameBut _ _) (by decide))
    · exact hR.releaseSent _ _

/-- A transmission start keeps the books, the entry of a notice and the head of the forward queue apart. -/
theorem Upkeep.started (hu : s.Handled .transmissionStart u) (hnotice : ∀ e, R s (s.startNotice e))
    (hforward : ∀ d fr, R s (s.startForward d fr)) : R s u := by
  cases hu with
  | startToken => exact hR.still s.startToken_sameBut (by decide)
  | startResponse => exact hR.still (s.startResponse_sameBut _) (by decide)
  | startNotice => exact hnotice _
  | startForward => exact hforward _ _
  | frameEnd hends =>
    obtain h | ⟨_, _, h, -⟩ := hends
    · cases h
    · cases h

/-- Every course but a start and a completion keeps the books, its requests and its own notice entries apart. -/
theorem Upkeep.handled (hu : s.Handled c u) (hc : ∀ received, c ≠ .transmissionCompletion received)
    (hexec : ∀ {d fr payload kind args v}, (s.arrivePayload d fr payload).Executed (requesterOf d fr) kind args v →
      (v = s.arrivePayload d fr payload ∨ s.Executes c kind args) → R (s.arrivePayload d fr payload) v)
    (hadmit : ∀ {h role d rest}, s.store.freeDescs = d :: rest →
      R s ((s.countArrival role h).admitFrame d role h))
    (hstart : c ≠ .transmissionStart)
    (hresend : ∀ e q n r due, (s.classState e).entry = .awaitingAck q n r due →
      R (s.advanceTo due) ((s.advanceTo due).resendNotice e q n r) ∧
      R (s.advanceTo due) ((s.advanceTo due).putEntry e (.exhausted q n))) : R s u := by
  have advanced (n : Nat) : R s (s.advanceTo n) := hR.still (s.advanceTo_sameBut n) (by decide)
  have received (v : State) (r : Reception) : R v (v.setReception r) := hR.still (v.setReception_sameBut r) (by decide)
  cases hu with
  | holdInAssertion => exact hR.still (s.setHoldIn_sameBut true) (by decide)
  | holdInRelease => exact hR.still (s.setHoldIn_sameBut false) (by decide)
  | acquisition => exact hR.trans (hR.still (s.receiver_sameBut _) (by decide)) (hR.raise _ _)
  | lossIdle => exact hR.loseLink s
  | lossBeforeHeader => exact hR.trans (hR.countGlobal s _) (hR.loseLink _)
  | lossReceiving => exact hR.trans (hR.abortFrame s _ _ _ _) (hR.loseLink _)
  | startDelimiterIdle | skipEnd => exact received s _
  | startDelimiterBeforeHeader | cutShortByStart => exact hR.countGlobal s _
  | startDelimiterReceiving | abort | frameEndAborted => exact hR.abortFrame s _ _ _ _
  | cutShortByEnd => exact hR.trans (hR.trans (received s _) (hR.countGlobal _ _)) (hR.raise _ _)
  | cutShort => exact hR.trans (received s _) (hR.countGlobal _ _)
  | headerArrival _ hu => exact hR.headerArrived hu fun _ _ _ hd => hadmit hd
  | frameEnd hends hrec hd hlength hv =>
    refine hR.trans (hR.trans (hR.same (s.arrivePayload_sameBut _ _ _) (by decide)
      (s.arrivePayload_sameOwners _ _ _)) (hR.dispatched ?_ hv))
      (hR.still (State.endReception_sameBut _ _) (by decide))
    intro kind sequence args v hrole hpayload htakes hv hpassed
    refine hexec hv (or_iff_not_imp_left.mpr fun hne => ?_)
    subst hpayload
    exact State.executes_of_taken hends hrec hd hrole hlength (htakes.of_management rfl) (hpassed hne)
  | pickup =>
    exact hR.trans (hR.trans (hR.still (s.locator_sameBut _) (by decide))
      (hR.same (State.setPlace_sameBut _ _ _) (by decide) (State.setPlace_sameOwners _ _ _)))
      (hR.still (State.setEngine_sameBut _ _ _) (by decide))
  | completionWithList => exact hR.trans (advanced _) (hR.completeWithList _ _ _ _ _)
  | completionFailed =>
    exact hR.trans (hR.trans (hR.trans (hR.trans (advanced _) (hR.countFlow _ _ _ _ (by decide))) (hR.raise _ _))
      (hR.still (State.setEngine_sameBut _ _ _) (by decide))) (hR.handBack _ _ _ _)
  | deadlineExpiry => exact hR.trans (advanced _) (hR.expireFrame _ _ _)
  | startToken | startResponse | startNotice | startForward => exact absurd rfl hstart
  | completeToken | completeResponse | completeNotice | completeForward => exact absurd rfl (hc _)
  | cadenceExpiry =>
    exact hR.trans (advanced _) (hR.still (State.cadenceExpired_sameBut (s.advanceTo _)) (by decide))
  | cadenceSlip =>
    exact hR.trans (hR.trans (hR.trans (advanced _)
      (hR.still (State.cadenceExpired_sameBut (s.advanceTo _)) (by decide))) (hR.countGlobal _ _)) (hR.raise _ _)
  | holdWaitExpiry =>
    exact hR.trans (hR.trans (hR.trans (advanced _) (hR.still (State.grantPermission_sameBut _) (by decide)))
      (hR.countGlobal _ _)) (hR.raise _ _)
  | leaseExpiry =>
    exact hR.trans (hR.trans (advanced _) (hR.still (State.dropClaim_sameBut _) (by decide))) (hR.raise _ _)
  | retryResent he => exact hR.trans (advanced _) (hresend _ _ _ _ _ he).1
  | retryExhausted he => exact hR.trans (advanced _) (hresend _ _ _ _ _ he).2
  | copyCompletion => exact hR.still (s.table_sameBut _) (by decide)

end

section

variable {R : State → State → Prop} (hR : Books R)

include hR

theorem Books.releaseDropped (s : State) (d : DescId) : R s (s.releaseDropped d) := by
  unfold State.releaseDropped
  split
  · exact hR.same (.refl s []) (by simp)
  · dsimp only
    split
    · exact hR.trans (hR.countFlow s _ _ _) (hR.same (State.store_sameBut _ _) (by decide))
    · exact hR.same (s.store_sameBut _) (by decide)

theorem Books.releaseSent (s : State) (d : DescId) : R s (s.releaseSent d) := by
  unfold State.releaseSent
  split
  · exact hR.same (.refl s []) (by simp)
  · dsimp only
    split
    · exact hR.trans (hR.countFlow s _ _ _) (hR.same (State.store_sameBut _ _) (by decide))
    · exact hR.same (s.store_sameBut _) (by decide)

/-- What keeps the books whatever becomes of the frames. -/
theorem Books.upkeep : Upkeep R where
  trans := hR.trans
  same h hl _ := hR.same h hl
  raise := hR.raise
  countFlow s f k n _ := hR.countFlow s f k n
  countGlobal := hR.countGlobal
  toForward := hR.toForward
  releaseDropped := hR.releaseDropped
  releaseSent := hR.releaseSent
  turnAway s f := hR.trans (hR.countFlow s f _ _) (hR.countFlow _ f _ _)

theorem Books.admission (s : State) (d : DescId) (role : Role) (h : HeaderBytes) :
    R s ((s.countArrival role h).admitFrame d role h) := by
  have counted : R s (s.countArrival role h) := by
    cases role
    case data => exact hR.countFlow s _ _ _
    all_goals exact hR.same (.refl s []) (by simp)
  exact hR.trans counted (hR.same (State.admitFrame_sameBut _ d role h) (by decide))

end

/-! ### The notice table (R154, R156, R163) -/

/-- The second state's notice table is consistent if the first's is. -/
def State.EventsKept (s t : State) : Prop := s.EventInv → t.EventInv

theorem State.EventInv.of_classes (h : s.EventInv) (ht : t.events.classes = s.events.classes) : t.EventInv :=
  fun e => by
    have := h e
    rwa [State.classState, ← ht] at this

theorem State.EventInv.of_events (h : s.EventInv) (ht : t.events = s.events) : t.EventInv :=
  h.of_classes (congrArg EventUnit.classes ht)

theorem State.EventInv.raise (h : s.EventInv) (e : EventClass) : (s.raise e).EventInv := by
  intro x
  obtain ⟨hraw, henabled, hissued, hkept, hothers⟩ := s.raise_raisedOnce e
  by_cases hx : x = e
  · subst hx
    obtain ⟨hlimit, houtstanding, hsent⟩ := h x
    by_cases hissue : (s.classState x).enabled = true ∧ (s.classState x).entry.takesNotice = true
    · obtain ⟨hentry, -, -⟩ := hissued hissue.1 hissue.2
      refine ⟨by omega, fun _ => ⟨henabled.trans hissue.1, by omega⟩, ?_⟩
      rw [hentry]
      exact Nat.zero_le _
    · obtain ⟨hentry, -, -⟩ := hkept hissue
      refine ⟨by omega, fun hne => ?_, ?_⟩
      · rw [hentry] at hne
        exact ⟨henabled.trans (houtstanding hne).1, by omega⟩
      · rw [hentry, hraw]
        omega
  · rw [hothers x hx]
    exact h x

theorem State.EventInv.putEntry (h : s.EventInv) {e : EventClass} {n : NoticeEntry}
    (hidle : n ≠ .idle → (s.classState e).entry ≠ .idle) (hsent : n.sentOrZero ≤ (s.classState e).raw) :
    (s.putEntry e n).EventInv := by
  intro x
  rw [State.putEntry_classState]
  split
  · next hx =>
    obtain ⟨hlimit, houtstanding, -⟩ := h e
    exact ⟨hlimit, fun hne => houtstanding (hidle hne), hsent⟩
  · exact h x

theorem State.EventInv.startNotice (h : s.EventInv) (e : EventClass) : (s.startNotice e).EventInv := by
  have hsent := (h e).sent
  refine State.EventInv.of_events (s := s.consumePermission.putEntry e
    ((s.classState e).entry.started (s.classState e).raw)) (h.of_events (s := s) rfl |>.putEntry ?_ ?_) rfl
  · cases hn : (s.classState e).entry <;> simp [NoticeEntry.started]
  · cases hn : (s.classState e).entry with
    | pendingSend q n r a =>
      rw [hn] at hsent
      cases n with
      | none => simp [NoticeEntry.started, NoticeEntry.sentOrZero]
      | some n => simpa [NoticeEntry.started, NoticeEntry.sentOrZero] using hsent
    | idle | awaitingAck | exhausted =>
      rw [hn] at hsent
      exact hsent

theorem State.EventInv.completeNotice (h : s.EventInv) (e : EventClass) (q : Byte) :
    (s.completeNotice e q).EventInv := by
  have hsent := (h e).sent
  refine h.putEntry ?_ ?_
  · cases hn : (s.classState e).entry <;> simp [NoticeEntry.completed]
  · cases hn : (s.classState e).entry with
    | pendingSend q' n r a =>
      rw [hn] at hsent
      simp only [NoticeEntry.completed]
      split <;> exact hsent
    | idle | awaitingAck | exhausted =>
      rw [hn] at hsent
      exact hsent

theorem State.EventInv.setEnables (h : s.EventInv) (set : Half) : (s.setEnables set).EventInv := by
  intro e
  obtain ⟨hlimit, houtstanding, hsent⟩ := h e
  rw [State.setEnables_classState]
  generalize set.getLsbD (classNumber e).val = enable
  generalize hk : s.classState e = k at *
  unfold ClassState.afterEnable
  split
  · next hissue =>
    simp only [Bool.and_eq_true, decide_eq_true_eq] at hissue
    exact ⟨hlimit, fun _ => ⟨hissue.1.1, hissue.2⟩, Nat.zero_le _⟩
  · split
    · next hsame => exact ⟨hlimit, fun hne => ⟨hsame.trans (houtstanding hne).1, (houtstanding hne).2⟩, hsent⟩
    · split
      · next hon => exact ⟨hlimit, fun hne => ⟨hon, (houtstanding hne).2⟩, hsent⟩
      · exact ⟨hlimit, fun hne => absurd rfl hne, Nat.zero_le _⟩

theorem State.EventInv.acknowledge (h : s.EventInv) {e : EventClass} {q : Byte}
    (hq : (s.classState e).entry.sequence? = some q) : (s.acknowledge e).1.EventInv := by
  obtain ⟨hlimit, houtstanding, -⟩ := h e
  have henabled : (s.classState e).enabled = true :=
    (houtstanding fun hidle => by simp [hidle, NoticeEntry.sequence?] at hq).1
  intro x
  simp only [State.acknowledge]
  by_cases hleft : (s.classState e).raw - (s.classState e).entry.sentOrZero = 0
  · rw [if_pos hleft, State.putClass_classState]
    split
    · exact ⟨by simp only; omega, fun hne => absurd rfl hne, Nat.zero_le _⟩
    · exact h x
  · rw [if_neg hleft, State.issueNotice_classState, State.putClass_classState, State.putClass_classState]
    split
    · rw [if_pos rfl]
      exact ⟨by simp only; omega, fun _ => ⟨henabled, by simp only; omega⟩, Nat.zero_le _⟩
    · exact h x

theorem State.EventInv.executed {rq : Requester} {kind : Byte} {args : List Byte} (h : s.EventInv)
    (hv : s.Executed rq kind args t) : t.EventInv := by
  cases hv with
  | setEvents set => exact h.setEnables set
  | ackNotice e q hq => exact h.acknowledge hq
  | _ => exact h

theorem State.eventsKept_books : Books State.EventsKept where
  trans h h' hs := h' (h hs)
  same h hl hs := hs.of_events (h.2 .events (hl _ (by decide)))
  raise _ e hs := hs.raise e
  countFlow _ _ _ _ hs := hs
  countGlobal _ _ hs := hs
  toForward _ _ hs := hs

theorem eventInv_of_reset (h : s.events = EventUnit.reset) : s.EventInv := fun e => by
  obtain ⟨hraw, hentry, -⟩ := classes_of_reset h e
  exact ⟨by omega, fun hne => absurd hentry hne, by rw [hentry]; exact Nat.zero_le _⟩

theorem State.EventInv.resetIfDue (h : s.EventInv) (received : List Byte) : (s.resetIfDue received).EventInv := by
  obtain heq | ⟨p, -, -, heq⟩ := s.resetIfDue_cases received
  · rwa [heq]
  · rw [heq]
    cases p.scope with
    | restart => exact eventInv_of_reset rfl
    | flush =>
      obtain ⟨k, hk⟩ := (s.storeArrived received).countFreed_eq
      exact h.of_events (by simp [State.applyReset, State.flush, hk])

theorem State.Handled.eventInv (hu : s.Handled c u) (h : s.EventInv) : u.EventInv := by
  by_cases hcompletion : ∃ received, c = .transmissionCompletion received
  · obtain ⟨received, rfl⟩ := hcompletion
    obtain ⟨tx, v, -, hv, rfl⟩ := hu.completed
    exact (State.eventsKept_books.upkeep.completed hv (fun w e q hw => hw.completeNotice e q) h).resetIfDue received
  · by_cases hstart : c = .transmissionStart
    · subst hstart
      exact State.eventsKept_books.upkeep.started hu (fun e hs => hs.startNotice e)
        (fun d fr hs => hs.of_events ((s.startForward_sameBut d fr).2 .events (by decide))) h
    refine State.eventsKept_books.upkeep.handled hu (fun received h => hcompletion ⟨received, h⟩)
      (fun hw _ hv => hv.executed hw) (fun _ => State.eventsKept_books.admission s _ _ _) hstart (fun e q n r due he => ?_) h
    have hne : (s.classState e).entry ≠ .idle := by simp [he]
    have hsent (hs : s.EventInv) : n ≤ (s.classState e).raw := by
      have := (hs e).sent
      rwa [he] at this
    constructor
    · intro hs
      exact State.EventInv.of_classes (s := (s.advanceTo due).putEntry e (.pendingSend q (some n) (r + 1)
        s.events.nextAge)) (hs.putEntry (fun _ => hne) (hsent hs)) rfl
    · exact fun hs => hs.putEntry (fun _ => hne) (hsent hs)

/-! ### The counters (R168) -/

theorem FlowCounters.count_eq_plus (k : FlowCounters) (x : FlowCounter) (n : Nat) : k.count x n = k.plus x n := by
  cases x <;> rfl

theorem GlobalCounters.count_eq_plus (k : GlobalCounters) (x : GlobalCounter) : k.count x = k.plus x := by
  cases x <;> rfl

def State.CountersKept (s t : State) : Prop := s.CounterInv → t.CounterInv

theorem State.CounterInv.of_same (h : s.CounterInv) (hflows : ∀ f, t.flowCounters f = s.flowCounters f)
    (hglobals : t.counters.globals = s.counters.globals) : t.CounterInv :=
  ⟨fun f n hn => h.flows f n (by simpa only [State.flowValues, hflows f] using hn),
    fun n hn => h.globals n (by simpa only [State.globalValues, hglobals] using hn)⟩

theorem State.CounterInv.countFlow (h : s.CounterInv) (f : Byte) (x : FlowCounter) (m : Nat) :
    (s.countFlow f x m).CounterInv := by
  refine ⟨fun g n hn => ?_, h.globals⟩
  by_cases hg : g = f
  · subst hg
    have hold := h.flows g
    simp only [State.flowValues, State.countFlow_flowCounters, if_true, FlowCounters.count_eq_plus] at hn
    simp only [State.flowValues, List.forall_mem_cons] at hold
    cases x <;>
      simp only [FlowCounters.plus, List.mem_cons, List.not_mem_nil, or_false] at hn <;> omega
  · refine h.flows g n ?_
    simpa only [State.flowValues, State.countFlow_flowCounters, if_neg hg] using hn

theorem State.CounterInv.countGlobal (h : s.CounterInv) (x : GlobalCounter) : (s.countGlobal x).CounterInv := by
  refine ⟨h.flows, fun n hn => ?_⟩
  have hold := h.globals
  have hcounted : (s.countGlobal x).counters.globals = s.counters.globals.plus x :=
    GlobalCounters.count_eq_plus _ x
  simp only [State.globalValues, hcounted] at hn
  simp only [State.globalValues, List.forall_mem_cons] at hold
  cases x <;> simp only [GlobalCounters.plus, List.mem_cons, List.not_mem_nil, or_false] at hn <;> omega

theorem State.countersKept_books : Books State.CountersKept where
  trans h h' hs := h' (h hs)
  same h hl hs := hs.of_same (h.2 .flowCounters (hl _ (by decide))) (h.2 .globalCounters (hl _ (by decide)))
  raise s e hs := hs.of_same ((s.raise_sameBut e).2 .flowCounters (by decide))
    ((s.raise_sameBut e).2 .globalCounters (by decide))
  countFlow _ f k n hs := hs.countFlow f k n
  countGlobal _ k hs := hs.countGlobal k
  toForward _ _ hs := hs.of_same (fun _ => rfl) rfl

theorem flowValues_zero_le {f : Byte} (h : s.flowCounters f = FlowCounters.zero) :
    ∀ n ∈ s.flowValues f, n ≤ 4294967295 := fun n hn => by
  rw [flowValues_of_zero h n hn]
  exact Nat.zero_le _

theorem counterInv_of_reset (h : s.counters = CounterStore.reset) : s.CounterInv := by
  refine ⟨fun f => flowValues_zero_le ?_, fun n hn => ?_⟩
  · simp [State.flowCounters, h, CounterStore.reset, atFlow]
  · rw [globalValues_of_zero (by rw [h]; rfl) n hn]
    exact Nat.zero_le _

theorem State.CounterInv.executed {rq : Requester} {kind : Byte} {args : List Byte} (h : s.CounterInv)
    (hv : s.Executed rq kind args t) : t.CounterInv := by
  have kept (hs : s.SameBut t [.events]) : t.CounterInv :=
    h.of_same (hs.2 .flowCounters (by decide)) (hs.2 .globalCounters (by decide))
  cases hv with
  | clearAll => exact counterInv_of_reset rfl
  | @clearFlow f =>
    refine ⟨fun g => ?_, h.globals⟩
    by_cases hg : g = f
    · exact flowValues_zero_le (by simp [State.flowCounters, hg])
    · have hsame : ({ s with counters := { s.counters with
          flows := setFlow s.counters.flows f FlowCounters.zero } } : State).flowCounters g = s.flowCounters g := by
        simp [State.flowCounters, hg]
      intro n hn
      exact h.flows g n (by simpa only [State.flowValues, hsame] using hn)
  | setEvents set => exact kept (s.setEnables_sameBut set)
  | ackNotice e => exact kept (s.acknowledge_sameBut e)
  | _ => exact h.of_same (fun _ => rfl) rfl

theorem State.CounterInv.countFreed (h : s.CounterInv) : s.countFreed.CounterInv := by
  unfold State.countFreed
  generalize s.liveDescs.filter _ = l
  induction l generalizing s with
  | nil => exact h
  | cons p l ih => exact ih (h.countFlow _ _ _)

theorem State.CounterInv.resetIfDue (h : s.CounterInv) (received : List Byte) :
    (s.resetIfDue received).CounterInv := by
  obtain heq | ⟨p, -, -, heq⟩ := s.resetIfDue_cases received
  · rwa [heq]
  · rw [heq]
    cases p.scope with
    | restart => exact counterInv_of_reset rfl
    | flush =>
      have harrived : (s.storeArrived received).CounterInv :=
        h.of_same (fun f => by simp) (by simp)
      exact harrived.countFreed.of_same (fun f => rfl) rfl

theorem State.Handled.counterInv (hu : s.Handled c u) (h : s.CounterInv) : u.CounterInv := by
  by_cases hcompletion : ∃ received, c = .transmissionCompletion received
  · obtain ⟨received, rfl⟩ := hcompletion
    obtain ⟨tx, v, -, hv, rfl⟩ := hu.completed
    exact (State.countersKept_books.upkeep.completed hv (fun w e q hw => hw.of_same (fun _ => rfl) rfl) h).resetIfDue
      received
  · by_cases hstart : c = .transmissionStart
    · subst hstart
      exact State.countersKept_books.upkeep.started hu (fun e hs => hs.of_same (fun _ => rfl) rfl)
        (fun d fr hs => hs.of_same (fun _ => rfl) rfl) h
    exact State.countersKept_books.upkeep.handled hu (fun received h => hcompletion ⟨received, h⟩)
      (fun hw _ hv => hv.executed hw) (fun _ => State.countersKept_books.admission s _ _ _) hstart
      (fun e q n r due _ => ⟨fun hs => hs.of_same (fun _ => rfl) rfl, fun hs => hs.of_same (fun _ => rfl) rfl⟩) h

/-! ### The requests a frame-end executes (R125, R134) -/

/-- The pieces that only the execution of a request changes at a frame-end. -/
def controlPieces : List Piece := [.claim, .table, .timing, .cadence, .pendingReset]

theorem State.SameBut.mono_same {l : List Piece} (h : s.SameBut t l) {ps : List Piece}
    (hps : ∀ p ∈ ps, p ∉ l) : ∀ p ∈ ps, s.samePiece t p := fun p hp => h.2 p (hps p hp)

/-- At a frame-end the pieces of control stay as they were, or a request has been executed, and all that an
execution can change is as the execution left it. -/
theorem State.Dispatched.executes {d : DescId} {fr : Descriptor} {payload : List Byte}
    (hu : (s.arrivePayload d fr payload).Dispatched d fr payload u) (hends : EndsFrame c payload)
    (hrec : s.receiver.reception = .receiving d) (hd : s.desc? d = some fr)
    (hlength : payload.length = headerLength fr.header) :
    (∀ p ∈ controlPieces, s.samePiece u p) ∨
      ∃ kind args v, s.Executes c kind args ∧
        (s.arrivePayload d fr payload).Executed (requesterOf d fr) kind args v ∧
        ∀ p ∈ executedPieces, v.samePiece u p := by
  have harrive := s.arrivePayload_sameBut d fr payload
  have kept {l : List Piece} (h : (s.arrivePayload d fr payload).SameBut u l) (hl : ∀ p ∈ controlPieces, p ∉ l) :
      ∀ p ∈ controlPieces, s.samePiece u p := fun p hp =>
    State.samePiece.trans (harrive.2 p (by revert p; decide)) (h.2 p (hl p hp))
  cases hu with
  | data => exact .inl (kept (State.endData_ended _ d fr).sameBut (by decide))
  | forwarded => exact .inl (kept (State.toForward_sameBut _ d) (by decide))
  | enumeration =>
    exact .inl (kept ((State.enumerate_sameBut _ fr payload).trans (State.toForward_sameBut _ d)) (by decide))
  | checkFault => exact .inl (kept (State.dropCheckFault_sameBut _ d) (by decide))
  | @request v hrole hcheck hv =>
    have hdesc : ∃ x, v.desc? d = some x ∧ x.isData = false := by
      have hsame : ∀ x, v.desc? x = _ := hv.sameBut.2 .descriptors (by decide)
      refine ⟨{ fr with stamp := some s.order.nextStamp }, ?_, by simp [Descriptor.isData, hrole]⟩
      rw [hsame, State.arrivePayload_desc?, if_pos rfl, hd]
      rfl
    obtain ⟨x, hx, hdata⟩ := hdesc
    have hclosed : v.SameBut (if fr.header.destination = Config.broadcast then v.toForward d
        else v.releaseDropped d) [.descriptors, .forwardQueue, .freeLists, .holdOut] := by
      split
      · exact (v.toForward_sameBut d).mono (by decide)
      · exact (v.releaseDropped_sameBut d x hx hdata).mono (by decide)
    have hmanaged := hv
    cases hv with
    | tooShort => exact .inl (kept ((State.countGlobal_sameBut _ _).trans hclosed) (by decide))
    | shed =>
      exact .inl (kept (((State.countGlobal_sameBut _ _).trans (State.raise_sameBut _ _)).trans hclosed) (by decide))
    | replied q => exact .inl (kept ((State.queueResponse_sameBut _ q).trans hclosed) (by decide))
    | @taken kind sequence args v a hpayload htakes hv hpassed =>
      have hanswer := (v.recordAnswer_sameBut fr.header.source kind sequence a).trans hclosed
      by_cases hsame : v = s.arrivePayload d fr payload
      · subst hsame
        exact .inl (kept hanswer (by decide))
      · subst hpayload
        exact .inr ⟨kind, args, v, State.executes_of_taken hends hrec hd hrole hlength
          (htakes.of_management rfl) (hpassed hsame), hv, hanswer.mono_same (by decide)⟩

/-! ### The forward queue (R107, R111) -/

/-- The second state's forward queue is the first's, with frames appended. -/
def State.Appends (s t : State) : Prop := ∃ added, t.egress.forwardQueue = s.egress.forwardQueue ++ added

theorem State.Appends.of_eq (h : t.egress.forwardQueue = s.egress.forwardQueue) : s.Appends t := ⟨[], by simp [h]⟩

theorem State.appends_books : Books State.Appends where
  trans := by
    rintro s t u ⟨x, hx⟩ ⟨y, hy⟩
    exact ⟨x ++ y, by rw [hy, hx, List.append_assoc]⟩
  same h hl := .of_eq (h.2 .forwardQueue (hl _ (by decide)))
  raise s e := .of_eq ((s.raise_sameBut e).2 .forwardQueue (by decide))
  countFlow _ _ _ _ := .of_eq rfl
  countGlobal _ _ := .of_eq rfl
  toForward _ d := ⟨[d], rfl⟩

theorem State.Executed.forwardQueue_eq {rq : Requester} {kind : Byte} {args : List Byte}
    (hv : s.Executed rq kind args t) : t.egress.forwardQueue = s.egress.forwardQueue :=
  hv.sameBut.2 .forwardQueue (by decide)

theorem State.applyReset_forwardQueue (s : State) (scope : ResetScope) (received : List Byte) :
    (s.applyReset scope received).egress.forwardQueue = [] := by
  cases scope <;> rfl

theorem State.Handled.forwardQueue (hu : s.Handled c u) :
    s.Appends u ∨ (c = .transmissionStart ∧ u.egress.forwardQueue = s.egress.forwardQueue.tail) ∨
      ((∃ scope, s.ResetTakesEffect c scope) ∧ u.egress.forwardQueue = []) := by
  by_cases hcompletion : ∃ received, c = .transmissionCompletion received
  · obtain ⟨received, rfl⟩ := hcompletion
    obtain ⟨tx, v, htx, hv, rfl⟩ := hu.completed
    by_cases hreset : ∃ scope, s.ResetTakesEffect (.transmissionCompletion received) scope
    · obtain ⟨scope, hscope⟩ := hreset
      refine .inr (.inr ⟨⟨scope, hscope⟩, ?_⟩)
      rw [State.resetIfDue_of_due received ((hv.dueNow_iff received scope htx).mpr hscope)]
      exact State.applyReset_forwardQueue _ _ _
    · refine .inl (.of_eq ?_)
      rw [v.resetIfDue_of_not_due received fun scope hdue =>
        hreset ⟨scope, (hv.dueNow_iff received scope htx).mp hdue⟩]
      exact hv.sameBut.2 .forwardQueue (by decide)
  · by_cases hstart : c = .transmissionStart
    · subst hstart
      cases hu with
      | startForward => exact .inr (.inl ⟨rfl, rfl⟩)
      | startToken | startResponse | startNotice => exact .inl (.of_eq rfl)
      | frameEnd hends =>
        obtain h | ⟨_, _, h, -⟩ := hends
        · cases h
        · cases h
    · exact .inl (State.appends_books.upkeep.handled hu (fun received h => hcompletion ⟨received, h⟩)
        (fun hv _ => .of_eq hv.forwardQueue_eq) (fun _ => State.appends_books.admission s _ _ _) hstart
        fun e q n r due _ => ⟨.of_eq rfl, .of_eq rfl⟩)

/-! ### The cadence (R113, R115, R120) -/

theorem State.CadenceInv.of_same (h : s.CadenceInv) (hcadence : s.samePiece t .cadence)
    (htiming : s.samePiece t .timing) : t.CadenceInv := by
  obtain ⟨-, hdebt, hoverdue, -⟩ := hcadence
  exact ⟨hdebt ▸ h.debt, by rw [hdebt, hoverdue]; exact h.overdue, by
    rw [State.samePiece] at htiming
    rw [htiming]; exact h.timing⟩

/-- An overdue threshold is at least 2, so a debt that reaches it is. -/
theorem overdue_of_rise {overdue : Bool} {debt : Nat} {tm : Timing} (hvalid : tm.valid = true)
    (hold : overdue = true → 2 ≤ debt) (h : overdueAfterRise overdue debt tm.overdueThreshold = true) :
    2 ≤ debt := by
  have hrange := of_decide_eq_true hvalid
  simp only [overdueAfterRise, Bool.or_eq_true, decide_eq_true_eq] at h
  obtain h | h := h
  · exact hold h
  · omega

theorem State.CadenceInv.executed {rq : Requester} {kind : Byte} {args : List Byte} (h : s.CadenceInv)
    (hv : s.Executed rq kind args t) : t.CadenceInv := by
  cases hv with
  | setTiming htiming =>
    have hvalid := (encodeTiming_of_decodeTiming htiming).2
    exact ⟨h.debt, overdue_of_rise hvalid h.overdue, hvalid⟩
  | setEvents set =>
    exact h.of_same ((s.setEnables_sameBut set).2 .cadence (by decide)) ((s.setEnables_sameBut set).2 .timing (by decide))
  | ackNotice e =>
    exact h.of_same ((s.acknowledge_sameBut e).2 .cadence (by decide)) ((s.acknowledge_sameBut e).2 .timing (by decide))
  | _ => exact ⟨h.debt, h.overdue, h.timing⟩

theorem State.CadenceInv.cadenceExpired (h : s.CadenceInv) :
    State.CadenceInv { s with egress := s.egress.cadenceExpired } := by
  refine ⟨Nat.min_le_left _ _, overdue_of_rise h.timing fun hold => ?_, h.timing⟩
  have := h.overdue hold
  have := h.debt
  simp only [Config.debtLimit]
  omega

theorem State.CadenceInv.completeToken (h : s.CadenceInv) : s.completeToken.CadenceInv := by
  refine ⟨(Nat.sub_le _ _).trans h.debt, fun hold => ?_, h.timing⟩
  exact of_decide_eq_true (Bool.and_eq_true_iff.mp hold).2

theorem State.CadenceInv.resetIfDue (h : s.CadenceInv) (received : List Byte) :
    (s.resetIfDue received).CadenceInv := by
  obtain heq | ⟨p, -, -, heq⟩ := s.resetIfDue_cases received
  · rwa [heq]
  · rw [heq]
    have htiming : ((s.storeArrived received).countFreed).egress.timing = s.egress.timing := by
      obtain ⟨k, hk⟩ := (s.storeArrived received).countFreed_eq
      simp [hk]
    cases p.scope with
    | flush => exact ⟨Nat.zero_le _, fun h => Bool.noConfusion h, by rw [← h.timing, ← htiming]; rfl⟩
    | restart => exact ⟨Nat.zero_le _, fun h => Bool.noConfusion h, (by decide : Timing.default.valid = true)⟩

theorem State.Handled.cadenceInv (hu : s.Handled c u) (h : s.CadenceInv) : u.CadenceInv := by
  by_cases hcompletion : ∃ received, c = .transmissionCompletion received
  · obtain ⟨received, rfl⟩ := hcompletion
    obtain ⟨tx, v, -, hv, rfl⟩ := hu.completed
    have hidle : ((s.advanceTo tx.endsAt).idleTransmitter).CadenceInv := ⟨h.debt, h.overdue, h.timing⟩
    have kept {l : List Piece} {v : State} (hv : ((s.advanceTo tx.endsAt).idleTransmitter).SameBut v l)
        (hl : .cadence ∉ l ∧ .timing ∉ l) : v.CadenceInv :=
      hidle.of_same (hv.2 .cadence hl.1) (hv.2 .timing hl.2)
    refine State.CadenceInv.resetIfDue ?_ received
    cases hv with
    | token => exact hidle.completeToken
    | response => exact kept (State.completeResponse_sameBut _) (by decide)
    | notice => exact kept (State.completeNotice_sameBut _ _ _) (by decide)
    | forward => exact kept (State.completeForward_sameBut _ _ _) (by decide)
  · have hc (received) : c ≠ .transmissionCompletion received := fun h => hcompletion ⟨received, h⟩
    have hsame := hu.sameBut hc
    have untouched (h1 : (coursePieces c).contains .cadence = false)
        (h2 : (coursePieces c).contains .timing = false) : u.CadenceInv :=
      h.of_same (hu.samePiece hc h1) (hu.samePiece hc h2)
    cases hu with
    | cadenceExpiry =>
      exact State.CadenceInv.cadenceExpired (s := s.advanceTo _) ⟨h.debt, h.overdue, h.timing⟩
    | cadenceSlip =>
      refine (State.CadenceInv.cadenceExpired (s := s.advanceTo s.egress.cadenceDue)
        ⟨h.debt, h.overdue, h.timing⟩).of_same ?_ ?_
      · exact ((State.countGlobal_sameBut _ _).trans (State.raise_sameBut _ _)).2 .cadence (by decide)
      · exact ((State.countGlobal_sameBut _ _).trans (State.raise_sameBut _ _)).2 .timing (by decide)
    | frameEnd hends hrec hd hlength hv =>
      obtain hkept | ⟨kind, args, v, -, hv, hkept⟩ := hv.executes hends hrec hd hlength
      · exact h.of_same (hkept .cadence (by decide)) (hkept .timing (by decide))
      · have harrived := State.CadenceInv.executed (s := s.arrivePayload _ _ _) ⟨h.debt, h.overdue, h.timing⟩ hv
        exact harrived.of_same (hkept .cadence (by decide)) (hkept .timing (by decide))
    | @frameEndAborted payload d fr =>
      have hframe := s.abortFrame_sameBut d fr payload .between
      exact h.of_same (hframe.2 .cadence (by decide)) (hframe.2 .timing (by decide))
    | completeToken | completeResponse | completeNotice | completeForward => exact absurd rfl (hc _)
    | _ => exact untouched rfl rfl

/-! ### The flow table (R39, R46, R48) -/

/-- What a course does to the flow table: a staged entry written, the banks swapped, the staged bank copied,
the table reset, or nothing. -/
theorem State.Handled.table_cases (hu : s.Handled c u) : u.table = s.table ∨
    (∃ f e, e.valid = true ∧ u.table = s.table.writeStaged f e) ∨ (s.Swaps c ∧ u.table = s.table.swapped) ∨
    u.table = s.table.copied ∨ (s.ResetTakesEffect c .restart ∧ u.table = FlowTable.reset) := by
  by_cases hcompletion : ∃ received, c = .transmissionCompletion received
  · obtain ⟨received, rfl⟩ := hcompletion
    obtain ⟨tx, v, htx, hv, rfl⟩ := hu.completed
    have hkept : v.table = s.table := hv.sameBut.2 .table (by decide)
    obtain heq | ⟨p, hp, hdue, heq⟩ := v.resetIfDue_cases received
    · exact .inl ((congrArg State.table heq).trans hkept)
    · rw [heq]
      cases hscope : p.scope with
      | flush =>
        obtain ⟨k, hk⟩ := (v.storeArrived received).countFreed_eq
        exact .inl ((by simp [State.applyReset, State.flush, hk] : _ = v.table).trans hkept)
      | restart =>
        exact .inr (.inr (.inr (.inr ⟨(hv.dueNow_iff received .restart htx).mp ⟨p, hp, hdue, hscope⟩, rfl⟩)))
  · have hc (received) : c ≠ .transmissionCompletion received := fun h => hcompletion ⟨received, h⟩
    have untouched (h : (coursePieces c).contains .table = false) : u.table = s.table :=
      hu.samePiece (p := .table) hc h
    cases hu with
    | copyCompletion => exact .inr (.inr (.inr (.inl rfl)))
    | frameEnd hends hrec hd hlength hv =>
      obtain hkept | ⟨kind, args, v, hexec, hv, hkept⟩ := hv.executes hends hrec hd hlength
      · exact .inl (hkept .table (by decide))
      · have htable : _ = v.table := hkept .table (by decide)
        rw [State.endReception_table, htable]
        cases hv with
        | writeEntry _ he => exact .inr (.inl ⟨_, _, (encodeEntry_of_decodeEntry he).2, rfl⟩)
        | commit hcopy => exact .inr (.inr (.inl ⟨⟨hexec, hcopy⟩, rfl⟩))
        | setEvents set => exact .inl ((State.setEnables_sameBut _ set).2 .table (by decide))
        | ackNotice e => exact .inl ((State.acknowledge_sameBut _ e).2 .table (by decide))
        | _ => exact .inl rfl
    | frameEndAborted => exact .inl ((s.abortFrame_sameBut _ _ _ _).2 .table (by decide))
    | completeToken | completeResponse | completeNotice | completeForward => exact absurd rfl (hc _)
    | _ => exact .inl (untouched rfl)

/-- Every entry of either bank is valid (R39). -/
def FlowTable.Valid (t : FlowTable) : Prop := ∀ b f, (atFlow (t.bank b) f).valid = true

theorem FlowTable.Valid.putBank {t : FlowTable} (h : t.Valid) (b : BankId) {v : Vector FlowEntry 256}
    (hv : ∀ f, (atFlow v f).valid = true) : (t.putBank b v).Valid := fun b' f => by
  rw [FlowTable.bank_putBank]
  split
  · exact hv f
  · exact h b' f

theorem FlowTable.Valid.reset : FlowTable.reset.Valid := fun b f => by
  cases b <;> simp [FlowTable.reset, FlowTable.bank, atFlow] <;> decide

theorem State.Handled.table_valid (hu : s.Handled c u) (h : s.table.Valid) : u.table.Valid := by
  obtain heq | ⟨f, e, he, heq⟩ | ⟨-, heq⟩ | heq | ⟨-, heq⟩ := hu.table_cases
  · rwa [heq]
  · rw [heq]
    refine h.putBank _ fun g => ?_
    rw [atFlow_setFlow]
    split
    · exact he
    · exact h _ g
  · rw [heq]
    exact fun b f => by cases b; exacts [h .bankA f, h .bankB f]
  · rw [heq]
    have := h.putBank s.table.staged (h s.table.active)
    exact fun b f => this b f
  · rw [heq]
    exact .reset

theorem State.tableInv_iff (s : State) :
    s.TableInv ↔ s.table.Valid ∧ ∀ d fr, s.desc? d = some fr → fr.entry.valid = true :=
  ⟨fun h => ⟨fun b f => by cases b; exacts [h.bankA f, h.bankB f], h.snapshots⟩,
    fun h => ⟨h.1 .bankA, h.1 .bankB, h.2⟩⟩

theorem State.countArrival_desc? (s : State) (role : Role) (h : HeaderBytes) (x : DescId) :
    (s.countArrival role h).desc? x = s.desc? x := by
  rw [State.desc?, s.countArrival_store, State.desc?]

theorem State.admitFrame_desc? (s : State) (d x : DescId) (role : Role) (h : HeaderBytes) :
    (s.admitFrame d role h).desc? x =
      if x = d then some (freshDescriptor role h (s.store.freeCells.take (cellsNeeded (storedLengthOf role h))))
      else s.desc? x := by
  simp only [State.admitFrame, State.desc?, FrameStore.granted, FrameStore.evaluated, Fin.getElem_fin]
  rw [Vector.getElem_set]
  simp [Fin.ext_iff, eq_comm]

theorem Role.entry_valid {h : HeaderBytes} {role : Role} (htable : s.table.Valid) (hrole : s.keptRole h = some role)
    (fr : Descriptor) (hfr : fr.role = role) : fr.entry.valid = true := by
  unfold Descriptor.entry
  rw [hfr]
  cases role with
  | data snap =>
    unfold State.keptRole at hrole
    split at hrole
    · cases hrole
    · cases hrole
    · split at hrole
      · cases hrole
      · obtain rfl : _ = snap := by simpa using hrole
        exact htable _ _
    · next hfate =>
      obtain rfl : _ = Role.data snap := by simpa using hrole
      exact absurd hfate (fateOf_kept_not_data _ h snap)
  | forwardedOther | request | enumeration => decide

theorem State.Handled.tableInv (hu : s.Handled c u) (h : s.TableInv) : u.TableInv := by
  obtain ⟨htable, hsnapshots⟩ := s.tableInv_iff.mp h
  refine u.tableInv_iff.mpr ⟨hu.table_valid htable, fun d fr hd => ?_⟩
  obtain hkept | ⟨header, role, x, rest, hrole, hfree, -, rfl⟩ := hu.framesKept
  · obtain ⟨fr', hfr', hsame⟩ := hkept d fr hd
    rw [hsame.entry]
    exact hsnapshots d fr' hfr'
  · rw [State.admitFrame_desc?] at hd
    split at hd
    · obtain rfl := Option.some.inj hd
      exact Role.entry_valid htable hrole _ rfl
    · rw [State.countArrival_desc?] at hd
      exact hsnapshots d fr hd

/-! ### Reading the memory -/

theorem readByte_of_mem {m : Memory} {a : Nat} {b : Byte} (hm : memoryWf m = true) (hb : (a, b) ∈ m) :
    readByte m a = b := by
  induction m with
  | nil => cases hb
  | cons x m ih =>
    obtain ⟨hfirst, -, hrest⟩ := (memoryWf_cons x m).mp hm
    obtain rfl | hb := List.mem_cons.mp hb
    · exact if_pos rfl
    · have hlt : x.1 < a := hfirst _ hb
      exact (if_neg (by omega)).trans (ih hrest hb)

theorem readByte_of_not_mem {m : Memory} {a : Nat} (hnone : ∀ b, (a, b) ∉ m) : readByte m a = 0 := by
  induction m with
  | nil => rfl
  | cons x m ih =>
    have hne : x.1 ≠ a := by
      rintro rfl
      exact hnone x.2 (List.mem_cons_self ..)
    exact (if_neg hne).trans (ih fun b hb => hnone b (List.mem_cons_of_mem _ hb))

/-! ### The node address (R16, R18) -/

theorem State.resetIfDue_nodeAddress (s : State) (received : List Byte) :
    (s.resetIfDue received).nodeAddress = s.nodeAddress := by
  obtain h | ⟨p, -, -, h⟩ := s.resetIfDue_cases received
  · rw [h]
  · obtain ⟨k, hk⟩ := (s.storeArrived received).countFreed_eq
    rw [h]
    cases p.scope <;> simp [State.applyReset, State.restart, State.flush, hk]

/-- A well-formed ENUM that an unassigned part does not take leaves the address. -/
theorem State.enumerate_nodeAddress {d : DescId} {fr : Descriptor} {payload : List Byte}
    (hform : enumWellFormed payload = true) (hrec : s.receiver.reception = .receiving d)
    (hd : s.desc? d = some fr) (hrole : fr.role = .enumeration) (hlength : payload.length = headerLength fr.header)
    (hno : ∀ a, ¬s.TakesAddress (.frameEnd payload) a) (ht : t.nodeAddress = s.nodeAddress) :
    (t.enumerate fr payload).nodeAddress = s.nodeAddress := by
  obtain ⟨hthree, hcheck⟩ := Bool.and_eq_true_iff.mp hform
  have hthree := of_decide_eq_true hthree
  cases payload with
  | nil => exact ht
  | cons a rest =>
    simp only [State.enumerate]
    split
    · next htakes =>
      obtain ⟨h1, h254⟩ := (nodeAddress_iff a).mp htakes.2
      refine absurd ⟨ht ▸ htakes.1, h1, h254, ?_, d, fr, hrec, hd, hrole, hlength ▸ hthree⟩ (hno a)
      have := eq_withPayloadCheck_of_passes hcheck
      rw [hthree] at this
      rw [this]
      rfl
    · exact ht

theorem State.Handled.nodeAddress_eq (hu : s.Handled c u) (hno : ∀ a, ¬s.TakesAddress c a) :
    u.nodeAddress = s.nodeAddress := by
  by_cases hcompletion : ∃ received, c = .transmissionCompletion received
  · obtain ⟨received, rfl⟩ := hcompletion
    obtain ⟨tx, v, htx, hv, rfl⟩ := hu.completed
    exact (v.resetIfDue_nodeAddress received).trans (hv.sameBut.2 .nodeAddress (by decide))
  · have hc (received) : c ≠ .transmissionCompletion received := fun h => hcompletion ⟨received, h⟩
    have untouched (h : (coursePieces c).contains .nodeAddress = false) : u.nodeAddress = s.nodeAddress :=
      hu.samePiece (p := .nodeAddress) hc h
    cases hu with
    | frameEndAborted => exact (s.abortFrame_sameBut _ _ _ _).2 .nodeAddress (by decide)
    | frameEnd hends hrec hd hlength hv hrow =>
      cases hv with
      | data => exact (State.endData_ended _ _ _).sameBut.2 .nodeAddress (by decide)
      | forwarded => rfl
      | request hrole hcheck hv =>
        have hkept := hv.sameBut.2 .nodeAddress (by decide)
        split
        · exact hkept
        · exact State.samePiece.trans (p := .nodeAddress) hkept
            ((State.releaseDropped_sameBut_counted _ _).2 .nodeAddress (by decide))
      | enumeration hrole hform =>
        have hends : c = .frameEnd _ := hrow.resolve_right (by simp [hrole])
        exact State.enumerate_nodeAddress hform hrec hd hrole hlength (hends ▸ hno) rfl
      | checkFault => exact (State.dropCheckFault_sameBut _ _).2 .nodeAddress (by decide)
    | completeToken | completeResponse | completeNotice | completeForward => exact absurd rfl (hc _)
    | _ => exact untouched rfl

/-- An executed COMMIT with no copy in flight leaves the swapped table. -/
theorem State.Swaps.table_eq (h : s.Swaps c) (ht : exec c s = .next t) : t.table = s.table.swapped := by
  obtain ⟨⟨d, fr, sequence, hform, hslot, htakes, hclaim⟩, hcopy⟩ := h
  obtain ⟨k, hk, hholder⟩ := hclaim rfl
  have hlength : (requestPayload 0x06 [sequence]).length = headerLength fr.header := by rw [hslot.length]; rfl
  have hrow : exec (.commit [sequence]) s = exec (.frameEnd (requestPayload 0x06 [sequence])) s :=
    exec_request_eq_frameEnd rfl hslot.slot hslot.desc hslot.role hlength
  obtain ⟨v, hv, htable, -⟩ := exec_commit_idle htakes hk hholder hslot hcopy
  obtain hc | rfl := hform
  · rw [exec_request_eq_frameEnd hc hslot.slot hslot.desc hslot.role hlength, ← hrow, hv] at ht
    obtain rfl := Host.Outcome.next.inj ht
    exact htable
  · rw [← hrow, hv] at ht
    obtain rfl := Host.Outcome.next.inj ht
    exact htable

theorem FlowTable.swapped_active (tb : FlowTable) :
    tb.swapped.active = if tb.active = .bankA then .bankB else .bankA := by
  unfold FlowTable.swapped BankId.other
  cases tb.active <;> rfl

end Sys2Proof.Machine

section
open Sys2Proof Sys2Proof.Machine

/-- Settles O8. -/
theorem theClockOnlyGoesForward : Obligations.TheClockOnlyGoesForward := by
  unfold Obligations.TheClockOnlyGoesForward
  refine ⟨fun n => ⟨by simp only [Config.usec, Config.unitsPerMicrosecond], by
    simp [Config.msec, Config.usec, Config.unitsPerMicrosecond]; omega, by
    simp [Config.seconds, Config.msec, Config.usec, Config.unitsPerMicrosecond]; omega⟩, ?_⟩
  intro c s t h hc
  refine ⟨?_, ?_, ?_, ?_, ?_, ?_, ?_⟩
  · obtain rfl | ⟨u, hu, rfl⟩ := exec_answers h hc
    · exact le_rfl
    · exact (le_max_left _ _).trans_eq hu.now_eq.symm
  · rintro d fr due rfl hd hdue
    have := State.Handled.clock (.deadlineExpiry hd hdue) (by simp [exec, execDeadlineExpiry, hd, hdue, State.done]) h
    simpa [State.timeOf, hd, hdue] using this
  · rintro k rfl hclaim
    have := State.Handled.clock (.leaseExpiry hclaim) (by simp [exec, execLeaseExpiry, hclaim, State.done]) h
    simpa [State.timeOf, hclaim] using this
  · rintro e q n r due rfl hentry
    by_cases hr : r < 3
    · have := State.Handled.clock (.retryResent hentry hr) (by
        simp only [exec, execRetryTimerExpiry, hentry]; exact if_pos hr) h
      simpa [State.timeOf, hentry] using this
    · have := State.Handled.clock (.retryExhausted hentry (Nat.le_of_not_lt hr)) (by
        simp only [exec, execRetryTimerExpiry, hentry]; exact if_neg hr) h
      simpa [State.timeOf, hentry] using this
  · rintro due rfl hdue
    have := State.Handled.clock (.holdWaitExpiry hdue) (by simp [exec, execHoldWaitExpiry, hdue, State.done]) h
    simpa [State.timeOf, hdue] using this
  · rintro rfl
    by_cases hslip : Config.debtLimit ≤ s.egress.debt
    · exact State.Handled.clock (.cadenceSlip hslip) (by simp only [exec, execCadenceExpiry, if_pos hslip]; rfl) h
    · exact State.Handled.clock .cadenceExpiry (by simp only [exec, execCadenceExpiry, if_neg hslip]; rfl) h
  · rintro received tx rfl htx
    obtain ⟨v, hv, rfl⟩ := exec_completion_completed h htx
    exact (State.resetIfDue_now v received).trans hv.now_eq

/-- Settles O9: settling decides the timer, and nothing else touches it but its own expiry and a reset. -/
theorem holdWaitTimerRunsWithItsConditions : Obligations.HoldWaitTimerRunsWithItsConditions := by
  unfold Obligations.HoldWaitTimerRunsWithItsConditions
  intro c s t hinv h
  have reset (received scope) (hreset : s.ResetTakesEffect (.transmissionCompletion received) scope)
      (h : exec (.transmissionCompletion received) s = .next t) :
      ∃ v : State, t = (v.applyReset scope received).settle := by
    obtain ⟨_, tx, _, _, htx, -⟩ := id hreset
    obtain ⟨v, hv, rfl⟩ := exec_completion_completed h htx
    exact ⟨v, by rw [State.resetIfDue_of_due received ((hv.dueNow_iff received scope htx).mpr hreset)]⟩
  refine ⟨?_, fun hno hc due hdue => ?_, fun scope hreset due hdue => ?_, ?_⟩
  · obtain ⟨b, -, rfl⟩ | rfl | ⟨u, -, rfl⟩ := exec_cases h
    · exact (powerOnState_inv b s.pending).holdWait
    · exact hinv
    · exact u.settle_holdWaitInv
  · obtain rfl | ⟨u, hu, rfl⟩ := exec_answers h hc
    · exact .inl hdue
    · obtain ⟨hruns, hdue⟩ := u.settle_holdWait hdue
      have hkept : u.egress.holdWait = s.egress.holdWait := hu.holdWait_eq hno hruns
      rwa [hkept] at hdue
  · obtain ⟨received, _, _, rfl, -⟩ := id hreset
    obtain ⟨v, rfl⟩ := reset received scope hreset h
    obtain ⟨-, hdue | ⟨-, hdue⟩⟩ := State.settle_holdWait hdue
    · rw [State.applyReset_holdWait] at hdue
      cases hdue
    · exact hdue
  · rintro b rfl
    rw [exec_powerOn] at h
    cases h
    rfl

/-- Settles O7. -/
theorem everyCommandKeepsTheNoticeTableAndTheCounters :
    Obligations.EveryCommandKeepsTheNoticeTableAndTheCounters := by
  unfold Obligations.EveryCommandKeepsTheNoticeTableAndTheCounters
  refine ⟨fun c s t h => ⟨fun hs => ?_, fun hs => ?_⟩, FlowCounters.count_eq_plus, GlobalCounters.count_eq_plus,
    State.raise_raisedOnce, fun e => ?_, rfl, rfl, rfl, fun q n r due a o => ⟨rfl, rfl, rfl, rfl, rfl, rfl, rfl,
    rfl, rfl⟩⟩
  · exact exec_keeps h hs (fun b => (powerOnState_inv b s.pending).events) (fun u hu => hu.of_events rfl)
      fun u hu => hu.eventInv hs
  · exact exec_keeps h hs (fun b => (powerOnState_inv b s.pending).counters)
      (fun u hu => hu.of_same (fun _ => rfl) rfl) fun u hu => hu.counterInv hs
  · cases e <;> simp [NoticeEntry.takesNotice]

/-- Settles O19. -/
theorem forwardQueueIsAFifo : Obligations.ForwardQueueIsAFifo := by
  unfold Obligations.ForwardQueueIsAFifo
  intro c s t h
  obtain ⟨b, rfl, rfl⟩ | rfl | ⟨u, hu, rfl⟩ := exec_cases h
  · exact .inr (.inr ⟨.inr ⟨b, rfl⟩, rfl⟩)
  · exact .inl ⟨[], by simp⟩
  · obtain happends | hstart | ⟨hreset, hempty⟩ := hu.forwardQueue
    · exact .inl happends
    · exact .inr (.inl hstart)
    · exact .inr (.inr ⟨.inl hreset, hempty⟩)

/-- Settles O6. -/
theorem everyCommandKeepsTheCadence : Obligations.EveryCommandKeepsTheCadence := by
  unfold Obligations.EveryCommandKeepsTheCadence
  intro c s t hs h
  exact exec_keeps h hs (fun b => (powerOnState_inv b s.pending).cadence)
    (fun u hu => ⟨hu.debt, hu.overdue, hu.timing⟩) fun u hu => hu.cadenceInv hs

/-- Settles O5. -/
theorem everyCommandKeepsTheMemoryAndTheEntries : Obligations.EveryCommandKeepsTheMemoryAndTheEntries := by
  unfold Obligations.EveryCommandKeepsTheMemoryAndTheEntries
  refine ⟨fun c s t h => ⟨fun hs => ?_, fun hs => ?_⟩, fun m => ?_, fun m a hm => ⟨fun b hb => ?_, fun hnone => ?_⟩⟩
  · exact exec_keeps h hs (fun b => (powerOnState_inv b s.pending).memory) (fun u hu => hu)
      fun u hu => hu.written.wf hs
  · exact exec_keeps h hs (fun b => (powerOnState_inv b s.pending).table)
      (fun u hu => ⟨hu.bankA, hu.bankB, hu.snapshots⟩) fun u hu => hu.tableInv hs
  · rw [memoryWf_iff]
    exact Iff.rfl
  · exact readByte_of_mem hm hb
  · exact readByte_of_not_mem hnone

/-- Settles O18. -/
theorem addressAndGenerationChangeOnlyAsStated : Obligations.AddressAndGenerationChangeOnlyAsStated := by
  unfold Obligations.AddressAndGenerationChangeOnlyAsStated
  intro c s t h
  refine ⟨?powerOn, ?takes, ?address, ?restart, ?swap, ?table⟩
  case powerOn =>
    rintro ⟨b, rfl⟩
    obtain rfl := Host.Outcome.next.inj h
    exact ⟨rfl, rfl, rfl⟩
  case takes =>
    rintro a ⟨hzero, h1, h254, rfl, d, fr, hrec, hd, hrole, hlength⟩
    obtain ⟨v, hv, haddress, -⟩ := ((enumFramesAssignTheAddressAndFailedChecksAreDropped s d fr
      (withPayloadCheck [a]) hrec hd (by rw [hlength]; rfl)).2 a _ _ hrole rfl
      (payloadCheckPasses_withPayloadCheck _)).1 ⟨hzero, h1, h254⟩
    obtain rfl := Host.Outcome.next.inj (hv.symm.trans h)
    exact haddress
  case address =>
    intro hc hno
    obtain rfl | ⟨u, hu, rfl⟩ := exec_answers h hc
    · rfl
    · exact hu.nodeAddress_eq hno
  case restart =>
    rintro ⟨received, tx, p, rfl, htx, hp, hscope, hrest⟩
    obtain ⟨v, hv, rfl⟩ := exec_completion_completed h htx
    have hdue := (hv.dueNow_iff received .restart htx).mpr ⟨received, tx, p, rfl, htx, hp, hscope, hrest⟩
    rw [State.resetIfDue_of_due received hdue]
    exact ⟨rfl, rfl⟩
  case swap =>
    intro hswap
    rw [hswap.table_eq h]
    exact ⟨rfl, s.table.swapped_active⟩
  case table =>
    intro hc hrestart hswap
    obtain rfl | ⟨u, hu, rfl⟩ := exec_answers h hc
    · exact ⟨rfl, rfl⟩
    · have hactive := s.table.putBank_active
      have hgeneration := s.table.putBank_generation
      obtain heq | ⟨f, e, -, heq⟩ | ⟨hyes, -⟩ | heq | ⟨hyes, -⟩ := hu.table_cases
      · exact ⟨congrArg FlowTable.generation heq, congrArg FlowTable.active heq⟩
      · exact ⟨(congrArg FlowTable.generation heq).trans (hgeneration _ _),
          (congrArg FlowTable.active heq).trans (hactive _ _)⟩
      · exact absurd hyes hswap
      · exact ⟨(congrArg FlowTable.generation heq).trans (hgeneration _ _),
          (congrArg FlowTable.active heq).trans (hactive _ _)⟩
      · exact absurd hyes hrestart

end
end

section
/-! Stored frames and their bytes, commands that answer in every consistent part, and the syndromes of the
frames with the locator. -/

namespace Sys2Proof.Machine

variable {s t u : State} {c : Instr} {d : DescId} {fr : Descriptor}

/-! ### A consistent part answers every command -/

theorem State.InPlace.desc {p : Place} (h : s.InPlace d p) : ∃ fr, s.desc? d = some fr := h.imp fun _ hfr => hfr.1

theorem State.Inv.slot_desc (h : s.Inv) (hrec : s.receiver.reception = .receiving d) : ∃ fr, s.desc? d = some fr :=
  ((h.places.receiving d).mp hrec).desc

theorem State.Inv.engine_desc (h : s.Inv) {e : EngineId} {r : Run} (he : s.engineRun e = some r) :
    ∃ fr, s.desc? r.desc = some fr :=
  ((h.places.locating r.desc).mp ⟨e, by simp [State.engineDesc, he]⟩).desc

/-- A command has a next state. -/
def Completes (o : Host.Outcome State Fault Refusal) : Prop := ∃ t, o = .next t

theorem completes_next (t : State) : Completes (.next t) := ⟨t, rfl⟩

theorem State.done_completes (u : State) : Completes u.done := ⟨_, rfl⟩

theorem State.Inv.loss_completes (h : s.Inv) (received : List Byte) : Completes (execLoss received s) := by
  unfold execLoss
  split
  · exact completes_next s
  · split
    case h_4 d hrec =>
      obtain ⟨fr, hfr⟩ := h.slot_desc hrec
      rw [hfr]
      exact State.done_completes _
    all_goals exact State.done_completes _

theorem State.Inv.startDelimiter_completes (h : s.Inv) (received : List Byte) :
    Completes (execStartDelimiter s received) := by
  unfold execStartDelimiter
  split
  · exact completes_next s
  · split
    case h_4 d hrec =>
      obtain ⟨fr, hfr⟩ := h.slot_desc hrec
      rw [hfr]
      exact State.done_completes _
    all_goals exact State.done_completes _

theorem execFrameCutShort_completes (s : State) (symbol : LineSymbol) : Completes (execFrameCutShort symbol s) := by
  unfold execFrameCutShort
  split
  case h_4 =>
    cases symbol with
    | dataByte => exact completes_next s
    | _ => exact State.done_completes _
  all_goals exact completes_next s

theorem State.Inv.abort_completes (h : s.Inv) (symbol : LineSymbol) (received : List Byte) :
    Completes (execAbort symbol received s) := by
  unfold execAbort
  split
  case h_4 d hrec =>
    obtain ⟨fr, hfr⟩ := h.slot_desc hrec
    rw [hfr]
    dsimp only
    split
    · exact State.done_completes _
    · exact completes_next s
  all_goals exact completes_next s

theorem State.Inv.frameEnd_completes (h : s.Inv) (payload : List Byte) : Completes (execFrameEnd payload s) := by
  unfold execFrameEnd
  split
  case h_4 d hrec =>
    obtain ⟨fr, hfr⟩ := h.slot_desc hrec
    rw [hfr]
    dsimp only
    split
    · exact State.done_completes _
    · exact State.done_completes _
  all_goals exact completes_next s

theorem State.Inv.request_completes (h : s.Inv) (kind : Byte) (body : List Byte) (hd : Option Handler) :
    Completes (requestFrameEnd kind body hd s) := by
  unfold requestFrameEnd
  split
  case h_4 d hrec =>
    obtain ⟨fr, hfr⟩ := h.slot_desc hrec
    rw [hfr]
    dsimp only
    split
    · exact State.done_completes _
    · exact completes_next s
  all_goals exact completes_next s

theorem State.Inv.pickup_completes (h : s.Inv) (e : EngineId) : Completes (execPickup e s) := by
  unfold execPickup
  split
  · exact completes_next s
  · split
    · exact completes_next s
    · next d rest hqueue =>
      obtain ⟨fr, hfr⟩ := ((h.places.queued d).mp (by simp [hqueue])).desc
      rw [hfr]
      split
      · exact completes_next s
      · exact State.done_completes _

theorem State.Inv.completionList_completes (h : s.Inv) (e : EngineId) :
    Completes (execLocatorCompletionList e s) := by
  unfold execLocatorCompletionList
  split
  · exact completes_next s
  · next r he =>
    obtain ⟨fr, hfr⟩ := h.engine_desc he
    rw [hfr]
    dsimp only
    split
    · exact completes_next s
    · exact State.done_completes _

theorem State.Inv.completionFailed_completes (h : s.Inv) (e : EngineId) :
    Completes (execLocatorCompletionFailed e s) := by
  unfold execLocatorCompletionFailed
  split
  · exact completes_next s
  · next r he =>
    obtain ⟨fr, hfr⟩ := h.engine_desc he
    rw [hfr]
    dsimp only
    split
    · exact completes_next s
    · exact State.done_completes _

theorem execDeadlineExpiry_completes (s : State) (d : DescId) : Completes (execDeadlineExpiry d s) := by
  unfold execDeadlineExpiry
  split
  · exact completes_next s
  · split
    · exact completes_next s
    · exact State.done_completes _

theorem State.Inv.start_completes (h : s.Inv) : Completes (execTransmissionStart s) := by
  unfold execTransmissionStart
  split
  · exact completes_next s
  · split
    · exact completes_next s
    · exact State.done_completes _
    · exact State.done_completes _
    · split
      · exact completes_next s
      · exact State.done_completes _
    · next d hchosen =>
      obtain ⟨rest, hqueue⟩ := State.head_of_chosen_forward hchosen
      obtain ⟨fr, hfr⟩ := ((h.places.forward d).mp (by simp [hqueue])).desc
      rw [hfr]
      exact State.done_completes _

theorem State.Inv.completion_completes (h : s.Inv) (received : List Byte) :
    Completes (exec (.transmissionCompletion received) s) := by
  cases htx : s.egress.transmitter with
  | none => exact ⟨s, by simp [exec, execTransmissionCompletion, htx]⟩
  | some tx =>
    cases hsource : tx.source with
    | token => exact ⟨_, exec_completion_token received htx hsource⟩
    | response => exact ⟨_, exec_completion_response received htx hsource⟩
    | notice e q => exact ⟨_, exec_completion_notice received htx hsource⟩
    | forward d =>
      have hsending : s.sending = some (.forward d) := by simp [State.sending, htx, hsource]
      obtain ⟨fr, hfr⟩ := ((h.places.sending d).mp hsending).desc
      exact ⟨_, exec_completion_forward received htx hsource hfr⟩

theorem execAcquisition_completes (s : State) : Completes (execAcquisition s) := by
  unfold execAcquisition
  split <;> first | exact completes_next s | exact State.done_completes _

theorem execHoldWaitExpiry_completes (s : State) : Completes (execHoldWaitExpiry s) := by
  unfold execHoldWaitExpiry
  split <;> first | exact completes_next s | exact State.done_completes _

theorem execLeaseExpiry_completes (s : State) : Completes (execLeaseExpiry s) := by
  unfold execLeaseExpiry
  split <;> first | exact completes_next s | exact State.done_completes _

theorem execCopyCompletion_completes (s : State) : Completes (execCopyCompletion s) := by
  unfold execCopyCompletion
  split <;> first | exact completes_next s | exact State.done_completes _

theorem execSkipEnd_completes (s : State) (symbol : LineSymbol) : Completes (execSkipEnd symbol s) := by
  unfold execSkipEnd
  split <;> first | exact completes_next s | exact State.done_completes _

theorem execHeaderArrival_completes (s : State) (header : HeaderBytes) :
    Completes (execHeaderArrival header s) := by
  unfold execHeaderArrival
  split <;> first | exact completes_next s | exact State.done_completes _

theorem execCadenceExpiry_completes (s : State) : Completes (execCadenceExpiry s) := by
  unfold execCadenceExpiry
  dsimp only
  split <;> exact State.done_completes _

theorem execRetryTimerExpiry_completes (s : State) (e : EventClass) : Completes (execRetryTimerExpiry e s) := by
  unfold execRetryTimerExpiry
  split
  · dsimp only
    split <;> exact State.done_completes _
  all_goals exact completes_next s

/-! ### The bytes of stored frames (R20, R26, R64) -/

/-- Frames of different descriptors list no cell in common, and no free one. -/
theorem State.StoreInv.cells_disjoint (h : s.StoreInv) {x y : DescId} {fx fy : Descriptor} (hx : s.desc? x = some fx)
    (hy : s.desc? y = some fy) (hne : x ≠ y) : ∀ k ∈ fx.cells, k ∉ fy.cells := by
  have hnodup := h.conserved.nodup_iff.mpr (List.nodup_finRange 128)
  have hpairs := (List.nodup_flatMap.mp (List.nodup_append.mp hnodup).2.1).2
  intro k hkx hky
  have hdisjoint (a b : DescId) (fa fb : Descriptor) (ha : s.desc? a = some fa) (hb : s.desc? b = some fb)
      (hab : a < b) (hka : k ∈ fa.cells) (hkb : k ∈ fb.cells) : False := by
    have := List.pairwise_iff_getElem.mp hpairs a.val b.val (by simp) (by simp) hab
    simp only [Function.onFun, List.getElem_finRange, Fin.cast_mk, Fin.eta, ha, hb] at this
    exact this hka hkb
  obtain hlt | hlt := lt_or_gt_of_ne hne
  · exact hdisjoint x y fx fy hx hy hlt hkx hky
  · exact hdisjoint y x fy fx hy hx hlt hky hkx

theorem State.StoreInv.cells_not_free (h : s.StoreInv) (hd : s.desc? d = some fr) :
    ∀ k ∈ fr.cells, k ∉ s.store.freeCells := by
  have hnodup := h.conserved.nodup_iff.mpr (List.nodup_finRange 128)
  intro k hk hfree
  refine (List.nodup_append.mp hnodup).2.2 k hfree k ?_ rfl
  exact List.mem_flatMap.mpr ⟨d, List.mem_finRange d, by simpa [hd] using hk⟩

theorem Written.readFrameByte_eq {cells cells' : List CellId} {m m' : Memory} (h : Written cells m m')
    (hdisjoint : ∀ k ∈ cells', k ∉ cells) (k : Nat) : readFrameByte m' cells' k = readFrameByte m cells' k := by
  unfold readFrameByte
  split
  · next a ha =>
    obtain ⟨x, hx, hax⟩ := frameAddress_cell ha
    refine h.readByte_eq fun y hy hay => hdisjoint x hx ?_
    rwa [Fin.ext (hax.symm.trans hay)]
  · rfl

theorem State.cellsOf_eq (hd : s.desc? d = some fr) : s.cellsOf d = fr.cells := by simp [State.cellsOf, hd]

/-- What a command writes lies in the cells of no other stored frame than the one received or corrected. -/
theorem State.Inv.writtenCells_disjoint (h : s.Inv) (hd : s.desc? d = some fr) (hplace : fr.place ≠ .receiving)
    (hc : ∀ e, c = .locatorCompletionList e → s.engineDesc e ≠ some d) : ∀ k ∈ fr.cells, k ∉ s.writtenCells c := by
  have other {x : DescId} (hx : x ≠ d) : ∀ k ∈ fr.cells, k ∉ s.cellsOf x := by
    cases hfx : s.desc? x with
    | none => simp [State.cellsOf, hfx]
    | some fx =>
      rw [State.cellsOf_eq hfx]
      exact h.store.cells_disjoint hd hfx hx.symm
  have slot : ∀ k ∈ fr.cells, k ∉ s.slotCells := by
    unfold State.slotCells
    split
    · next x hrec =>
      refine other ?_
      rintro rfl
      obtain ⟨fx, hfx, hreceiving⟩ := (h.places.receiving x).mp hrec
      obtain rfl := Option.some.inj (hfx.symm.trans hd)
      exact hplace hreceiving
    all_goals simp
  unfold State.writtenCells
  split
  · exact h.store.cells_not_free hd
  · next e =>
    cases hx : s.engineDesc e with
    | none => simp
    | some x => exact other fun heq => hc e rfl (heq ▸ hx)
  · exact slot

theorem State.Inv.readFrameByte_eq (h : s.Inv) (hu : s.Handled c u) (hd : s.desc? d = some fr)
    (hplace : fr.place ≠ .receiving) (hc : ∀ e, c = .locatorCompletionList e → s.engineDesc e ≠ some d) (k : Nat) :
    readFrameByte u.store.memory fr.cells k = readFrameByte s.store.memory fr.cells k :=
  hu.written.readFrameByte_eq (h.writtenCells_disjoint hd hplace hc) k

theorem readPayload_length (m : Memory) (cells : List CellId) (n : Nat) : (readPayload m cells n).length = n := by
  simp [readPayload]

/-! ### Stored frames (R23, R26, R44) -/

theorem State.Inv.sameFrame (h : s.Inv) (hu : s.Handled c u) {fr' : Descriptor} (hd : s.desc? d = some fr)
    (hd' : u.desc? d = some fr') : fr.SameFrame fr' := by
  obtain hkept | ⟨header, role, x, rest, hrole, hfree, -, rfl⟩ := hu.framesKept
  · obtain ⟨fx, hfx, hsame⟩ := hkept d fr' hd'
    rwa [Option.some.inj (hd.symm.trans hfx)]
  · have hne : d ≠ x := by
      rintro rfl
      have := (h.store.freeExact.2 d).mp (by simp [hfree])
      simp [hd] at this
    rw [State.admitFrame_desc?, if_neg hne, State.countArrival_desc?, hd] at hd'
    rw [Option.some.inj hd']
    exact .refl fr'

end Sys2Proof.Machine

section
open Sys2Proof Sys2Proof.Machine

/-- Settles O11: what a handler looks up stands in the place that PlaceInv gives it. -/
theorem noCommandStopsAConsistentPart : Obligations.NoCommandStopsAConsistentPart := by
  unfold Obligations.NoCommandStopsAConsistentPart
  intro c s h
  cases c with
  | powerOn b => exact ⟨_, rfl⟩
  | holdInAssertion | holdInRelease => exact ⟨_, rfl⟩
  | acquisition => exact execAcquisition_completes s
  | loss received => exact h.loss_completes received
  | startDelimiter received => exact h.startDelimiter_completes received
  | frameCutShort symbol => exact execFrameCutShort_completes s symbol
  | abort symbol received => exact h.abort_completes symbol received
  | frameEnd payload => exact h.frameEnd_completes payload
  | pickup e => exact h.pickup_completes e
  | locatorCompletionList e => exact h.completionList_completes e
  | locatorCompletionFailed e => exact h.completionFailed_completes e
  | deadlineExpiry d => exact execDeadlineExpiry_completes s d
  | transmissionStart => exact h.start_completes
  | transmissionCompletion received => exact h.completion_completes received
  | skipEnd symbol => exact execSkipEnd_completes s symbol
  | headerArrival header => exact execHeaderArrival_completes s header
  | cadenceExpiry => exact execCadenceExpiry_completes s
  | holdWaitExpiry => exact execHoldWaitExpiry_completes s
  | leaseExpiry => exact execLeaseExpiry_completes s
  | retryTimerExpiry e => exact execRetryTimerExpiry_completes s e
  | copyCompletion => exact execCopyCompletion_completes s
  | _ => exact h.request_completes _ _ _

/-- Settles O16. -/
theorem storedFramesAreFixed : Obligations.StoredFramesAreFixed := by
  unfold Obligations.StoredFramesAreFixed
  intro c s t d fr fr' hinv h hd hd'
  have hsame : fr.SameFrame fr' := by
    obtain ⟨b, rfl, rfl⟩ | rfl | ⟨u, hu, rfl⟩ := exec_cases h
    · cases (powerOnState_desc? b s.pending d).symm.trans hd'
    · rw [Option.some.inj (hd.symm.trans hd')]
      exact .refl fr'
    · exact hinv.sameFrame hu hd hd'
  exact ⟨hsame.role, hsame.storedLength, hsame.cells, hsame.header⟩

/-- Settles O17. -/
theorem storedBytesAreKept : Obligations.StoredBytesAreKept := by
  unfold Obligations.StoredBytesAreKept
  refine ⟨fun m cells k n p => ⟨?_, fun a ha => by simp [readFrameByte, ha], readPayload_length m cells n,
    fun hp => by simp [readPayload, hp, Config.headerBytes]⟩, ?_⟩
  · simp only [frameAddress, Config.cellBytes]
    congr 1
    funext x
    omega
  · intro c s t d fr fr' k hinv h hd hd' _ hplace hc
    obtain ⟨b, rfl, rfl⟩ | rfl | ⟨u, hu, rfl⟩ := exec_cases h
    · cases (powerOnState_desc? b s.pending d).symm.trans hd'
    · rfl
    · exact hinv.readFrameByte_eq hu hd hplace hc k

end
end

section
/-! The syndromes of the frames with the locator (R58, R64). -/

namespace Sys2Proof.Machine

variable {s t u : State} {c : Instr} {d x : DescId} {fr : Descriptor}

/-- The waiting commands are no part of what is consistent. -/
theorem State.Inv.withPending (h : s.Inv) (l : List Instr) : State.Inv { s with pending := l } :=
  { h with
    store := { h.store with }
    table := { h.table with }
    receiver := { h.receiver with }
    frames := { h.frames with }
    places := { h.places with }
    runs := { h.runs with }
    chains := { h.chains with }
    cadence := { h.cadence with }
    transmitter := { h.transmitter with }
    management := { h.management with }
    counters := { h.counters with } }

/-! ### Frames of other descriptors at a frame-end -/

theorem State.OtherDescs.trans (h : s.OtherDescs t d) (h' : t.OtherDescs u d) : s.OtherDescs u d :=
  fun e he => (h' e he).trans (h e he)

theorem State.SameBut.otherDescs {l : List Piece} (h : s.SameBut t l) (hl : .descriptors ∉ l) (d : DescId) :
    s.OtherDescs t d := fun e _ => h.2 .descriptors hl e

theorem State.modDesc_others (s : State) (d : DescId) (f : Descriptor → Descriptor) :
    s.OtherDescs (s.modDesc d f) d := fun e he => by rw [State.modDesc_desc?, if_neg he]

theorem State.releaseDropped_others (s : State) (d : DescId) : s.OtherDescs (s.releaseDropped d) d :=
  fun e he => by rw [State.releaseDropped_desc?, if_neg he]

theorem State.toForward_others (s : State) (d : DescId) : s.OtherDescs (s.toForward d) d :=
  (s.modDesc_others d _).trans fun _ _ => rfl

theorem State.hold_others (s : State) (d : DescId) (fr : Descriptor) : s.OtherDescs (s.hold d fr) d :=
  ((s.modDesc_others d _).trans (State.modDesc_others _ d _)).trans fun _ _ => rfl

theorem State.enqueue_others (s : State) (d : DescId) (syndromes : List Byte) :
    s.OtherDescs (s.enqueue d syndromes) d :=
  (((s.modDesc_others d _).trans (State.modDesc_others _ d _)).trans (State.modDesc_others _ d _)).trans
    fun _ _ => rfl

theorem State.dropOverflow_others (s : State) (d : DescId) : s.OtherDescs (s.dropOverflow d) d :=
  (s.releaseDropped_others d).trans ((State.raise_sameBut _ _).otherDescs (by decide) d)

theorem State.RoutedReady.others (hu : s.RoutedReady d fr u) : s.OtherDescs u d := by
  cases hu with
  | onward => exact s.toForward_others d
  | held => exact s.hold_others d fr
  | overflow => exact s.dropOverflow_others d

theorem State.RoutedLocate.others {syndromes : List Byte} (hu : s.RoutedLocate d fr syndromes u) :
    s.OtherDescs u d := by
  cases hu with
  | free => exact s.enqueue_others d syndromes
  | ordered => exact (s.enqueue_others d syndromes).trans fun _ _ => rfl
  | overflow => exact s.dropOverflow_others d

theorem State.DataEnded.others (hu : s.DataEnded d fr u) : s.OtherDescs u d := by
  have failed := ((s.countFlow_sameBut fr.flow .codeFailed 1).trans
    (State.raise_sameBut _ .codeFailure)).otherDescs (by decide) d
  cases hu with
  | ready _ hu => exact ((s.countFlow_sameBut _ _ _).otherDescs (by decide) d).trans hu.others
  | encoded _ hu =>
    exact (((s.putMemory_sameBut _).trans (State.countFlow_sameBut _ _ _ _)).otherDescs (by decide) d).trans
      hu.others
  | toLocate _ _ _ hu => exact hu.others
  | dropped => exact failed.trans (State.releaseDropped_others _ d)
  | marked _ _ hu => exact (failed.trans (State.modDesc_others _ d _)).trans hu.others

theorem State.Dispatched.others {payload : List Byte} (hu : s.Dispatched d fr payload u) : s.OtherDescs u d := by
  cases hu with
  | data => exact (s.endData_ended d fr).others
  | forwarded => exact s.toForward_others d
  | request _ _ hv =>
    have hkept := hv.sameBut.otherDescs (by decide) d
    split
    · exact hkept.trans (State.toForward_others _ d)
    · exact hkept.trans (State.releaseDropped_others _ d)
  | enumeration =>
    exact ((s.enumerate_sameBut fr payload).otherDescs (by decide) d).trans (State.toForward_others _ d)
  | checkFault => exact (s.releaseDropped_others d).trans ((State.countGlobal_sameBut _ _).otherDescs (by decide) d)

/-! ### Frames with the locator -/

/-- The frame waits for a locator or is being located. -/
def Descriptor.withLocator (fr : Descriptor) : Prop := fr.place = .queued ∨ fr.place = .locating

/-- A frame that is with the locator in the second state was with it in the first, and has its syndromes. -/
def State.KeptAt (x : DescId) (s t : State) : Prop :=
  ∀ fr', t.desc? x = some fr' → fr'.withLocator →
    ∃ fr, s.desc? x = some fr ∧ fr.SameFrame fr' ∧ fr.withLocator ∧ fr'.syndromes = fr.syndromes

theorem State.KeptAt.trans (h : State.KeptAt x s t) (h' : State.KeptAt x t u) : State.KeptAt x s u := by
  intro fr'' hx hwith
  obtain ⟨fr', hfr', hsame', hwith', hsyndromes'⟩ := h' fr'' hx hwith
  obtain ⟨fr, hfr, hsame, hwith, hsyndromes⟩ := h fr' hfr' hwith'
  exact ⟨fr, hfr, hsame.trans hsame', hwith, hsyndromes'.trans hsyndromes⟩

theorem State.KeptAt.of_eq (h : t.desc? x = s.desc? x) : State.KeptAt x s t :=
  fun fr' hx hwith => ⟨fr', h ▸ hx, .refl fr', hwith, rfl⟩

theorem State.KeptAt.of_none (h : t.desc? x = none) : State.KeptAt x s t := fun _ hx => by simp [h] at hx

theorem State.SameBut.keptAt {l : List Piece} (h : s.SameBut t l) (hl : .descriptors ∉ l) : State.KeptAt x s t :=
  .of_eq (h.2 .descriptors hl x)

theorem State.modDesc_keptAt (s : State) (d : DescId) {f : Descriptor → Descriptor}
    (hf : ∀ fr : Descriptor, (f fr).withLocator →
      fr.SameFrame (f fr) ∧ fr.withLocator ∧ (f fr).syndromes = fr.syndromes) : State.KeptAt x s (s.modDesc d f) := by
  intro fr' hx hwith
  rw [State.modDesc_desc?] at hx
  split at hx
  · next heq =>
    obtain ⟨fr, hfr, rfl⟩ := Option.map_eq_some_iff.mp hx
    obtain ⟨hsame, hwas, hsyndromes⟩ := hf fr hwith
    exact ⟨fr, heq ▸ hfr, hsame, hwas, hsyndromes⟩
  · exact ⟨fr', hx, .refl fr', hwith, rfl⟩

theorem State.toForward_keptAt (s : State) (d : DescId) : State.KeptAt x s (s.toForward d) :=
  (s.modDesc_keptAt d (f := fun fr => { fr with place := .forward, deadline := none })
    fun _ h => by simp [Descriptor.withLocator] at h).trans (.of_eq rfl)

theorem State.setDamaged_keptAt (s : State) (d : DescId) : State.KeptAt x s (s.setDamaged d) :=
  s.modDesc_keptAt d fun _ h => ⟨⟨rfl, rfl, rfl, .inr rfl⟩, h, rfl⟩

theorem State.setPlace_keptAt (s : State) (d : DescId) {p : Place} (hp : p ≠ .queued ∧ p ≠ .locating) :
    State.KeptAt x s (s.setPlace d p) :=
  s.modDesc_keptAt d fun _ h => by
    obtain h | h := h
    · exact absurd h hp.1
    · exact absurd h hp.2

theorem State.startDeadline_keptAt (s : State) (d : DescId) : State.KeptAt x s (s.startDeadline d) :=
  s.modDesc_keptAt d fun _ h => ⟨⟨rfl, rfl, rfl, .inl rfl⟩, h, rfl⟩

theorem State.releaseDropped_keptAt (s : State) (d : DescId) : State.KeptAt x s (s.releaseDropped d) := by
  by_cases hx : x = d
  · exact .of_none (by rw [State.releaseDropped_desc?, if_pos hx])
  · exact .of_eq (s.releaseDropped_others d x hx)

theorem State.failedOr_keptAt (s : State) (d : DescId) (fr : Descriptor) (failed : Bool)
    {goOn : State → State} (h : ∀ t : State, State.KeptAt x t (goOn t)) :
    State.KeptAt x s (s.failedOr d fr failed goOn) := by
  unfold State.failedOr
  split
  · split
    · exact s.releaseDropped_keptAt d
    · exact (s.setDamaged_keptAt d).trans (h _)
  · exact h s

theorem State.releaseOnward_keptAt (s : State) (f : Byte) : State.KeptAt x s (s.releaseOnward f) := by
  have forwarded (l : List DescId) (t : State) : State.KeptAt x t (t.allToForward l) := by
    induction l generalizing t with
    | nil => exact .of_eq rfl
    | cons d l ih => exact (t.toForward_keptAt d).trans (ih _)
  exact (forwarded _ s).trans (.of_eq rfl)

theorem State.handBack_keptAt (s : State) (d : DescId) (fr : Descriptor) (failed : Bool) :
    State.KeptAt x s (s.handBack d fr failed) := by
  have onward (t : State) : State.KeptAt x t (t.failedOr d fr failed (State.toForward · d)) :=
    t.failedOr_keptAt d fr failed fun u => u.toForward_keptAt d
  have chained (l : List DescId) : State.KeptAt x s (s.setChain fr.flow l) := .of_eq rfl
  unfold State.handBack
  dsimp only
  split
  · split
    · exact ((chained _).trans (onward _)).trans (State.releaseOnward_keptAt _ _)
    · split
      · exact (chained _).trans (State.releaseDropped_keptAt _ d)
      · exact s.failedOr_keptAt d fr failed fun u => u.setPlace_keptAt d (by decide)
  · exact onward s

theorem State.resolveMember_keptAt (s : State) (d : DescId) : State.KeptAt x s (s.resolveMember d) := by
  have abandoned (fr : Descriptor) : State.KeptAt x s (s.abandon d fr) :=
    ((s.takeBack_sameBut d fr.flow).keptAt (by decide)).trans
      (State.failedOr_keptAt _ d fr true fun u => u.toForward_keptAt d)
  unfold State.resolveMember
  split
  · exact .of_eq rfl
  · split
    · exact abandoned _
    · exact abandoned _
    · exact s.toForward_keptAt d
    all_goals exact .of_eq rfl

theorem State.expireFrame_keptAt (s : State) (d : DescId) (fr : Descriptor) :
    State.KeptAt x s (s.expireFrame d fr) := by
  have resolved (l : List DescId) (t : State) : State.KeptAt x t (l.foldl State.resolveMember t) := by
    induction l generalizing t with
    | nil => exact .of_eq rfl
    | cons d l ih => exact (t.resolveMember_keptAt d).trans (ih _)
  have raised (t : State) (c : EventClass) : State.KeptAt x t (t.raise c) := (t.raise_sameBut c).keptAt (by decide)
  have given (t : State) (e : Option EngineId) : State.KeptAt x t (t.giveHeadTo e) :=
    (t.giveHeadTo_sameBut e).keptAt (by decide)
  unfold State.expireFrame
  dsimp only
  split
  · exact (((((s.setChain_sameBut _ _).keptAt (by decide)).trans (resolved _ _)).trans (given _ _)).trans
      (State.releaseOnward_keptAt _ _)).trans (raised _ _)
  · exact ((s.resolveMember_keptAt d).trans (given _ _)).trans (raised _ _)

/-! ### Frames that leave the locator -/

/-- No frame of the descriptor is with the locator. -/
def State.OffLocator (s : State) (x : DescId) : Prop := ∀ fr, s.desc? x = some fr → ¬fr.withLocator

theorem State.OffLocator.of_kept (h : s.OffLocator x) (hkept : State.KeptAt x s t) : t.OffLocator x :=
  fun fr' hfr' hwith => by
    obtain ⟨fr, hfr, -, hwas, -⟩ := hkept fr' hfr' hwith
    exact h fr hfr hwas

theorem State.offLocator_of_place {p : Place} (hp : p ≠ .queued ∧ p ≠ .locating)
    (h : ∀ fr, s.desc? x = some fr → fr.place = p) : s.OffLocator x := fun fr hfr hwith => by
  rw [Descriptor.withLocator, h fr hfr] at hwith
  exact hwith.elim hp.1 hp.2

theorem State.toForward_offLocator (s : State) (d : DescId) : (s.toForward d).OffLocator d :=
  State.offLocator_of_place (p := .forward) (by decide) fun fr hfr => by
    rw [State.toForward_desc?, if_pos rfl] at hfr
    obtain ⟨_, -, rfl⟩ := Option.map_eq_some_iff.mp hfr
    rfl

theorem State.setPlace_held_offLocator (s : State) (d : DescId) : (s.setPlace d .held).OffLocator d :=
  State.offLocator_of_place (p := .held) (by decide) fun fr hfr => by
    rw [State.setPlace_desc?, if_pos rfl] at hfr
    obtain ⟨_, -, rfl⟩ := Option.map_eq_some_iff.mp hfr
    rfl

theorem State.releaseDropped_offLocator (s : State) (d : DescId) : (s.releaseDropped d).OffLocator d :=
  fun fr hfr => by simp at hfr

theorem State.failedOr_offLocator (s : State) (d : DescId) (fr : Descriptor) (failed : Bool)
    {goOn : State → State} (h : ∀ t : State, (goOn t).OffLocator d) : (s.failedOr d fr failed goOn).OffLocator d := by
  unfold State.failedOr
  split
  · split
    · exact s.releaseDropped_offLocator d
    · exact h _
  · exact h s

/-- A frame handed back has left the locator. -/
theorem State.handBack_offLocator (s : State) (d : DescId) (fr : Descriptor) (failed : Bool) :
    (s.handBack d fr failed).OffLocator d := by
  have onward (t : State) : (t.failedOr d fr failed (State.toForward · d)).OffLocator d :=
    t.failedOr_offLocator d fr failed fun u => u.toForward_offLocator d
  unfold State.handBack
  dsimp only
  split
  · split
    · exact (onward _).of_kept (State.releaseOnward_keptAt _ _)
    · split
      · exact State.releaseDropped_offLocator _ d
      · exact s.failedOr_offLocator d fr failed fun u => u.setPlace_held_offLocator d
  · exact onward s

/-! ### The syndromes a frame-end stores -/

/-- The code unit gives syndromes only to an examined frame without a code fault, and they are those of its
payload. -/
theorem codeUnitFor_syndrome {role : Role} {h : HeaderBytes} {payload acc : List Byte}
    (hunit : (codeUnitFor role h).stream payload = .syndrome acc) : ∃ snap, role = .data snap ∧
      acc = syndromesOf snap.entry.strength.t payload ∧ codeFault snap.entry h = false ∧
      (snap.entry.action = .check ∨ snap.entry.action = .correct ∨ snap.entry.action = .strip) := by
  cases role with
  | data snap =>
    refine ⟨snap, rfl, ?_⟩
    cases hfault : codeFault snap.entry h with
    | true => simp [codeUnitFor, hfault, CodeUnit.stream] at hunit
    | false =>
      cases haction : snap.entry.action <;>
        simp only [codeUnitFor, hfault, haction, Bool.false_eq_true, if_false, CodeUnit.stream,
          CodeUnit.syndrome.injEq, reduceCtorEq] at hunit
      all_goals exact ⟨hunit.symm, rfl, by simp⟩
  | forwardedOther | request | enumeration => simp [codeUnitFor, CodeUnit.stream] at hunit

theorem State.RoutedReady.offLocator (hu : s.RoutedReady d fr u) : u.OffLocator d := by
  cases hu with
  | onward => exact s.toForward_offLocator d
  | overflow => exact (s.releaseDropped_offLocator d).of_kept ((State.raise_sameBut _ _).keptAt (by decide))
  | held =>
    exact ((s.setPlace_held_offLocator d).of_kept (State.startDeadline_keptAt _ d)).of_kept
      ((State.joinChain_sameBut _ d fr).keptAt (by decide))

theorem State.RoutedLocate.syndromes {acc : List Byte} (hu : s.RoutedLocate d fr acc u) {fr' : Descriptor}
    (hd : u.desc? d = some fr') : fr'.syndromes = some acc := by
  have queued {v : State} (hv : v.desc? d = (s.enqueue d acc).desc? d) (hd : v.desc? d = some fr') :
      fr'.syndromes = some acc := by
    rw [hv] at hd
    simp only [State.enqueue, State.joinCorrectionQueue_desc?, State.startDeadline_desc?, State.setPlace_desc?,
      State.modDesc_desc?, if_true, Option.map_map, Option.map_eq_some_iff] at hd
    obtain ⟨_, -, rfl⟩ := hd
    rfl
  cases hu with
  | free => exact queued rfl hd
  | ordered => exact queued rfl hd
  | overflow => simp [State.dropOverflow] at hd

/-- A frame that its frame-end leaves with the locator was examined, and has the unit's syndromes. -/
theorem State.Dispatched.located {payload : List Byte} (hu : s.Dispatched d fr payload u) {fr' : Descriptor}
    (hd : u.desc? d = some fr') (hwith : fr'.withLocator) :
    ∃ acc, s.codeUnit = .syndrome acc ∧ fr.entry.action ≠ .check ∧ fr'.syndromes = some acc ∧
      u.store.memory = s.store.memory := by
  have off (h : u.OffLocator d) := h fr' hd hwith
  cases hu with
  | data =>
    have hended := s.endData_ended d fr
    generalize s.endData d fr = v at *
    cases hended with
    | toLocate hunit _ haction hu => exact ⟨_, hunit, haction, hu.syndromes hd, hu.memory_eq⟩
    | ready _ hu | encoded _ hu | marked _ _ hu => exact (off hu.offLocator).elim
    | dropped => exact (off (State.releaseDropped_offLocator _ d)).elim
  | forwarded => exact (off (s.toForward_offLocator d)).elim
  | request =>
    split at hd
    · exact (State.toForward_offLocator _ d fr' hd hwith).elim
    · exact (State.releaseDropped_offLocator _ d fr' hd hwith).elim
  | enumeration => exact (off (State.toForward_offLocator _ d)).elim
  | checkFault => exact (off (s.releaseDropped_offLocator d)).elim

/-! ### What a command leaves with the locator -/

/-- A frame that a command leaves with the locator was with it before, and was not handed back; or the
command is the frame-end that sent it there. -/
theorem State.Inv.withLocator_of_handled (h : s.Inv) (hu : s.Handled c u) {fr' : Descriptor}
    (hd : u.desc? x = some fr') (hwith : fr'.withLocator) :
    ((∀ e, c = .locatorCompletionList e → s.engineDesc e ≠ some x) ∧
      ∃ fr, s.desc? x = some fr ∧ fr.SameFrame fr' ∧ fr.withLocator ∧ fr'.syndromes = fr.syndromes) ∨
    ∃ payload fr v, s.receiver.reception = .receiving x ∧ s.desc? x = some fr ∧
      payload.length = headerLength fr.header ∧ (s.arrivePayload x fr payload).Dispatched x fr payload v ∧
      u = v.endReception .between := by
  have left (hkept : State.KeptAt x s u) (hc : ∀ e, c ≠ .locatorCompletionList e) :
      (∀ e, c = .locatorCompletionList e → s.engineDesc e ≠ some x) ∧
      ∃ fr, s.desc? x = some fr ∧ fr.SameFrame fr' ∧ fr.withLocator ∧ fr'.syndromes = fr.syndromes :=
    ⟨fun e he => absurd he (hc e), hkept fr' hd hwith⟩
  have advanced (n : Nat) : State.KeptAt x s (s.advanceTo n) := .of_eq rfl
  by_cases hcompletion : ∃ received, c = .transmissionCompletion received
  · obtain ⟨received, rfl⟩ := hcompletion
    obtain ⟨tx, v, -, hv, rfl⟩ := hu.completed
    refine .inl (left ?_ (by simp))
    refine State.KeptAt.trans (t := v) ?_ ?_
    · cases hv with
      | token => exact .of_eq rfl
      | response =>
        have hsame := ((s.advanceTo_sameBut tx.endsAt).trans (State.idleTransmitter_sameBut _)).trans
          (State.completeResponse_sameBut _)
        exact hsame.keptAt (by decide)
      | notice => exact .of_eq rfl
      | @forward y fy hsource hfy =>
        by_cases hx : x = y
        · exact .of_none (by rw [State.completeForward_desc?, if_pos hx])
        · exact .of_eq (by rw [State.completeForward_desc?, if_neg hx]; rfl)
    · obtain heq | ⟨p, -, -, heq⟩ := v.resetIfDue_cases received
      · exact .of_eq (by rw [heq])
      · rw [heq]
        cases p.scope with
        | flush => exact .of_none (State.flush_desc? v received x)
        | restart => exact .of_none (State.restart_desc? v received x)
  have hcourse (received) : c ≠ .transmissionCompletion received := fun h => hcompletion ⟨received, h⟩
  have untouched (hp : (coursePieces c).contains .descriptors = false) : State.KeptAt x s u :=
    .of_eq (hu.samePiece (p := .descriptors) hcourse hp x)
  have aborted (y : DescId) (fy : Descriptor) (received : List Byte) (r : Reception) :
      State.KeptAt x s (s.abortFrame y fy received r) :=
    (((s.storePayload_sameBut fy _).keptAt (by decide)).trans (State.releaseDropped_keptAt _ y)).trans (.of_eq rfl)
  cases hu with
  | completeToken | completeResponse | completeNotice | completeForward => exact absurd rfl (hcourse _)
  | headerArrival _ hu =>
    refine .inl (left ?_ (by simp))
    by_cases hsame : u.desc? x = s.desc? x
    · exact .of_eq hsame
    · cases hu with
      | fault | stripped | token | discarded => exact absurd (by simp [State.consumeToken]; try rfl) hsame
      | refused role =>
        exact absurd (((s.countArrival_sameBut role _).trans (State.refuseFrame_sameBut _ role _)).2
          .descriptors (by decide) x) hsame
      | kept role _ d =>
        rw [State.admitFrame_desc?] at hd hsame
        split at hd
        · obtain rfl := Option.some.inj hd
          simp [Descriptor.withLocator, freshDescriptor] at hwith
        · next hx => 
          rw [if_neg hx] at hsame
          exact absurd (State.countArrival_desc? s role _ x) hsame
  | lossReceiving => exact .inl (left ((aborted _ _ _ _).trans ((State.loseLink_sameBut _).keptAt (by decide))) (by simp))
  | lossIdle => exact .inl (left (s.loseLink_sameBut.keptAt (by decide)) (by simp))
  | lossBeforeHeader =>
    exact .inl (left (((s.countGlobal_sameBut _).trans (State.loseLink_sameBut _)).keptAt (by decide)) (by simp))
  | startDelimiterIdle | startDelimiterBeforeHeader => exact .inl (left (.of_eq rfl) (by simp))
  | startDelimiterReceiving | abort | frameEndAborted => exact .inl (left (aborted _ _ _ _) (by simp))
  | @frameEnd _ payload d fr v hends hrec hfr hlength hv =>
    by_cases hx : x = d
    · subst hx
      exact .inr ⟨payload, fr, v, hrec, hfr, hlength, hv, rfl⟩
    · refine .inl (left ((State.KeptAt.of_eq ?_).trans (.of_eq (hv.others x hx))) ?_)
      · rw [State.arrivePayload_desc?, if_neg hx]
      · intro e he
        subst he
        obtain h | ⟨_, _, h, -⟩ := hends
        · cases h
        · cases h
  | @pickup e d rest fr he hqueue hturn hfr =>
    refine .inl (left ?_ (by simp))
    have hqueued : fr.place = .queued := by
      obtain ⟨fq, hfq, hplace⟩ := (h.places.queued d).mp (by simp [hqueue])
      rwa [Option.some.inj (hfr.symm.trans hfq)]
    intro fr' hd' hwith'
    rw [State.setEngine_desc?, State.setPlace_desc?] at hd'
    split at hd'
    · next hx =>
      obtain ⟨fq, hfq, rfl⟩ := Option.map_eq_some_iff.mp hd'
      obtain rfl : fr = fq := Option.some.inj (hfr.symm.trans hfq)
      exact ⟨fr, hx ▸ hfr, ⟨rfl, rfl, rfl, .inl rfl⟩, .inl hqueued, rfl⟩
    · exact ⟨fr', hd', .refl fr', hwith', rfl⟩
  | @completionWithList e r fr entries he hfr =>
    have hoff : x ≠ r.desc := by
      rintro rfl
      exact State.handBack_offLocator _ _ _ _ fr' hd hwith
    refine .inl ⟨fun e' he' hx => ?_, ?_⟩
    · obtain rfl := Instr.locatorCompletionList.inj he'
      simp only [State.engineDesc, he, Option.map_some, Option.some.injEq] at hx
      exact hoff hx.symm
    · refine State.KeptAt.trans ?_ (State.handBack_keptAt _ r.desc fr false) fr' hd hwith
      exact .of_eq (by simp [hoff])
  | completionFailed =>
    refine .inl (left (((advanced _).trans (((State.countFlow_sameBut _ _ _ _).trans
      ((State.raise_sameBut _ _).trans (State.setEngine_sameBut _ _ _))).keptAt (by decide))).trans
      (State.handBack_keptAt _ _ _ _)) (by simp))
  | deadlineExpiry => exact .inl (left ((advanced _).trans (State.expireFrame_keptAt _ _ _)) (by simp))
  | startToken => exact .inl (left (s.startToken_sameBut.keptAt (by decide)) (by simp))
  | startResponse => exact .inl (left ((s.startResponse_sameBut _).keptAt (by decide)) (by simp))
  | startNotice => exact .inl (left ((s.startNotice_sameBut _).keptAt (by decide)) (by simp))
  | startForward =>
    refine .inl (left ?_ (by simp))
    exact (State.setPlace_keptAt _ _ (p := .sending) (by decide)).trans (.of_eq rfl)
  | _ => exact .inl (left (untouched rfl) (by simp))

theorem State.StoreInv.cells_nodup (h : s.StoreInv) (hd : s.desc? d = some fr) : fr.cells.Nodup := by
  have hnodup := h.conserved.nodup_iff.mpr (List.nodup_finRange 128)
  have := (List.nodup_flatMap.mp (List.nodup_append.mp hnodup).2.1).1 d (List.mem_finRange d)
  rwa [hd] at this

/-- A frame's cells hold its header and its payload. -/
theorem State.Inv.payload_fits (h : s.Inv) (hd : s.desc? d = some fr) :
    8 + headerLength fr.header ≤ 64 * fr.cells.length := by
  have hle : headerLength fr.header ≤ fr.storedLength := by
    rw [h.frames.length d fr hd]
    unfold storedLengthOf
    split
    · split <;> omega
    all_goals exact le_rfl
  rw [(h.store.cellsFit d fr hd).2, cellsNeeded, Config.headerBytes, Config.cellBytes]
  omega

theorem State.Handled.syndromeInv (hu : s.Handled c u) (h : s.Inv) (hs : s.SyndromeInv) : u.SyndromeInv := by
  intro d fr' hd hwith
  obtain ⟨hc, fr, hfr, hsame, hwas, hsyndromes⟩ | ⟨payload, fr, v, hrec, hfr, hlength, hv, rfl⟩ :=
    h.withLocator_of_handled hu hd hwith
  · obtain ⟨hstored, haction, hfault⟩ := hs d fr hfr hwas
    have hplace : fr.place ≠ .receiving := by
      obtain hw | hw := hwas <;> simp [hw]
    have hbytes : readPayload u.store.memory fr.cells (headerLength fr.header) =
        readPayload s.store.memory fr.cells (headerLength fr.header) := by
      simp only [readPayload, h.readFrameByte_eq hu hfr hplace hc]
    rw [hsyndromes, hsame.entry, hsame.cells, hsame.headerLength, hbytes]
    refine ⟨hstored, haction, ?_⟩
    obtain hh | hh := hsame.header
    · rw [hh]; exact hfault
    · rw [hh]; exact hfault
  · have hunit : s.codeUnit = codeUnitFor fr.role fr.header := (h.slot d fr hrec hfr).2
    obtain ⟨acc, hacc, hcheck, hsyndromes, hmemory⟩ := hv.located hd hwith
    have hstream : (codeUnitFor fr.role fr.header).stream payload = .syndrome acc := by
      rw [← hunit]
      exact hacc
    obtain ⟨snap, hrole, rfl, hfault, haction⟩ := codeUnitFor_syndrome hstream
    have hentry : fr.entry = snap.entry := by simp [Descriptor.entry, hrole]
    obtain ⟨fw, hfw, hsame⟩ := ((s.arrivePayload_framesKept d fr payload).trans hv.framesKept) d fr' hd
    obtain rfl : fr = fw := Option.some.inj (hfr.symm.trans hfw)
    have hstored : readPayload (s.arrivePayload d fr payload).store.memory fr.cells (headerLength fr.header) =
        payload := by
      rw [← hlength]
      exact (s.arrivePayload_frameArrived d fr payload hfr).bytes.stored h.memory (h.store.cells_nodup hfr)
        (hlength ▸ h.payload_fits hfr)
    have hmemory' : (v.endReception .between).store.memory = (s.arrivePayload d fr payload).store.memory := hmemory
    rw [hsyndromes, hsame.entry, hsame.cells, hsame.headerLength, hmemory', hstored, hentry]
    refine ⟨rfl, ?_, ?_⟩
    · exact haction.resolve_left (hentry ▸ hcheck)
    · obtain hh | hh := hsame.header
      · rw [hh]; exact hfault
      · rw [hh]; exact hfault

end Sys2Proof.Machine
section
open Sys2Proof Sys2Proof.Machine

/-- Settles O13. -/
theorem everyStepKeepsTheSyndromesOfStoredPayloads : Obligations.EveryStepKeepsTheSyndromesOfStoredPayloads := by
  unfold Obligations.EveryStepKeepsTheSyndromesOfStoredPayloads
  intro s t hinv hs h
  cases hpending : s.pending with
  | nil =>
    obtain rfl : s.tick = t := by simpa [step, hpending] using h
    exact hs
  | cons c rest =>
    have hexec : exec c { s with pending := rest } = .next t := by simpa [step, hpending] using h
    have hinv' := hinv.withPending rest
    obtain ⟨b, -, rfl⟩ | rfl | ⟨u, hu, rfl⟩ := exec_cases hexec
    · exact fun d fr hd => by cases (powerOnState_desc? b rest d).symm.trans hd
    · exact hs
    · exact hu.syndromeInv hinv' hs
end
end

section
/-! The encoder (R59): the generator's shape and roots, and the remainder symbols as the payload's value at the
roots. -/

namespace Sys2Proof.Machine

/-! ### Values at a root, highest coefficient first -/

theorem polyEval_reverse (p : List Byte) (j : Nat) : polyEval p.reverse (alphaPow j) = accumulate j 0#8 p := by
  rw [polyEval, List.foldr_reverse]
  rfl

theorem accumulate_reverse (p : List Byte) (j : Nat) : accumulate j 0#8 p.reverse = polyEval p (alphaPow j) := by
  rw [← polyEval_reverse, List.reverse_reverse]

theorem accumulate_append (j : Nat) (acc : Byte) (p q : List Byte) :
    accumulate j acc (p ++ q) = accumulate j (accumulate j acc p) q := List.foldl_append

theorem accumulate_start (j : Nat) (acc : Byte) (p : List Byte) :
    accumulate j acc p = accumulate j 0#8 p ^^^ gfMul acc (alphaPow (j * p.length)) := by
  rw [← accumulate_xor, BitVec.zero_xor]

theorem accumulate_zipWith (j : Nat) (c : Byte) (p q : List Byte) (h : p.length = q.length) :
    accumulate j 0#8 (List.zipWith (fun a b => a ^^^ gfMul c b) p q) =
      accumulate j 0#8 p ^^^ gfMul c (accumulate j 0#8 q) := by
  induction p generalizing q with
  | nil =>
    obtain rfl := List.length_eq_zero_iff.mp h.symm
    simp [accumulate]
  | cons a p ih =>
    obtain _ | ⟨b, q⟩ := q
    · simp at h
    have hlength : p.length = q.length := by simpa using h
    simp only [List.zipWith_cons_cons, accumulate_cons, gfMul_zero_left, BitVec.zero_xor]
    rw [accumulate_start j (a ^^^ _), accumulate_start j a, accumulate_start j b, ih q hlength, List.length_zipWith,
      ← hlength, Nat.min_self, gfMul_xor_left, gfMul_xor_right, gfMul_assoc]
    ac_rfl

/-! ### The generator (R55) -/

theorem polyEval_polyMul (p q : List Byte) (x : Byte) :
    polyEval (polyMul p q) x = gfMul (polyEval p x) (polyEval q x) := by
  let := symbolField
  refine symbolMap_mk.injective ?_
  rw [symbolMap_mk.map_mul, ← eval_polyOf symbolMap_mk, ← eval_polyOf symbolMap_mk, ← eval_polyOf symbolMap_mk,
    polyOf_polyMul symbolMap_mk, Polynomial.eval_mul]

theorem generator_root (n j : Nat) (hj : j < n) : polyEval (generator n) (alphaPow j) = 0#8 := by
  induction n with
  | zero => exact absurd hj (Nat.not_lt_zero j)
  | succ n ih =>
    rw [generator, polyEval_polyMul]
    obtain hj | rfl := Nat.lt_succ_iff_lt_or_eq.mp hj
    · rw [ih hj, gfMul_zero_right]
    · simp [polyEval, gfMul_one_left]

theorem length_polyAdd (p q : List Byte) : (polyAdd p q).length = max p.length q.length := by
  induction p generalizing q with
  | nil => simp [polyAdd]
  | cons a p ih => cases q with
    | nil => simp [polyAdd]
    | cons b q =>
      simp only [polyAdd, List.length_cons, ih]
      omega

theorem polyAdd_append (p q r : List Byte) (h : p.length ≤ q.length) : polyAdd p (q ++ r) = polyAdd p q ++ r := by
  induction p generalizing q with
  | nil => simp [polyAdd]
  | cons a p ih => cases q with
    | nil => simp at h
    | cons b q =>
      rw [List.cons_append, polyAdd, polyAdd, ih q (by simpa using h), List.cons_append]

theorem polyScale_one (p : List Byte) : polyScale 1#8 p = p := by
  have hone : gfMul 1#8 = id := funext gfMul_one_left
  rw [polyScale, hone, List.map_id]

theorem polyAdd_zero (p : List Byte) (h : p ≠ []) : polyAdd p [0] = p := by
  obtain ⟨a, p, rfl⟩ := List.exists_cons_of_ne_nil h
  cases p <;> simp [polyAdd]

/-- The generator of degree n has n coefficients below a highest one of 1. -/
theorem generator_monic (n : Nat) : ∃ lower : List Byte, lower.length = n ∧ generator n = lower ++ [1#8] := by
  induction n with
  | zero => exact ⟨[], rfl, rfl⟩
  | succ n ih =>
    obtain ⟨lower, hlength, hgen⟩ := ih
    refine ⟨polyAdd (polyScale (alphaPow n) (generator n)) (0#8 :: lower), ?_, ?_⟩
    · simp [length_polyAdd, polyScale, hgen, hlength]
    · rw [← polyAdd_append _ _ _ (by simp [polyScale, hgen]), List.cons_append, ← hgen]
      have hone : polyMul [1#8] (generator n) = generator n := by
        rw [polyMul, polyMul, polyScale_one, polyAdd_zero (generator n) (by simp [hgen])]
      rw [generator, polyMul]
      exact congrArg (fun q => polyAdd _ (0#8 :: q)) hone

/-- The coefficients below the highest have, at each root, the value of the highest power. -/
theorem accumulate_lower (n j : Nat) (hj : j < n) :
    accumulate j 0#8 ((generator n).take n).reverse = alphaPow (j * n) := by
  obtain ⟨lower, hlength, hgen⟩ := generator_monic n
  have hroot : accumulate j 0#8 (1#8 :: lower.reverse) = 0#8 := by
    have h := accumulate_reverse (generator n) j
    rw [generator_root n j hj, hgen, List.reverse_append] at h
    exact h
  rw [accumulate_cons, gfMul_zero_left, BitVec.zero_xor, accumulate_start, gfMul_one_left, List.length_reverse,
    hlength, BitVec.xor_eq_zero_iff] at hroot
  rw [hgen, ← hlength, List.take_left, hroot, hlength]

theorem length_lower (n : Nat) : ((generator n).take n).reverse.length = n := by
  obtain ⟨lower, hlength, hgen⟩ := generator_monic n
  simp [hgen, hlength]

/-! ### The remainder symbols (R59) -/

theorem length_encodeStep (rem : List Byte) (b : Byte) (h : rem ≠ []) : (encodeStep rem b).length = rem.length := by
  obtain ⟨a, rem, rfl⟩ := List.exists_cons_of_ne_nil h
  rw [encodeStep, List.length_zipWith, length_lower]
  simp

/-- A byte through the remainder symbols: their value at a root is multiplied by the root, and the byte enters
at the highest power. -/
theorem accumulate_encodeStep (j : Nat) (rem : List Byte) (b : Byte) (hj : j < rem.length) :
    accumulate j 0#8 (encodeStep rem b) =
      gfMul (accumulate j 0#8 rem) (alphaPow j) ^^^ gfMul b (alphaPow (j * rem.length)) := by
  obtain ⟨a, rest, rfl⟩ := List.exists_cons_of_ne_nil (List.ne_nil_of_length_pos (Nat.zero_lt_of_lt hj))
  have hpow : gfMul (alphaPow (j * rest.length)) (alphaPow j) = alphaPow (j * (a :: rest).length) := by
    rw [gfMul_alphaPow, List.length_cons, Nat.mul_succ]
  have hshift : accumulate j 0#8 (rest ++ [0]) = gfMul (accumulate j 0#8 rest) (alphaPow j) := by
    rw [accumulate_append]
    exact BitVec.xor_zero
  rw [encodeStep, accumulate_zipWith _ _ _ _ (by rw [length_lower]; simp), accumulate_lower _ _ hj, List.drop_one,
    List.tail_cons, List.headD_cons, hshift, accumulate_cons, gfMul_zero_left, BitVec.zero_xor, accumulate_start j a,
    gfMul_xor_left, gfMul_xor_left, gfMul_assoc a, hpow]
  ac_rfl

/-- The remainder symbols after a payload: at each root, the payload's value times the highest power. -/
theorem accumulate_foldl_encodeStep (j n : Nat) (hj : j < n) (p : List Byte) (rem : List Byte) (acc : Byte)
    (hlength : rem.length = n) (hrem : accumulate j 0#8 rem = gfMul acc (alphaPow (j * n))) :
    (p.foldl encodeStep rem).length = n ∧
      accumulate j 0#8 (p.foldl encodeStep rem) = gfMul (accumulate j acc p) (alphaPow (j * n)) := by
  induction p generalizing rem acc with
  | nil => exact ⟨hlength, hrem⟩
  | cons b p ih =>
    have hne : rem ≠ [] := List.ne_nil_of_length_pos (by omega)
    refine ih _ _ ((length_encodeStep rem b hne).trans hlength) ?_
    rw [accumulate_encodeStep j rem b (by omega), hrem, hlength, gfMul_xor_left, gfMul_assoc, gfMul_assoc,
      gfMul_comm (alphaPow (j * n))]

theorem accumulate_replicate_zero (j n : Nat) : accumulate j 0#8 (List.replicate n 0) = 0#8 := by
  induction n with
  | zero => rfl
  | succ n ih =>
    rw [List.replicate_succ, accumulate_cons, gfMul_zero_left, BitVec.zero_xor]
    exact ih

theorem length_checkBytesOf (t : Nat) (p : List Byte) : (checkBytesOf t p).length = 2 * t := by
  obtain rfl | ht := Nat.eq_zero_or_pos t
  · suffices h : p.foldl encodeStep [] = [] by simp [checkBytesOf, h]
    induction p with
    | nil => rfl
    | cons b p ih => exact ih
  · exact (accumulate_foldl_encodeStep 0 (2 * t) (by omega) p _ 0#8 List.length_replicate
      (by rw [accumulate_replicate_zero, gfMul_zero_left])).1

theorem accumulate_checkBytesOf (j t : Nat) (hj : j < 2 * t) (p : List Byte) :
    accumulate j 0#8 (checkBytesOf t p) = gfMul (accumulate j 0#8 p) (alphaPow (j * (2 * t))) :=
  (accumulate_foldl_encodeStep j (2 * t) hj p _ 0#8 List.length_replicate
    (by rw [accumulate_replicate_zero, gfMul_zero_left])).2

/-- A payload followed by its check bytes is a codeword. -/
theorem isClean_append_checkBytesOf (t : Nat) (p : List Byte) :
    isClean (syndromesOf t (p ++ checkBytesOf t p)) = true := by
  refine (isClean_syndromesOf _ _).mpr fun j hj => ?_
  rw [accumulate_append, accumulate_start, accumulate_checkBytesOf j t hj, length_checkBytesOf, BitVec.xor_self]

end Sys2Proof.Machine

section
open Sys2Proof Sys2Proof.Machine

/-- Settles O39: the accumulators compute the values at the roots, and the remainder symbols the value times the
highest power, which cancels it behind the payload. -/
theorem encodedPayloadsAreClean : Obligations.EncodedPayloadsAreClean := by
  refine ⟨fun l => by simp [isClean], fun a x p => ⟨rfl, rfl⟩, fun st p => ⟨?values, length_checkBytesOf _ p,
    isClean_append_checkBytesOf _ p⟩⟩
  rw [syndromesOf_eq_map]
  exact List.map_congr_left fun j _ => (polyEval_reverse p j).symm

end
end

section
/-! The completion of a locator run: the error list in the cells (R75), and the frame handed back to its chain
(R91, R93, R94). -/

namespace Sys2Proof.Machine

variable {s t u v : State} {d x : DescId} {fr fr' : Descriptor} {f : Byte} {entries : List ErrorEntry}

/-! ### Release through a chain (R93) -/

theorem State.isHeld_of_desc (h : t.desc? x = s.desc? x) : t.isHeld x = s.isHeld x := by
  rw [State.isHeld, State.isHeld, h]

theorem State.allToForward_desc? (l : List DescId) (s : State) (x : DescId) :
    (s.allToForward l).desc? x =
      if x ∈ l then (s.desc? x).map (fun y => { y with place := .forward, deadline := none }) else s.desc? x := by
  induction l generalizing s with
  | nil => simp [State.allToForward]
  | cons a l ih =>
    rw [State.allToForward, List.foldl_cons, ← State.allToForward, ih]
    by_cases hxa : x = a
    · subst hxa
      cases hs : s.desc? x <;> simp [hs]
    · simp [hxa]

theorem State.allToForward_forwardQueue (l : List DescId) (s : State) :
    (s.allToForward l).egress.forwardQueue = s.egress.forwardQueue ++ l := by
  induction l generalizing s with
  | nil => simp [State.allToForward]
  | cons a l ih =>
    rw [State.allToForward, List.foldl_cons, ← State.allToForward, ih]
    simp

theorem State.releaseOnward_chain (s : State) (f : Byte) :
    s.ChainIs (s.releaseOnward f) f ((s.chain f).dropWhile s.isHeld) := fun g => by
  unfold State.releaseOnward
  rw [State.setChain_chain]
  split
  · rfl
  · exact (State.allToForward_sameBut _ s).2 .chains (by decide) g

theorem State.releaseOnward_forwardQueue (s : State) (f : Byte) :
    (s.releaseOnward f).egress.forwardQueue = s.egress.forwardQueue ++ (s.chain f).takeWhile s.isHeld :=
  State.allToForward_forwardQueue _ s

theorem State.releaseOnward_desc? (s : State) (f : Byte) (x : DescId) :
    (s.releaseOnward f).desc? x =
      if x ∈ (s.chain f).takeWhile s.isHeld then
        (s.desc? x).map (fun y => { y with place := .forward, deadline := none })
      else s.desc? x := State.allToForward_desc? _ s x

/-! ### The frame handed back -/

/-- The second state is the first with the frame of the descriptor as given, and no frame anywhere else. -/
structure State.Returns (s u : State) (d : DescId) (fr : Descriptor) : Prop where
  desc : u.desc? d = some fr
  others : s.OtherDescs u d
  chain : ∀ f, u.chain f = s.chain f
  forwardQueue : u.egress.forwardQueue = s.egress.forwardQueue
  store : s.StoreKept u

theorem State.Returns.of_sameBut {l : List Piece} (h : s.SameBut u l) (hd : u.desc? d = some fr)
    (hothers : s.OtherDescs u d) (hl : ∀ p ∈ [Piece.chains, .forwardQueue, .freeLists, .holdOut], p ∉ l) :
    s.Returns u d fr where
  desc := hd
  others := hothers
  chain := h.2 .chains (hl _ (by decide))
  forwardQueue := h.forwardQueue_eq (hl _ (by decide))
  store := ⟨(h.2 .freeLists (hl _ (by decide))).2, (h.2 .freeLists (hl _ (by decide))).1,
    h.holdOut_eq (hl _ (by decide))⟩

theorem State.Returns.setDamaged (h : s.Returns u d fr) :
    s.Returns (u.setDamaged d) d { fr with header := withDamaged fr.header } where
  desc := by simp [h.desc]
  others x hx := by simp [hx, h.others x hx]
  chain := h.chain
  forwardQueue := h.forwardQueue
  store := h.store

/-- What later updates of other pieces leave of a frame handed back. -/
theorem State.HandedBack.of_sameBut {freed : Bool} {l : List Piece} (h : s.HandedBack t d fr fr' freed)
    (hu : t.SameBut u l)
    (hl : ∀ p ∈ [Piece.descriptors, .chains, .forwardQueue, .freeLists, .holdOut], p ∉ l) :
    s.HandedBack u d fr fr' freed := by
  have hdesc : ∀ x, u.desc? x = t.desc? x := hu.2 .descriptors (hl _ (by decide))
  have hchain : ∀ g, u.chain g = t.chain g := hu.2 .chains (hl _ (by decide))
  have hforward := hu.forwardQueue_eq (hl _ (by decide))
  obtain ⟨hcells, hdescs⟩ := hu.2 .freeLists (hl _ (by decide))
  have hholdOut := hu.holdOut_eq (hl _ (by decide))
  have chainIs {g : Byte} {m : List DescId} (hc : s.ChainIs t g m) : s.ChainIs u g m :=
    fun b => (hchain b).trans (hc b)
  refine ⟨fun hhead => ?_, fun hmem hhead => ?_, fun hmem => ?_, fun hfreed => ?_, fun hfreed => ?_,
    fun hfreed hplace => (hdesc d).trans (h.sent hfreed hplace)⟩
  · obtain ⟨hc, hq, hreleased, hothers⟩ := h.head hhead
    exact ⟨chainIs hc, hforward.trans hq, fun x hx => (hdesc x).trans (hreleased x hx),
      fun x hx hx' => (hdesc x).trans (hothers x hx hx')⟩
  · obtain ⟨hc, hq, hothers, hheld⟩ := h.behind hmem hhead
    exact ⟨chainIs hc, hforward.trans hq, fun x hx => (hdesc x).trans (hothers x hx),
      fun hfreed => (hdesc d).trans (hheld hfreed)⟩
  · obtain ⟨hc, hothers, hq⟩ := h.alone hmem
    exact ⟨fun g => (hchain g).trans (hc g), fun x hx => (hdesc x).trans (hothers x hx), hforward.trans hq⟩
  · obtain ⟨hfree, hfd, hfc, hho⟩ := h.gone hfreed
    exact ⟨(hdesc d).trans hfree, hdescs.trans hfd, hcells.trans hfc, by rw [hholdOut, hho, hcells, hdescs]⟩
  · obtain ⟨hfd, hfc, hho⟩ := h.kept hfreed
    exact ⟨hdescs.trans hfd, hcells.trans hfc, hholdOut.trans hho⟩

/-- What release makes of the chain behind its head, where the frame at the head is gone from the chain. -/
theorem State.releaseOnward_behind {ch : List DescId} (hchain : v.chain f = ch)
    (hothers : s.OtherDescs v d) (hd : d ∉ ch) :
    v.ChainIs (v.releaseOnward f) f (ch.dropWhile s.isHeld) ∧
    (v.releaseOnward f).egress.forwardQueue = v.egress.forwardQueue ++ ch.takeWhile s.isHeld ∧
    (∀ x ∈ ch.takeWhile s.isHeld, (v.releaseOnward f).desc? x =
      (s.desc? x).map fun y => { y with place := .forward, deadline := none }) ∧
    ∀ x, x ∉ ch.takeWhile s.isHeld → (v.releaseOnward f).desc? x = v.desc? x := by
  have hne (x : DescId) (hx : x ∈ ch) : x ≠ d := ne_of_mem_of_not_mem hx hd
  have hheld (x : DescId) (hx : x ∈ ch) : v.isHeld x = s.isHeld x := State.isHeld_of_desc (hothers x (hne x hx))
  have htake := takeWhile_congr hheld
  have hdrop := dropWhile_congr hheld
  refine ⟨?_, ?_, fun x hx => ?_, fun x hx => ?_⟩
  · rw [← hdrop, ← hchain]
    exact v.releaseOnward_chain f
  · rw [v.releaseOnward_forwardQueue, hchain, htake]
  · rw [v.releaseOnward_desc?, hchain, htake, if_pos hx, hothers x (hne x ((List.takeWhile_sublist _).mem hx))]
  · rw [v.releaseOnward_desc?, hchain, htake, if_neg hx]

/-- A frame handed back as corrected, or as failed and marked. -/
theorem State.Returns.handBack {fr₀ : Descriptor} (h : s.Returns u d fr) (hnodup : (s.chain fr₀.flow).Nodup) :
    s.HandedBack (u.handBack d fr₀ false) d fr₀ fr false := by
  have hkept : s.StoreKept (u.handBack d fr₀ false) := by
    have hu := u.handBack_corrected_sameBut d fr₀
    obtain ⟨hcells, hdescs⟩ := hu.2 .freeLists (by decide)
    exact ⟨hdescs.trans h.store.1, hcells.trans h.store.2.1, (hu.holdOut_eq (by decide)).trans h.store.2.2⟩
  have hforward : (u.toForward d).desc? d = some { fr with place := .forward, deadline := none } := by simp [h.desc]
  unfold State.handBack State.failedOr at hkept ⊢
  simp only [h.chain, Bool.false_eq_true, if_false, Bool.false_and] at hkept ⊢
  by_cases hmem : d ∈ s.chain fr₀.flow
  · by_cases hhead : (s.chain fr₀.flow).head? = some d
    · rw [if_pos hmem, if_pos hhead] at hkept ⊢
      obtain ⟨ch, hch⟩ : ∃ ch, s.chain fr₀.flow = d :: ch := ⟨_, List.eq_cons_of_mem_head? hhead⟩
      obtain ⟨hd, -⟩ := List.nodup_cons.mp (hch ▸ hnodup)
      obtain ⟨hc, hq, hreleased, hothers⟩ := State.releaseOnward_behind (s := s) (d := d) (ch := ch)
        (v := (u.setChain fr₀.flow ch).toForward d) (f := fr₀.flow) (by simp)
        (fun x hx => by simp [hx, h.others x hx]) hd
      have hdnot : d ∉ ch.takeWhile s.isHeld := fun hx => hd ((List.takeWhile_sublist _).mem hx)
      rw [hch, List.tail_cons] at hkept ⊢
      refine ⟨fun _ => ?_, fun _ hnot => absurd hhead hnot, fun hnot => absurd hmem hnot, fun hf => by simp at hf,
        fun _ => hkept, fun _ _ => (hothers d hdnot).trans hforward⟩
      rw [hch, List.tail_cons]
      refine ⟨fun g => (hc g).trans ?_, hq.trans ?_, hreleased, fun x hx hx' => (hothers x hx').trans ?_⟩
      · by_cases hg : g = fr₀.flow
        · rw [if_pos hg, if_pos hg]
        · simp [hg, h.chain]
      · simp [h.forwardQueue]
      · simp [hx, h.others x hx]
    · rw [if_pos hmem, if_neg hhead] at hkept ⊢
      refine ⟨fun hh => absurd hh hhead, fun _ _ => ?_, fun hnot => absurd hmem hnot, fun hf => by simp at hf,
        fun _ => hkept, fun _ hplace => absurd hmem (hplace.resolve_left hhead)⟩
      refine ⟨fun g => ?_, h.forwardQueue, fun x hx => by simp [hx, h.others x hx], fun _ => by simp [h.desc]⟩
      change u.chain g = _
      rw [h.chain]
      split
      · next hg => rw [hg]; rfl
      · rfl
  · rw [if_neg hmem] at hkept ⊢
    have hhead : (s.chain fr₀.flow).head? ≠ some d := fun hh => hmem (List.mem_of_head? hh)
    refine ⟨fun hh => absurd hh hhead, fun hm => absurd hm hmem, fun _ => ?_, fun hf => by simp at hf,
      fun _ => hkept, fun _ _ => hforward⟩
    exact ⟨h.chain, fun x hx => by simp [hx, h.others x hx], by simp [h.forwardQueue]⟩

/-- Under MARK a failed frame is handed back as a corrected one is, but marked. -/
theorem State.handBack_marked (s : State) (d : DescId) (fr : Descriptor) (h : fr.entry.policy = .mark) :
    s.handBack d fr true = (s.setDamaged d).handBack d fr false := by
  unfold State.handBack State.failedOr
  simp only [h, reduceCtorEq, decide_false, Bool.and_false, Bool.false_eq_true, if_false, if_true]
  rfl

/-- Under DROP a failed frame is handed back to the store. -/
theorem State.Returns.handBack_dropped (h : s.Returns u d fr) (hnodup : (s.chain fr.flow).Nodup)
    (hdrop : fr.entry.policy = .drop) : s.HandedBack (u.handBack d fr true) d fr fr true := by
  have release {w : State} (hw : u.SameBut w [.chains]) (hdesc : ∀ x, w.desc? x = u.desc? x) :
      s.Freed (w.releaseDropped d) d fr := by
    obtain ⟨⟨hfree, hdescs, hcells, hholdOut⟩, -⟩ := w.releaseDropped_freed d fr ((hdesc d).trans h.desc)
    obtain ⟨hwc, hwd⟩ := hw.2 .freeLists (by decide)
    refine ⟨hfree, ?_, ?_, ?_⟩
    · rw [hdescs, hwd, h.store.1]
    · rw [hcells, hwc, h.store.2.1]
    · rw [hholdOut, hw.holdOut_eq (by decide), h.store.2.2]
  unfold State.handBack State.failedOr
  simp only [h.chain, hdrop, decide_true, Bool.and_true, if_true]
  by_cases hmem : d ∈ s.chain fr.flow
  · by_cases hhead : (s.chain fr.flow).head? = some d
    · rw [if_pos hmem, if_pos hhead]
      obtain ⟨ch, hch⟩ : ∃ ch, s.chain fr.flow = d :: ch := ⟨_, List.eq_cons_of_mem_head? hhead⟩
      obtain ⟨hd, -⟩ := List.nodup_cons.mp (hch ▸ hnodup)
      have hgone := release (w := u.setChain fr.flow ch) (u.setChain_sameBut _ _) fun _ => rfl
      obtain ⟨hc, hq, hreleased, hothers⟩ := State.releaseOnward_behind (s := s) (d := d) (ch := ch)
        (v := (u.setChain fr.flow ch).releaseDropped d) (f := fr.flow) (by simp)
        (fun x hx => by simp [hx, h.others x hx]) hd
      have hdnot : d ∉ ch.takeWhile s.isHeld := fun hx => hd ((List.takeWhile_sublist _).mem hx)
      rw [hch, List.tail_cons]
      refine ⟨fun _ => ?_, fun _ hnot => absurd hhead hnot, fun hnot => absurd hmem hnot, fun _ => ?_,
        fun hf => by simp at hf, fun hf => by simp at hf⟩
      · rw [hch, List.tail_cons]
        refine ⟨fun g => (hc g).trans ?_, hq.trans ?_, hreleased, fun x hx hx' => (hothers x hx').trans ?_⟩
        · by_cases hg : g = fr.flow
          · rw [if_pos hg, if_pos hg]
          · simp [hg, h.chain]
        · simp [h.forwardQueue]
        · simp [hx, h.others x hx]
      · have hs := ((u.setChain fr.flow ch).releaseDropped d).releaseOnward_sameBut fr.flow
        obtain ⟨hcells, hdescs⟩ := hs.2 .freeLists (by decide)
        refine ⟨(hothers d hdnot).trans hgone.free, hdescs.trans hgone.descs, hcells.trans hgone.cells, ?_⟩
        rw [hcells, hdescs, hs.holdOut_eq (by decide)]
        exact hgone.holdOut
    · rw [if_pos hmem, if_neg hhead]
      refine ⟨fun hh => absurd hh hhead, fun _ _ => ?_, fun hnot => absurd hmem hnot,
        fun _ => release (u.setChain_sameBut _ _) fun _ => rfl, fun hf => by simp at hf, fun hf => by simp at hf⟩
      exact ⟨fun g => by simp [h.chain], by simp [h.forwardQueue],
        fun x hx => by simp [hx, h.others x hx], fun hf => by simp at hf⟩
  · rw [if_neg hmem]
    have hhead : (s.chain fr.flow).head? ≠ some d := fun hh => hmem (List.mem_of_head? hh)
    refine ⟨fun hh => absurd hh hhead, fun hm => absurd hm hmem, fun _ => ?_,
      fun _ => release (.refl u _) fun _ => rfl, fun hf => by simp at hf, fun hf => by simp at hf⟩
    exact ⟨fun g => by simp [h.chain], fun x hx => by simp [hx, h.others x hx], by simp [h.forwardQueue]⟩

end Sys2Proof.Machine
end

section
/-! The obligations about the completion of a locator run. -/

namespace Sys2Proof.Machine

variable {s t u : State} {d : DescId} {fr : Descriptor} {e : EngineId} {r : Run} {entries : List ErrorEntry}

/-! ### The error list in the cells (R75) -/

theorem readFrameByte_writeFrameByte (m : Memory) (cells : List CellId) (j k : Nat) (b : Byte)
    (hm : memoryWf m = true) (hcells : cells.Nodup) (hk : k < 64 * cells.length) :
    readFrameByte (writeFrameByte m cells k b) cells j = if j = k then b else readFrameByte m cells j := by
  obtain ⟨a, ha⟩ := Option.isSome_iff_exists.mp ((frameAddress_isSome cells k).mpr hk)
  split
  · next hjk =>
    rw [hjk, readFrameByte, ha, writeFrameByte, ha]
    exact readByte_writeByte_same m a b hm
  · next hjk =>
    unfold readFrameByte
    split
    · next x hx =>
      exact readByte_writeFrameByte_ne _ _ _ _ _ fun hkx => hjk (frameAddress_inj cells hcells j k x hx hkx)
    · rfl

theorem readPayload_writeFrameByte (m : Memory) (cells : List CellId) (n p : Nat) (b : Byte)
    (hm : memoryWf m = true) (hcells : cells.Nodup) (hn : 8 + n ≤ 64 * cells.length) (hp : p < n) :
    readPayload (writeFrameByte m cells (Config.headerBytes + p)
        (readFrameByte m cells (Config.headerBytes + p) ^^^ b)) cells n =
      (readPayload m cells n).modify p (· ^^^ b) := by
  refine List.ext_getElem (by simp [readPayload]) fun i hi hi' => ?_
  have hi : i < n := by simpa [readPayload] using hi
  rw [List.getElem_modify]
  simp only [readPayload, List.getElem_map, List.getElem_range]
  rw [readFrameByte_writeFrameByte m cells _ _ _ hm hcells (by simp only [Config.headerBytes]; omega)]
  by_cases hip : p = i
  · simp [hip]
  · rw [if_neg hip, if_neg (by omega)]

/-- Applying an error list adds its values to the payload that the cells hold (R75). -/
theorem readPayload_applyList (m : Memory) (cells : List CellId) (n : Nat) (entries : List ErrorEntry)
    (hm : memoryWf m = true) (hcells : cells.Nodup) (hn : 8 + n ≤ 64 * cells.length)
    (hentries : ∀ x ∈ entries, x.position < n) :
    readPayload (applyList m cells entries) cells n = withErrors (readPayload m cells n) entries := by
  induction entries generalizing m with
  | nil => rfl
  | cons x rest ih =>
    obtain ⟨hx, hrest⟩ := List.forall_mem_cons.mp hentries
    rw [applyList, ih _ (memoryWf_writeFrameByte _ _ _ _ hm) hrest,
      readPayload_writeFrameByte m cells n x.position x.value hm hcells hn hx]
    rfl

theorem readByte_applyList_ne (m : Memory) (cells : List CellId) (n a : Nat) (entries : List ErrorEntry)
    (hentries : ∀ x ∈ entries, x.position < n)
    (ha : ∀ k, 8 ≤ k → k < 8 + n → frameAddress cells k ≠ some a) :
    readByte (applyList m cells entries) a = readByte m a := by
  induction entries generalizing m with
  | nil => rfl
  | cons x rest ih =>
    obtain ⟨hx, hrest⟩ := List.forall_mem_cons.mp hentries
    rw [applyList, ih _ hrest]
    refine readByte_writeFrameByte_ne _ _ _ _ _ (ha _ ?_ ?_) <;> simp only [Config.headerBytes] <;> omega

/-! ### The run of an engine -/

theorem State.setEngine_firstFreed (s : State) (e : EngineId) (r : Option Run) :
    (s.setEngine e r).locator.firstFreed = s.locator.firstFreed := by cases e <;> rfl

/-- Under DROP a failed frame that is handed back counts DROPPED for its flow. -/
theorem State.handBack_dropped_counted (hd : s.desc? d = some fr) (hdrop : fr.entry.policy = .drop) :
    s.FlowCounted (s.handBack d fr true) fr.flow (fr.countIf .dropped) := by
  have release (w : State) (hw : s.SameBut w [.chains]) (hdesc : w.desc? d = s.desc? d) :
      s.FlowCounted (w.releaseDropped d) fr.flow (fr.countIf .dropped) := fun g => by
    obtain ⟨-, -, hcounted⟩ := w.releaseDropped_freed d fr (hdesc.trans hd)
    rw [hcounted g, hw.2 .flowCounters (by decide) g]
  unfold State.handBack State.failedOr
  simp only [hdrop, decide_true, Bool.and_true, if_true]
  split
  · split
    · exact (release _ (s.setChain_sameBut _ _) rfl).of_sameBut (State.releaseOnward_sameBut _ _) (by decide)
    · exact release _ (s.setChain_sameBut _ _) rfl
  · exact release s (.refl s _) rfl

/-- The positions of a list that an engine reports are positions of the frame's payload. -/
theorem State.Inv.entries_inside (h : s.Inv) (he : s.engineRun e = some r) (hd : s.desc? r.desc = some fr)
    (hresult : locate r.syndromes r.strength.t r.length = some entries) :
    ∀ x ∈ entries, x.position < headerLength fr.header := by
  obtain ⟨-, -, hlength⟩ := h.runs.runs e r fr he hd
  rw [← hlength]
  exact fun x hx => ((locate_sound hresult).1.inside x hx).1

theorem State.Inv.readPayload_applyList (h : s.Inv) (he : s.engineRun e = some r)
    (hd : s.desc? r.desc = some fr) (hresult : locate r.syndromes r.strength.t r.length = some entries) :
    readPayload (applyList s.store.memory fr.cells entries) fr.cells (headerLength fr.header) =
      withErrors (readPayload s.store.memory fr.cells (headerLength fr.header)) entries :=
  Machine.readPayload_applyList _ _ _ _ h.memory (h.store.cells_nodup hd) (h.payload_fits hd)
    (h.entries_inside he hd hresult)

/-- The part as the completion of a run with a list hands the frame back: the list recorded and applied, the
counts made and the engine IDLE. -/
def State.listApplied (s : State) (e : EngineId) (r : Run) (fr : Descriptor) (entries : List ErrorEntry) : State :=
  let recorded := (s.advanceTo r.listTime).modDesc r.desc fun x => { x with correction := some entries }
  let applied := recorded.putMemory (applyList recorded.store.memory fr.cells entries)
  ((applied.countFlow fr.flow .corrected 1).countFlow fr.flow .symbolsFixed entries.length).setEngine e none

theorem exec_locatorCompletionList (he : s.engineRun e = some r) (hd : s.desc? r.desc = some fr)
    (hresult : locate r.syndromes r.strength.t r.length = some entries) :
    exec (.locatorCompletionList e) s = .next ((s.listApplied e r fr entries).handBack r.desc fr false).settle := by
  change execLocatorCompletionList e s = _
  unfold execLocatorCompletionList
  simp only [he, hd, Run.result, hresult]
  rfl

/-- The part as the completion of a run that FAILED hands the frame back. -/
def State.failureRaised (s : State) (e : EngineId) (r : Run) (fr : Descriptor) : State :=
  (((s.advanceTo r.failedTime).countFlow fr.flow .codeFailed 1).raise .codeFailure).setEngine e none

theorem exec_locatorCompletionFailed (he : s.engineRun e = some r) (hd : s.desc? r.desc = some fr)
    (hresult : locate r.syndromes r.strength.t r.length = none) :
    exec (.locatorCompletionFailed e) s = .next ((s.failureRaised e r fr).handBack r.desc fr true).settle := by
  change execLocatorCompletionFailed e s = _
  unfold execLocatorCompletionFailed
  simp only [he, hd, Run.result, hresult]
  rfl

theorem State.listApplied_sameBut (s : State) (e : EngineId) (r : Run) (fr : Descriptor)
    (entries : List ErrorEntry) :
    s.SameBut (s.listApplied e r fr entries) [.clock, .cells, .descriptors, .locator, .flowCounters] :=
  ((((((s.advanceTo_sameBut _).trans (State.modDesc_sameBut _ _ _)).trans (State.putMemory_sameBut _ _)).trans
    (State.countFlow_sameBut _ _ _ _)).trans (State.countFlow_sameBut _ _ _ _)).trans
    (State.setEngine_sameBut _ e none)).mono (by decide)

theorem State.failureRaised_sameBut (s : State) (e : EngineId) (r : Run) (fr : Descriptor) :
    s.SameBut (s.failureRaised e r fr) [.clock, .locator, .flowCounters, .events] :=
  ((((s.advanceTo_sameBut _).trans (State.countFlow_sameBut _ _ _ _)).trans (State.raise_sameBut _ _)).trans
    (State.setEngine_sameBut _ e none)).mono (by decide)

end Sys2Proof.Machine

section
open Sys2Proof Sys2Proof.Machine

/-- Settles O42. -/
theorem completionWithAListCorrectsTheFrame : Obligations.CompletionWithAListCorrectsTheFrame := by
  unfold Obligations.CompletionWithAListCorrectsTheFrame
  intro s e r fr entries hinv he hd hresult
  have happlied := s.listApplied_sameBut e r fr entries
  have hback := (s.listApplied e r fr entries).handBack_corrected_sameBut r.desc fr
  have hsettle := ((s.listApplied e r fr entries).handBack r.desc fr false).settle_sameBut
  have hafter := hback.trans hsettle
  have hmemory : ((s.listApplied e r fr entries).handBack r.desc fr false).settle.store.memory =
      applyList s.store.memory fr.cells entries := by
    rw [State.settle_store, State.handBack_memory]
    simp [State.listApplied]
  have hreturns : s.Returns (s.listApplied e r fr entries) r.desc { fr with correction := some entries } :=
    .of_sameBut happlied (by simp [State.listApplied, hd]) (fun x hx => by simp [State.listApplied, hx]) (by decide)
  refine ⟨_, exec_locatorCompletionList he hd hresult, ?_, ?_, ?_, ?_, ?_, ?_, ?_, ?_, ?_, ?_⟩
  · have hnow : State.now _ = State.now _ := hafter.2 .clock (by decide)
    rw [hnow]
    simp [State.listApplied, State.advanceTo, Run.listTime]
  · rw [hafter.locator_eq (by decide)]
    simp [State.listApplied]
  · rw [hafter.locator_eq (by decide), State.listApplied, State.setEngine_firstFreed]
    simp
  · rw [hafter.engineRun_eq (by decide)]
    simp [State.listApplied]
  · intro x hx
    rw [hafter.engineRun_eq (by decide)]
    simp [State.listApplied, hx]
  · rw [hmemory]
    exact hinv.readPayload_applyList he hd hresult
  · intro a ha
    rw [hmemory]
    exact readByte_applyList_ne _ _ _ _ _ (hinv.entries_inside he hd hresult) ha
  · refine State.FlowCounted.of_sameBut (t := s.listApplied e r fr entries) (fun g => ?_) hafter (by decide)
    by_cases hg : g = fr.flow <;> simp [State.listApplied, hg]
  · exact (hreturns.handBack (hinv.chains.nodup _)).of_sameBut hsettle (by decide)
  · exact ((happlied.trans hback).trans hsettle).mono (by decide)

/-- Settles O43. -/
theorem failedCompletionAppliesThePolicy : Obligations.FailedCompletionAppliesThePolicy := by
  unfold Obligations.FailedCompletionAppliesThePolicy
  intro s e r fr hinv he hd hresult
  have hfailed := s.failureRaised_sameBut e r fr
  have hback := (s.failureRaised e r fr).handBack_sameBut r.desc fr true
  have hsettle := ((s.failureRaised e r fr).handBack r.desc fr true).settle_sameBut
  have hafter := hback.trans hsettle
  have hcounted : s.FlowCounted (s.failureRaised e r fr) fr.flow (fun k => k.count .codeFailed 1) := fun g => by
    by_cases hg : g = fr.flow <;> simp [State.failureRaised, hg]
  have hreturns : s.Returns (s.failureRaised e r fr) r.desc fr :=
    .of_sameBut hfailed (by simp [State.failureRaised, hd]) (fun x hx => by simp [State.failureRaised]) (by decide)
  refine ⟨_, exec_locatorCompletionFailed he hd hresult, ?_, ?_, ?_, ?_, ?_, ?_, fun hdrop => ⟨?_, ?_⟩,
    fun hmark => ⟨?_, ?_⟩, ?_⟩
  · have hnow : State.now _ = State.now _ := hafter.2 .clock (by decide)
    rw [hnow]
    simp [State.failureRaised, State.advanceTo, Run.failedTime]
  · rw [hafter.locator_eq (by decide)]
    simp [State.failureRaised]
  · rw [hafter.locator_eq (by decide), State.failureRaised, State.setEngine_firstFreed]
    simp
  · rw [hafter.engineRun_eq (by decide)]
    simp [State.failureRaised]
  · intro x hx
    rw [hafter.engineRun_eq (by decide)]
    simp [State.failureRaised, hx]
  · refine State.RaisedOnce.of_events s _ ((s.advanceTo r.failedTime).countFlow fr.flow .codeFailed 1) _ rfl ?_
    rw [hafter.events_eq (by decide)]
    simp [State.failureRaised]
  · have hdata : fr.isData = true := by
      obtain ⟨fr', hd', hlocating⟩ := (hinv.places.locating r.desc).mp ⟨e, by simp [State.engineDesc, he]⟩
      obtain rfl := Option.some.inj (hd.symm.trans hd')
      exact hinv.chains.dataOnly _ _ hd (by simp [Descriptor.waits, hlocating])
    have hdropped := (State.handBack_dropped_counted hreturns.desc hdrop).of_sameBut hsettle (by decide)
    simpa only [Descriptor.countIf, hdata, if_true] using hcounted.trans hdropped
  · exact (hreturns.handBack_dropped (hinv.chains.nodup _) hdrop).of_sameBut hsettle (by decide)
  · rw [State.handBack_marked _ _ _ hmark]
    refine hcounted.of_sameBut (((State.setDamaged_sameBut _ _).trans
      (State.handBack_corrected_sameBut _ _ _)).trans (State.settle_sameBut _)) (by decide)
  · refine State.HandedBack.of_sameBut ?_ hsettle (by decide)
    rw [State.handBack_marked _ _ _ hmark]
    exact hreturns.setDamaged.handBack (hinv.chains.nodup _)
  · exact ((hfailed.trans hback).trans hsettle).mono (by decide)

/-- Settles O44: the run's syndromes are the payload's, and the list that a run reports gives them. -/
theorem correctedFramesAreCodewords : Obligations.CorrectedFramesAreCodewords := by
  unfold Obligations.CorrectedFramesAreCodewords
  intro s t e r fr entries hinv hsyndromes he hd hresult hexec
  obtain rfl : _ = t := by
    have h := (exec_locatorCompletionList he hd hresult).symm.trans hexec
    injection h
  have hmemory : ((s.listApplied e r fr entries).handBack r.desc fr false).settle.store.memory =
      applyList s.store.memory fr.cells entries := by
    rw [State.settle_store, State.handBack_memory]
    simp [State.listApplied]
  rw [hmemory, hinv.readPayload_applyList he hd hresult]
  obtain ⟨hrun, hstrength, hlength⟩ := hinv.runs.runs e r fr he hd
  have hplace : s.InPlace r.desc .locating := (hinv.places.locating _).mp ⟨e, by simp [State.engineDesc, he]⟩
  obtain ⟨fr', hd', hlocating⟩ := hplace
  obtain rfl := Option.some.inj (hd.symm.trans hd')
  obtain ⟨hpayload, -⟩ := hsyndromes _ _ hd (.inr hlocating)
  have hsame : r.syndromes = _ := Option.some.inj (hrun.symm.trans hpayload)
  refine isClean_withErrors _ _ _ ?_ ?_
  · rw [readPayload_length]
    exact hinv.entries_inside he hd hresult
  · have hsound := (locate_sound hresult).2
    rw [hsame, length_syndromesOf, hlength] at hsound
    rwa [readPayload_length]

end
end

section
/-! A reset that takes effect (R35, R82, R102, R122, R147 to R149): what it leaves, and what it counts. -/

namespace Sys2Proof.Machine

variable {s t u : State} {d x : DescId} {fr : Descriptor} {f : Byte} {tx : Transmission} {received : List Byte}
  {scope : ResetScope}

/-! ### The counts of a reset (R35) -/

theorem FlowCounters.count_dropped_zero {k : FlowCounters} (h : k.dropped ≤ 4294967295) : k.count .dropped 0 = k := by
  simp [FlowCounters.count, counted, Config.counterLimit, h]

theorem FlowCounters.count_dropped_add (k : FlowCounters) (a b : Nat) :
    (k.count .dropped a).count .dropped b = k.count .dropped (a + b) := by
  simp only [FlowCounters.count, counted, Config.counterLimit]
  congr 1
  omega

theorem State.foldl_countFlow_flowCounters (l : List (Nat × Descriptor)) (s : State) (f : Byte)
    (h : (s.flowCounters f).dropped ≤ 4294967295) :
    (l.foldl (fun t p => t.countFlow p.2.flow .dropped 1) s).flowCounters f =
      (s.flowCounters f).count .dropped (l.filter fun p => decide (p.2.flow = f)).length := by
  induction l generalizing s with
  | nil => exact (FlowCounters.count_dropped_zero h).symm
  | cons p l ih =>
    have hcount := s.countFlow_flowCounters p.2.flow f .dropped 1
    rw [List.foldl_cons]
    by_cases hp : p.2.flow = f
    · rw [if_pos hp.symm, hp] at hcount
      rw [hp, ih _ (by rw [hcount]; simp [FlowCounters.count, counted, Config.counterLimit]), hcount,
        FlowCounters.count_dropped_add, List.filter_cons_of_pos (by simpa using hp), List.length_cons, Nat.add_comm]
    · rw [if_neg (Ne.symm hp)] at hcount
      rw [ih _ (by rwa [hcount]), hcount, List.filter_cons_of_neg (by simpa using hp)]

/-- A reset counts DROPPED for each DATA frame that is present (R35). -/
theorem State.countFreed_flowCounters (h : (s.flowCounters f).dropped ≤ 4294967295) :
    s.countFreed.flowCounters f = (s.flowCounters f).count .dropped (s.present f) := by
  rw [State.countFreed, State.foldl_countFlow_flowCounters _ s f h, List.filter_filter]
  congr 1
  rw [s.length_liveDescs_filter fun fr => decide (fr.flow = f) && fr.isData, State.present]
  congr 2
  funext d
  cases s.desc? d with
  | none => rfl
  | some fr => exact Bool.and_comm _ _

theorem State.storeArrived_sameBut (s : State) (received : List Byte) :
    s.SameBut (s.storeArrived received) [.cells] := by
  unfold State.storeArrived
  split
  · exact .refl s _
  · exact .refl s _
  · exact .refl s _
  · split
    · exact .refl s _
    · exact s.storePayload_sameBut _ _

theorem State.present_of_desc (h : ∀ d, t.desc? d = s.desc? d) (f : Byte) : t.present f = s.present f := by
  simp only [State.present, h]

/-- The counters of a flow after FLUSH. -/
theorem State.flush_flowCounters (h : (s.flowCounters f).dropped ≤ 4294967295) :
    (s.flush received).flowCounters f = (s.flowCounters f).count .dropped (s.present f) := by
  have hstored := s.storeArrived_sameBut received
  have hcounters := hstored.2 .flowCounters (by decide) f
  calc (s.flush received).flowCounters f = (s.storeArrived received).countFreed.flowCounters f := rfl
    _ = _ := by
      rw [State.countFreed_flowCounters (by rw [hcounters]; exact h), hcounters,
        State.present_of_desc (hstored.2 .descriptors (by decide))]

theorem State.flowCounters_of_reset (h : s.counters = CounterStore.reset) (f : Byte) :
    s.flowCounters f = FlowCounters.zero := by
  simp [State.flowCounters, h, CounterStore.reset, atFlow]

/-! ### What a reset leaves -/

/-- FLUSH, but for the counts, written out. -/
theorem State.flush_eq (s : State) (received : List Byte) :
    ∃ k, s.flush received =
      { s with
        receiver := s.receiver.flushed
        codeUnit := .idle
        store := (s.storeArrived received).store.flushed
        locator := Locator.reset
        order := { s.order with chains := Vector.replicate 256 [] }
        egress := s.egress.flushed s.now
        management := { s.management with responses := [], pendingReset := none }
        counters := { s.counters with flows := k } } := by
  obtain ⟨k, hk⟩ := (s.storeArrived received).countFreed_eq
  refine ⟨k, ?_⟩
  unfold State.flush
  simp only [hk, State.storeArrived_receiver, State.storeArrived_locator, State.storeArrived_order,
    State.storeArrived_egress, State.storeArrived_management, State.storeArrived_now, State.storeArrived_counters,
    State.storeArrived_nodeAddress, State.storeArrived_table, State.storeArrived_events, State.storeArrived_pending]

/-- The pieces that the completion of a response or of a forwarded copy changes (R106). -/
def departurePieces : List Piece :=
  [.transmitter, .clock, .responses, .pendingReset, .freeLists, .holdOut, .descriptors]

/-- The second state is the first after the departure of a response or of a forwarded copy. -/
structure State.Departed (s u : State) : Prop where
  sameBut : s.SameBut u departurePieces
  memory : u.store.memory = s.store.memory
  idle : u.egress.transmitter = none
  slot : ∀ d, s.receiver.reception = .receiving d → u.desc? d = s.desc? d
  present : ∀ f, u.present f = s.present f

theorem State.idle_departed (s : State) (n : Nat) : s.Departed (s.advanceTo n).idleTransmitter.completeResponse := by
  have hleft := (((s.advanceTo_sameBut n).trans (State.idleTransmitter_sameBut _)).trans
    (State.completeResponse_sameBut _))
  have hresponse := (s.advanceTo n).idleTransmitter.completeResponse_sameBut
  have hstore : (s.advanceTo n).idleTransmitter.completeResponse.store = s.store := by
    unfold State.completeResponse
    split
    · rfl
    · dsimp only
      split <;> rfl
  have hdesc : ∀ d, (s.advanceTo n).idleTransmitter.completeResponse.desc? d = s.desc? d := fun d => by
    rw [State.desc?, hstore, State.desc?]
  exact ⟨hleft.mono (by decide), by rw [hstore], hresponse.2 .transmitter (by decide), fun d _ => hdesc d,
    State.present_of_desc hdesc⟩

/-- A frame that is not DATA is not among the present ones. -/
theorem State.present_of_freed (hd : s.desc? d = some fr) (hdata : fr.isData = false)
    (hdesc : ∀ x, t.desc? x = if x = d then none else s.desc? x) (f : Byte) : t.present f = s.present f := by
  unfold State.present
  congr 2
  funext x
  rw [hdesc]
  by_cases hx : x = d
  · simp [hx, hd, hdata]
  · rw [if_neg hx]

theorem State.releaseSent_sameBut_request (hd : s.desc? d = some fr) (hdata : fr.isData = false) :
    s.SameBut (s.releaseSent d) [.freeLists, .descriptors, .holdOut] := by
  refine ⟨(s.releaseSent_sameBut d).1, fun p hp => ?_⟩
  by_cases hcounters : p = .flowCounters
  · subst hcounters
    obtain ⟨-, -, counted⟩ := s.releaseSent_freed d fr hd
    exact fun f => by simpa [Descriptor.countIf, hdata] using counted f
  · exact (s.releaseSent_sameBut d).2 p (by simpa [hcounters] using hp)

theorem State.copy_departed (n : Nat) (hd : s.desc? d = some fr) (hrole : fr.role = .request)
    (hplace : fr.place ≠ .receiving) (hslot : ∀ d, s.receiver.reception = .receiving d ↔ s.InPlace d .receiving) :
    s.Departed ((s.advanceTo n).idleTransmitter.completeForward d fr) := by
  have hdata : fr.isData = false := by simp [Descriptor.isData, hrole]
  have hdesc := fun x => (s.advanceTo n).idleTransmitter.completeForward_desc? d x fr
  refine ⟨?_, State.completeForward_memory _ d fr, ?_, fun x hx => ?_, State.present_of_freed hd hdata hdesc⟩
  · have hrelease := State.releaseSent_sameBut_request (s := (s.advanceTo n).idleTransmitter) hd hdata
    refine State.SameBut.mono (l := [.clock] ++ [.transmitter] ++ ([.freeLists, .descriptors, .holdOut] ++ [.pendingReset]))
      (((s.advanceTo_sameBut n).trans (State.idleTransmitter_sameBut _)).trans ?_) (by decide)
    unfold State.completeForward
    rw [if_pos hrole]
    exact hrelease.trans (State.updatePending_sameBut _ _)
  · exact ((s.advanceTo n).idleTransmitter.completeForward_sameBut d fr).2 .transmitter (by decide)
  · rw [hdesc, if_neg]
    · rfl
    · rintro rfl
      obtain ⟨fr', hd', hp⟩ := (hslot x).mp hx
      rw [Option.some.inj (hd.symm.trans hd')] at hplace
      exact hplace hp

/-- A reset takes effect at the departure of a response or of a forwarded copy, behind that departure's own
effect (R147). -/
theorem State.ResetTakesEffect.departed (hinv : s.Inv)
    (h : s.ResetTakesEffect (.transmissionCompletion received) scope) :
    ∃ u, s.Departed u ∧ exec (.transmissionCompletion received) s = .next (u.applyReset scope received).settle := by
  have answered {tx : Transmission} (htx : s.egress.transmitter = some tx) {u : State} (hu : s.Completed tx u) :
      exec (.transmissionCompletion received) s = .next (u.applyReset scope received).settle := by
    rw [hu.exec_eq received htx, u.resetIfDue_of_due received ((hu.dueNow_iff received scope htx).mpr h)]
  obtain ⟨_, tx, p, -, htx, hp, -, hresponse, hcopy⟩ := id h
  have hwaits : ¬(p.responseOutstanding = false ∧ p.copyOutstanding = none) := fun hdue => by
    exact absurd (p.isDue_iff.mpr hdue) (by simp [hinv.management.pending p hp])
  by_cases hsource : tx.source = .response
  · exact ⟨_, s.idle_departed _, answered htx (.response hsource)⟩
  · obtain hnone | ⟨d, fr, hforward, hd, hrole, -⟩ := hcopy
    · exact absurd ⟨hresponse.resolve_right fun h => hsource h.1, hnone⟩ hwaits
    · have hsending : s.InPlace d .sending := (hinv.places.sending d).mp (by simp [State.sending, htx, hforward])
      obtain ⟨fr', hd', hplace⟩ := hsending
      obtain rfl := Option.some.inj (hd.symm.trans hd')
      exact ⟨_, State.copy_departed _ hd hrole (by simp [hplace]) hinv.places.receiving,
        answered htx (.forward hforward hd)⟩

theorem State.Departed.storeArrived_memory (h : s.Departed u)
    (hnone : ∀ d, s.receiver.reception ≠ .receiving d) :
    (u.storeArrived received).store.memory = s.store.memory := by
  have hreceiver : u.receiver = s.receiver := h.sameBut.2 .receiver (by decide)
  rw [u.storeArrived_of_none received (by rwa [hreceiver]), h.memory]

theorem State.Departed.arrivedStored (h : s.Departed u) (hslot : s.receiver.reception = .receiving d)
    (hd : s.desc? d = some fr) : s.ArrivedStored (u.storeArrived received) fr received := by
  have hreceiver : u.receiver = s.receiver := h.sameBut.2 .receiver (by decide)
  have hstored := u.storeArrived_stored received d fr (by rw [hreceiver, hslot]) ((h.slot d hslot).trans hd)
  refine ⟨fun a ha => ?_, fun hwf => hstored.stored ?_⟩
  · rw [hstored.others a ha, h.memory]
  · rwa [State.MemoryInv, h.memory]

/-- What FLUSH and RESTART do alike. -/
theorem State.Departed.flushed (h : s.Departed u) :
    s.Flushed (u.applyReset scope received).settle received := by
  have hreceiver : u.receiver = s.receiver := h.sameBut.2 .receiver (by decide)
  have haddress : u.nodeAddress = s.nodeAddress := h.sameBut.2 .nodeAddress (by decide)
  have hholdIn : u.egress.holdIn = s.egress.holdIn := h.sameBut.2 .holdIn (by decide)
  have hreplay : u.management.replay = s.management.replay := h.sameBut.2 .replay (by decide)
  have hreception : s.receiver.flushed = { s.receiver with
      currentHeader := none
      reception := if ∃ d, s.receiver.reception = .receiving d then .skipping else s.receiver.reception } := by
    unfold Receiver.flushed
    cases s.receiver.reception <;> simp
  have hmemory : (u.applyReset scope received).settle.store.memory = (u.storeArrived received).store.memory := by
    cases scope <;> exact u.flush_memory received
  obtain ⟨k, hk⟩ := u.flush_eq received
  exact {
    cells := fun hnone a => by rw [hmemory, h.storeArrived_memory hnone]
    arrived := fun d fr hslot hd => (h.arrivedStored hslot hd).of_memory hmemory
    descs := fun d => by cases scope <;> exact u.flush_desc? received d
    holdWait := fun due hdue => (((State.settle_holdWait hdue).2.resolve_left
      (by simp [State.applyReset_holdWait])).2)
    freeDescs := by cases scope <;> rfl
    freeCells := by cases scope <;> rfl
    holdOut := by cases scope <;> rfl
    locator := by cases scope <;> rfl
    chains := fun f => by
      cases scope <;> simp [State.applyReset, State.restart, hk, State.chain, atFlow]
    forwardQueue := by cases scope <;> rfl
    transmitter := by cases scope <;> simpa [State.applyReset, State.restart, hk, Egress.flushed] using h.idle
    debt := by cases scope <;> rfl
    overdue := by cases scope <;> rfl
    permission := by cases scope <;> rfl
    cadenceDue := by cases scope <;> simp [State.applyReset, State.restart, hk, Egress.flushed]
    holdIn := by cases scope <;> simpa [State.applyReset, State.restart, hk, Egress.flushed] using hholdIn
    responses := by cases scope <;> rfl
    pendingReset := by cases scope <;> rfl
    replay := by cases scope <;> simpa [State.applyReset, State.restart, hk] using hreplay
    nodeAddress := by cases scope <;> simpa [State.applyReset, State.restart, hk] using haddress
    receiver := by
      rw [← hreception, ← hreceiver]
      cases scope <;> simp [State.applyReset, State.restart, hk]
    codeUnit := by cases scope <;> rfl
    pending := by cases scope <;> simpa [State.applyReset, State.restart, hk] using h.sameBut.1 }

end Sys2Proof.Machine

section
open Sys2Proof Sys2Proof.Machine

/-- Settles O51. -/
theorem pendingResetTakesEffectAtTheLastDeparture : Obligations.PendingResetTakesEffectAtTheLastDeparture := by
  unfold Obligations.PendingResetTakesEffectAtTheLastDeparture
  intro s received scope hinv htakes
  obtain ⟨u, hu, hexec⟩ := htakes.departed hinv
  have hsame := hu.sameBut
  obtain ⟨k, hk⟩ := u.flush_eq received
  refine ⟨PendingReset.isDue_iff, _, hexec, hu.flushed, ?flush, ?restart⟩
  case flush =>
    rintro rfl
    have htable : u.table = s.table := hsame.2 .table (by decide)
    have htiming : u.egress.timing = s.egress.timing := hsame.2 .timing (by decide)
    have hclaim : u.management.claim = s.management.claim := hsame.2 .claim (by decide)
    have hcadence := hsame.2 .cadence (by decide)
    have hevents : u.events = s.events := hsame.2 .events (by decide)
    have hglobals : u.counters.globals = s.counters.globals := hsame.2 .globalCounters (by decide)
    refine ⟨?_, ?_, ?_, ?_, ?_, ?_, fun f => ?_⟩
    · simpa [State.applyReset, hk] using htable
    · simpa [State.applyReset, hk, Egress.flushed] using htiming
    · simpa [State.applyReset, hk] using hclaim
    · simpa [State.applyReset, hk, Egress.flushed] using hcadence.2.2.2
    · simpa [State.applyReset, hk] using hevents
    · simpa [State.applyReset, hk] using hglobals
    · have hcounters := hsame.2 .flowCounters (by decide) f
      have hlimit : (s.flowCounters f).dropped ≤ 4294967295 :=
        hinv.counters.flows f _ (by simp [State.flowValues])
      have hflush : (u.flush received).flowCounters f = _ :=
        State.flush_flowCounters (by rw [hcounters]; exact hlimit)
      rw [hcounters, hu.present] at hflush
      exact hflush
  case restart =>
    rintro rfl
    have hcounters (f : Byte) : (u.applyReset .restart received).settle.flowCounters f = FlowCounters.zero :=
      State.flowCounters_of_reset rfl f
    exact ⟨rfl, rfl, rfl, rfl, rfl, rfl,
      fun f => ⟨FlowTable.reset_activeEntry f, FlowTable.reset_stagedEntry f⟩, rfl, rfl, rfl,
      fun c => classes_of_reset rfl c, rfl, fun f => flowValues_of_zero (hcounters f), globalValues_of_zero rfl⟩

end
end

section
/-! The accounting of a flow (R176): what each update makes of the counters and of the frames present. -/

namespace Sys2Proof.Machine

variable {s t u v : State} {c : Instr} {d : DescId} {fr : Descriptor} {f : Byte}

/-! ### The frames present -/

/-- The descriptor holds a DATA frame of the flow. -/
def State.owns (s : State) (f : Byte) (d : DescId) : Bool :=
  decide ((s.desc? d).map Descriptor.owner = some (true, f))

theorem State.present_eq (s : State) (f : Byte) :
    s.present f = ((List.finRange 40).filter (s.owns f)).length := by
  unfold State.present
  congr 2
  funext d
  unfold State.owns Descriptor.owner
  cases s.desc? d with
  | none => rfl
  | some fr => simp

theorem State.owns_eq (hd : s.desc? d = some fr) (f : Byte) : s.owns f d = (fr.isData && decide (fr.flow = f)) := by
  simp [State.owns, hd, Descriptor.owner]

theorem State.owns_free (hd : s.desc? d = none) (f : Byte) : s.owns f d = false := by
  simp [State.owns, hd]

theorem State.owns_of_desc {x : DescId} (h : t.desc? x = s.desc? x) (f : Byte) : t.owns f x = s.owns f x := by
  simp only [State.owns, h]

theorem State.present_of_owners (h : s.SameOwners t) (f : Byte) : t.present f = s.present f := by
  have howns : t.owns f = s.owns f := funext fun d => by rw [State.owns, h d, State.owns]
  rw [State.present_eq, State.present_eq, howns]

theorem length_filter_succ {α : Type} {l : List α} {d : α} {p q : α → Bool} (hnodup : l.Nodup) (hd : d ∈ l)
    (hp : p d = true) (hq : q d = false) (h : ∀ x, x ≠ d → p x = q x) :
    (l.filter p).length = (l.filter q).length + 1 := by
  induction l with
  | nil => exact absurd hd List.not_mem_nil
  | cons a l ih =>
    obtain ⟨ha, hl⟩ := List.nodup_cons.mp hnodup
    by_cases had : a = d
    · subst had
      rw [List.filter_cons_of_pos hp, List.filter_cons_of_neg (by simp [hq]), List.length_cons,
        List.filter_congr fun x hx => h x (ne_of_mem_of_not_mem hx ha)]
    · have hdl : d ∈ l := (List.mem_cons.mp hd).resolve_left (Ne.symm had)
      rw [List.filter_cons, List.filter_cons, h a had]
      split
      · rw [List.length_cons, List.length_cons, ih hl hdl]
      · exact ih hl hdl

/-- One DATA frame of the flow has come. -/
theorem State.present_succ (hothers : s.OtherDescs t d) (hs : s.owns f d = false) (ht : t.owns f d = true) :
    t.present f = s.present f + 1 := by
  rw [State.present_eq, State.present_eq]
  exact length_filter_succ (List.nodup_finRange 40) (List.mem_finRange d) ht hs
    fun x hx => State.owns_of_desc (hothers x hx) f

theorem State.present_of_others (hothers : s.OtherDescs t d) (hd : t.owns f d = s.owns f d) :
    t.present f = s.present f := by
  rw [State.present_eq, State.present_eq, List.filter_congr fun x _ => ?_]
  by_cases hx : x = d
  · rw [hx, hd]
  · exact State.owns_of_desc (hothers x hx) f

/-! ### The relation of two states in a command -/

/-- A counter of the flow is at its limit (R168). -/
def State.Saturated (s : State) (f : Byte) : Prop := ∃ n ∈ s.flowValues f, 4294967295 ≤ n

/-- A counter at its limit stays there, and otherwise the flow stays accounted for. -/
structure State.Balances (f : Byte) (s t : State) : Prop where
  saturated : s.Saturated f → t.Saturated f
  accounted : ∀ p0, s.AccountedWith f p0 → t.Saturated f ∨ t.AccountedWith f p0

theorem State.Balances.trans (h : State.Balances f s t) (h' : State.Balances f t u) : State.Balances f s u where
  saturated hs := h'.saturated (h.saturated hs)
  accounted p0 hs := (h.accounted p0 hs).elim (fun ht => .inl (h'.saturated ht)) (h'.accounted p0)

theorem State.Balances.of_same (hcounters : t.flowCounters f = s.flowCounters f)
    (hpresent : t.present f = s.present f) : State.Balances f s t where
  saturated := by simp only [State.Saturated, State.flowValues, hcounters]; exact id
  accounted p0 h := .inr (by rwa [State.AccountedWith, hcounters, hpresent])

/-- The flow's counters of one state are those of the other after a count. -/
theorem State.Saturated.of_count {k : FlowCounter} {n : Nat} (h : s.Saturated f)
    (ht : t.flowCounters f = (s.flowCounters f).count k n) : t.Saturated f := by
  simp only [State.Saturated, State.flowValues, List.mem_cons, List.not_mem_nil, or_false, exists_eq_or_imp,
    exists_eq_left] at h ⊢
  rw [ht, FlowCounters.count_eq_plus]
  cases k <;> simp only [FlowCounters.plus] <;> omega

theorem FlowCounters.mem_counted {k : FlowCounters} (h : t.flowCounters f = k) :
    (4294967295 ≤ k.arrived ∨ 4294967295 ≤ k.dropped ∨ 4294967295 ≤ k.sent) → t.Saturated f := by
  rintro (hk | hk | hk)
  · exact ⟨_, by simp [State.flowValues, h], hk⟩
  · exact ⟨_, by simp [State.flowValues, h], hk⟩
  · exact ⟨_, by simp [State.flowValues, h], hk⟩

/-- A count of anything but arrivals and departures. -/
theorem State.Balances.of_count {k : FlowCounter} {n : Nat} (hk : k ∉ [FlowCounter.arrived, .dropped, .sent])
    (ht : t.flowCounters f = (s.flowCounters f).count k n) (hpresent : t.present f = s.present f) :
    State.Balances f s t where
  saturated hs := hs.of_count ht
  accounted p0 h := .inr <| by
    unfold State.AccountedWith at h ⊢
    rw [ht, hpresent]
    cases k with
    | arrived | dropped | sent => simp at hk
    | _ => exact h

/-- Frames leave, as dropped or as sent, and are counted. -/
theorem State.Balances.of_left {k : FlowCounter} {n : Nat} (hk : k = .dropped ∨ k = .sent)
    (ht : t.flowCounters f = (s.flowCounters f).count k n) (hpresent : s.present f = t.present f + n) :
    State.Balances f s t where
  saturated hs := hs.of_count ht
  accounted p0 h := by
    unfold State.AccountedWith at h ⊢
    refine or_iff_not_imp_left.mpr fun hfull => ?_
    have hlimit := mt (FlowCounters.mem_counted ht) hfull
    rw [ht] 
    rw [FlowCounters.count_eq_plus] at hlimit ⊢
    obtain rfl | rfl := hk
    · simp only [FlowCounters.plus] at hlimit ⊢
      omega
    · simp only [FlowCounters.plus] at hlimit ⊢
      omega

/-- A frame comes, and is counted. -/
theorem State.Balances.of_come (ht : t.flowCounters f = (s.flowCounters f).count .arrived 1)
    (hpresent : t.present f = s.present f + 1) : State.Balances f s t where
  saturated hs := hs.of_count ht
  accounted p0 h := by
    unfold State.AccountedWith at h ⊢
    refine or_iff_not_imp_left.mpr fun hfull => ?_
    have hlimit := mt (FlowCounters.mem_counted ht) hfull
    rw [ht]
    rw [FlowCounters.count_eq_plus] at hlimit ⊢
    simp only [FlowCounters.plus] at hlimit ⊢
    omega

/-! ### The updates -/

theorem State.FlowCounted.of_other {g : Byte} {change : FlowCounters → FlowCounters} (h : s.FlowCounted t g change)
    (hg : f ≠ g) : t.flowCounters f = s.flowCounters f := (h f).trans (if_neg hg)

/-- The release of a frame counts it if it is DATA of the flow. -/
theorem State.Balances.of_released {k : FlowCounter} (hk : k = .dropped ∨ k = .sent) (hd : s.desc? d = some fr)
    (hfree : t.desc? d = none) (hothers : s.OtherDescs t d) (hcounted : s.FlowCounted t fr.flow (fr.countIf k)) :
    State.Balances f s t := by
  by_cases hown : s.owns f d = true
  · have hpresent : s.present f = t.present f + 1 :=
      State.present_succ (fun x hx => (hothers x hx).symm) (State.owns_free hfree f) hown
    rw [State.owns_eq hd, Bool.and_eq_true, decide_eq_true_iff] at hown
    obtain ⟨hdata, rfl⟩ := hown
    exact .of_left hk (by simpa [Descriptor.countIf, hdata] using hcounted fr.flow) hpresent
  · have hown : s.owns f d = false := by simpa using hown
    refine .of_same ?_ (State.present_of_others hothers ((State.owns_free hfree f).trans hown.symm))
    rw [State.owns_eq hd, Bool.and_eq_false_iff, decide_eq_false_iff_not] at hown
    have hsame := hcounted f
    obtain hdata | hflow := hown
    · simpa [Descriptor.countIf, hdata] using hsame
    · exact hcounted.of_other (Ne.symm hflow)

theorem State.toForward_sameOwners (s : State) (d : DescId) : s.SameOwners (s.toForward d) :=
  s.modDesc_sameOwners d (f := fun fr => { fr with place := .forward, deadline := none }) fun _ => rfl

theorem State.balances_upkeep (f : Byte) : Upkeep (State.Balances f) where
  trans h h' := h.trans h'
  same h hl howners := .of_same (h.2 .flowCounters (hl _ (by decide)) f) (State.present_of_owners howners f)
  raise s e := .of_same ((s.raise_sameBut e).2 .flowCounters (by decide) f)
    (State.present_of_owners ((s.raise_sameBut e).sameOwners (by decide)) f)
  countFlow s g k n hk := by
    by_cases hg : f = g
    · subst hg
      exact .of_count (n := n) hk (by simp) rfl
    · exact .of_same ((s.countFlow_counted g k n).of_other hg) rfl
  countGlobal s k := .of_same rfl rfl
  toForward s d := .of_same rfl (State.present_of_owners (s.toForward_sameOwners d) f)
  releaseDropped s d := by
    cases hd : s.desc? d with
    | none => rw [State.releaseDropped, hd]; exact .of_same rfl rfl
    | some fr =>
      obtain ⟨hfreed, hothers, hcounted⟩ := s.releaseDropped_freed d fr hd
      exact .of_released (.inl rfl) hd hfreed.free hothers hcounted
  releaseSent s d := by
    cases hd : s.desc? d with
    | none => rw [State.releaseSent, hd]; exact .of_same rfl rfl
    | some fr =>
      obtain ⟨hfreed, hothers, hcounted⟩ := s.releaseSent_freed d fr hd
      exact .of_released (.inr rfl) hd hfreed.free hothers hcounted
  turnAway s g := by
    by_cases hg : f = g
    · subst hg
      have ht : ((s.countFlow f .arrived 1).countFlow f .dropped 1).flowCounters f =
          ((s.flowCounters f).count .arrived 1).count .dropped 1 := by simp
      constructor
      · exact fun hs => (hs.of_count (t := s.countFlow f .arrived 1) (k := .arrived) (n := 1) (by simp)).of_count
          (k := .dropped) (n := 1) (by simp)
      · intro p0 h
        unfold State.AccountedWith at h ⊢
        refine or_iff_not_imp_left.mpr fun hfull => ?_
        have hlimit := mt (FlowCounters.mem_counted ht) hfull
        rw [ht, show ((s.countFlow f .arrived 1).countFlow f .dropped 1).present f = s.present f from rfl]
        rw [FlowCounters.count_eq_plus, FlowCounters.count_eq_plus] at hlimit ⊢
        simp only [FlowCounters.plus] at hlimit ⊢
        omega
    · exact .of_same (((s.countFlow_counted g _ _).of_other hg |> fun h =>
        ((State.countFlow_counted _ g _ _).of_other hg).trans h)) rfl

/-! ### Frames that come, and requests -/

/-- The frame that is admitted counts ARRIVED if it is DATA. -/
theorem State.Balances.admission (hd : s.desc? d = none) (role : Role) (h : HeaderBytes) :
    State.Balances f s ((s.countArrival role h).admitFrame d role h) := by
  have hothers : s.OtherDescs ((s.countArrival role h).admitFrame d role h) d := fun x hx => by
    rw [State.admitFrame_desc?, if_neg hx, countArrival_desc?]
  have hnew := (s.countArrival role h).admitFrame_desc? d d role h
  rw [if_pos rfl] at hnew
  have howns := State.owns_eq hnew f
  have unowned (hrole : (freshDescriptor role h []).isData = false ∨ f ≠ h.flow)
      (hcount : ((s.countArrival role h).admitFrame d role h).flowCounters f = s.flowCounters f) :
      State.Balances f s ((s.countArrival role h).admitFrame d role h) := by
    refine .of_same hcount (State.present_of_others hothers ?_)
    rw [howns, State.owns_free hd, Bool.and_eq_false_iff, decide_eq_false_iff_not]
    exact hrole.imp_right Ne.symm
  cases role with
  | data snap =>
    by_cases hflow : f = h.flow
    · refine .of_come ?_ (State.present_succ hothers (State.owns_free hd f) (howns.trans ?_))
      · exact (s.countFlow_flowCounters h.flow f .arrived 1).trans (by rw [if_pos hflow, hflow])
      · rw [Bool.and_eq_true, decide_eq_true_iff]
        exact ⟨rfl, hflow.symm⟩
    · exact unowned (.inr hflow) ((s.countFlow_counted h.flow .arrived 1).of_other hflow)
  | forwardedOther | request | enumeration => exact unowned (.inl rfl) rfl

/-- The execution of a request that does not clear the flow. -/
theorem State.Balances.executed {rq : Requester} {kind : Byte} {args : List Byte} (hv : s.Executed rq kind args v)
    (hclear : ∀ selector g, kind = 0x0A → args = [selector, g] → ¬(selector = 1 ∨ selector = 0 ∧ g = f)) :
    State.Balances f s v := by
  have kept (hs : s.SameBut v [.events]) : State.Balances f s v :=
    .of_same (hs.2 .flowCounters (by decide) f) (State.present_of_owners (hs.sameOwners (by decide)) f)
  cases hv with
  | clearAll => exact absurd (.inl rfl) (hclear _ _ rfl rfl)
  | @clearFlow g =>
    have hg : f ≠ g := fun h => hclear _ _ rfl rfl (.inr ⟨rfl, h.symm⟩)
    exact .of_same (by simp [State.flowCounters, hg]) rfl
  | setEvents set => exact kept (s.setEnables_sameBut set)
  | ackNotice e => exact kept (s.acknowledge_sameBut e)
  | _ => exact .of_same rfl rfl

/-! ### The commands -/

theorem State.Handled.balances (hu : s.Handled c u) (h : s.Inv) (hrestart : ¬s.ResetTakesEffect c .restart)
    (hclear : ¬s.ClearsFlow c f) : State.Balances f s u := by
  by_cases hcompletion : ∃ received, c = .transmissionCompletion received
  · obtain ⟨received, rfl⟩ := hcompletion
    obtain ⟨tx, v, htx, hv, rfl⟩ := hu.completed
    have hcompleted : State.Balances f s v :=
      (State.balances_upkeep f).completed hv fun w e q => .of_same rfl rfl
    refine hcompleted.trans ?_
    obtain heq | ⟨p, hp, hdue, heq⟩ := v.resetIfDue_cases received
    · rw [heq]
      exact .of_same rfl rfl
    · have htakes := (hv.dueNow_iff received p.scope htx).mp ⟨p, hp, hdue, rfl⟩
      rw [heq]
      cases hscope : p.scope with
      | restart => exact absurd (hscope ▸ htakes) hrestart
      | flush =>
        have hlimit : (v.flowCounters f).dropped ≤ 4294967295 := by
          have hcounters := State.countersKept_books.upkeep.completed hv
            (fun w e q hw => hw.of_same (fun _ => rfl) rfl) h.counters
          exact hcounters.flows f _ (by simp [State.flowValues])
        refine .of_left (.inl rfl) (State.flush_flowCounters hlimit) ?_
        have hempty : (v.flush received).present f = 0 := by
          simp [State.present]
        exact (show (v.applyReset .flush received).present f = 0 from hempty) ▸ (Nat.zero_add _).symm
  · by_cases hstart : c = .transmissionStart
    · subst hstart
      exact (State.balances_upkeep f).started hu (fun e => .of_same rfl rfl)
        fun d fr => .of_same rfl (State.present_of_owners (fun x => by
          rw [State.startForward_desc?]
          split
          · next hx => cases hd : s.desc? d <;> simp [hx, hd, Descriptor.owner, Descriptor.isData, Descriptor.flow]
          · rfl) f)
    refine (State.balances_upkeep f).handled hu (fun received h => hcompletion ⟨received, h⟩)
      (fun hv hexec => ?_) (fun {h' role d rest} hd => ?_) hstart
      (fun e q n r due _ => ⟨.of_same rfl rfl, .of_same rfl rfl⟩)
    · obtain rfl | hexec := hexec
      · exact .of_same rfl rfl
      · refine .executed hv fun selector g hkind hargs hnames => hclear ?_
        subst hkind hargs
        exact ⟨selector, g, hexec, hnames⟩
    · exact .admission ((h.store.freeExact.2 d).mp (by rw [hd]; exact List.mem_cons_self)) role h'

/-- The frames of the flow are those that were present, where a request's frame has ended. -/
theorem State.RequestEnded.present {payload : List Byte} (h : s.RequestEnded t d fr payload)
    (hd : s.desc? d = some fr) (hrole : fr.role = .request) (f : Byte) : t.present f = s.present f := by
  have hdata : fr.isData = false := by simp [Descriptor.isData, hrole]
  have hown : s.owns f d = false := by simp [State.owns_eq hd, hdata]
  refine State.present_of_others h.others (Eq.trans ?_ hown.symm)
  by_cases hdest : fr.header.destination = 255
  · rw [State.owns_eq (h.broadcast hdest).desc f]
    exact Bool.and_eq_false_iff.mpr (.inl hdata)
  · exact State.owns_free (h.own hdest).1.free f

theorem exec_of_executes {kind sequence : Byte} {args : List Byte} {i : Instr}
    (hc : requestOf c = some (kind, sequence :: args) ∨ c = .frameEnd (requestPayload kind (sequence :: args)))
    (hi : requestOf i = some (kind, sequence :: args)) (hslot : s.RequestInSlot d fr (args.length + 1)) :
    exec c s = exec i s := by
  have hlength : (requestPayload kind (sequence :: args)).length = headerLength fr.header := by
    rw [requestPayload_length, hslot.length]
    rfl
  have hrow {x : Instr} (hx : requestOf x = some (kind, sequence :: args)) :=
    exec_request_eq_frameEnd hx hslot.slot hslot.desc hslot.role hlength
  obtain hc | rfl := hc
  · rw [hrow hc, hrow hi]
  · exact (hrow hi).symm

/-- A clear of the flow leaves its counters at 0 and its frames. -/
theorem State.ClearsFlow.cleared (h : s.ClearsFlow c f) (ht : exec c s = .next t) :
    t.flowCounters f = FlowCounters.zero ∧ t.present f = s.present f := by
  obtain ⟨selector, g, ⟨d, fr, sequence, hc, hslot, htakes, hpassed⟩, hnames⟩ := h
  obtain ⟨k, hclaim, hholder⟩ := hpassed rfl
  rw [exec_of_executes (i := .clearCounters [sequence, selector, g]) hc rfl hslot] at ht
  obtain rfl | ⟨rfl, rfl⟩ := hnames
  · obtain ⟨t', hnext, hcounters, -, hanswered⟩ := exec_clearCounters_all htakes hclaim hholder (f := g) hslot
    obtain rfl : t' = t := Host.Outcome.next.inj (hnext.symm.trans ht)
    exact ⟨hcounters f, hanswered.ended.present hslot.desc hslot.role f⟩
  · obtain ⟨t', hnext, hcounters, hanswered⟩ := exec_clearCounters_flow htakes hclaim hholder (f := g) hslot
    obtain rfl : t' = t := Host.Outcome.next.inj (hnext.symm.trans ht)
    exact ⟨(hcounters g).trans (if_pos rfl), hanswered.ended.present hslot.desc hslot.role g⟩

/-- A RESTART that takes effect leaves no frame and the counters at 0. -/
theorem State.ResetTakesEffect.restarted (h : s.ResetTakesEffect c .restart) (hinv : s.Inv)
    (ht : exec c s = .next t) : t.flowCounters f = FlowCounters.zero ∧ t.present f = 0 := by
  have hcompletion : ∃ received, c = .transmissionCompletion received := by
    obtain ⟨received, -, -, hc, -⟩ := h
    exact ⟨received, hc⟩
  obtain ⟨received, rfl⟩ := hcompletion
  obtain ⟨u, hu, hexec⟩ := h.departed hinv
  obtain rfl := Host.Outcome.next.inj (hexec.symm.trans ht)
  refine ⟨State.flowCounters_of_reset rfl f, ?_⟩
  have hfree := (hu.flushed (scope := .restart) (received := received)).descs
  simp [State.present, hfree]

end Sys2Proof.Machine

section
open Sys2Proof Sys2Proof.Machine

/-- Settles O14: every update keeps the balance of the flow, but for those that the statement names. -/
theorem everyFrameIsAccountedFor : Obligations.EveryFrameIsAccountedFor := by
  unfold Obligations.EveryFrameIsAccountedFor
  refine ⟨fun fr => ⟨rfl, ?isData⟩, fun c s t f p0 hinv haccounted ht => ⟨?emptied, ?cleared, ?balanced⟩⟩
  case isData => cases hrole : fr.role <;> simp [Descriptor.isData, hrole]
  case emptied =>
    rintro (⟨b, rfl⟩ | hrestart)
    · obtain rfl := Host.Outcome.next.inj ((exec_powerOn b s).symm.trans ht)
      simp [State.present]
    · exact hrestart.restarted hinv ht
  case cleared =>
    intro hclears
    obtain ⟨hcounters, hpresent⟩ := hclears.cleared ht
    refine ⟨hcounters, ?_⟩
    rw [State.AccountedWith, hcounters, hpresent]
    rfl
  case balanced =>
    intro hpower hrestart hclears hlimit
    obtain ⟨b, rfl, -⟩ | rfl | ⟨u, hu, rfl⟩ := exec_cases ht
    · exact absurd rfl (hpower b)
    · exact haccounted
    · refine ((hu.balances hinv hrestart hclears).accounted p0 haccounted).resolve_left fun hfull => ?_
      obtain ⟨n, hn, hle⟩ := hfull
      exact absurd (hlimit n hn) (by omega)

end
end

section
/-! The frame store under grants and releases (R21, R22, R26, R27, R33). -/

namespace Sys2Proof.Machine

variable {s t u : State} {d : DescId} {fr : Descriptor}

/-! ### The conservation of the cells (R26) -/

/-- Two listings that differ at one descriptor hold the same entries but for that descriptor's. -/
theorem count_flatMap_update {l : List DescId} (hl : l.Nodup) {d : DescId} {f g : DescId → List CellId}
    (hfg : ∀ x, x ≠ d → f x = g x) (hd : d ∈ l) (k : CellId) :
    (l.flatMap f).count k + (g d).count k = (l.flatMap g).count k + (f d).count k := by
  induction l with
  | nil => cases hd
  | cons x l ih =>
    obtain ⟨hx, hl⟩ := List.nodup_cons.mp hl
    simp only [List.flatMap_cons, List.count_append]
    obtain rfl | hmem := List.mem_cons.mp hd
    · have hrest : l.flatMap f = l.flatMap g := List.flatMap_congr fun y hy =>
        hfg y fun h => hx (h ▸ hy)
      rw [hrest]
      omega
    · have hne : x ≠ d := fun h => hx (h ▸ hmem)
      rw [hfg x hne]
      have := ih hl hmem
      omega

theorem State.count_heldCells {c : Option Descriptor} (h : ∀ x, x ≠ d → t.desc? x = s.desc? x) (hc : t.desc? d = c)
    (k : CellId) : t.heldCells.count k + ((s.desc? d).map Descriptor.cells |>.getD []).count k =
      s.heldCells.count k + (c.map Descriptor.cells |>.getD []).count k := by
  subst hc
  exact count_flatMap_update (f := fun d => ((t.desc? d).map Descriptor.cells).getD [])
    (g := fun d => ((s.desc? d).map Descriptor.cells).getD []) (List.nodup_finRange 40)
    (fun x hx => by rw [h x hx]) (List.mem_finRange d) k

theorem FrameStore.holdOutAgrees_of_next {st : FrameStore} {b : Bool}
    (h : st.holdOut = nextHoldOut b st.freeCells.length st.freeDescs.length) : st.HoldOutAgrees := by
  unfold FrameStore.HoldOutAgrees
  rw [h]
  cases b with
  | true =>
    rw [nextHoldOut_true]
    by_cases h : 24 ≤ st.freeCells.length ∧ 8 ≤ st.freeDescs.length
    · simp [h]; omega
    · simp [h]
  | false =>
    rw [nextHoldOut_false]
    by_cases h : st.freeCells.length < 16 ∨ st.freeDescs.length < 4
    · simp [h]; omega
    · simp [h]; omega

/-! ### Releases and grants -/

theorem State.StoreInv.freed (h : s.StoreInv) (hd : s.desc? d = some fr) (hfreed : s.Freed t d fr)
    (hothers : s.OtherDescs t d) : t.StoreInv := by
  have hdesc (x : DescId) : t.desc? x = if x = d then none else s.desc? x := by
    split
    · next hx => rw [hx, hfreed.free]
    · next hx => exact hothers x hx
  have hnot : d ∉ s.store.freeDescs := fun hmem => by
    simp [(h.freeExact.2 d).mp hmem] at hd
  refine ⟨?conserved, ⟨?nodup, fun x => ?exact⟩, fun x fx hx => ?fit, FrameStore.holdOutAgrees_of_next hfreed.holdOut⟩
  case conserved =>
    refine List.Perm.trans ?_ h.conserved
    rw [List.perm_iff_count]
    intro k
    have := State.count_heldCells (s := s) (t := t) (d := d) (c := none) (fun x hx => by rw [hdesc, if_neg hx])
      (by rw [hdesc, if_pos rfl]) k
    simp only [hd, Option.map_some, Option.getD_some, Option.map_none, Option.getD_none, List.count_nil] at this
    simp only [hfreed.cells, List.count_append]
    omega
  case nodup =>
    rw [hfreed.descs]
    exact h.freeExact.1.append (List.nodup_singleton d) (by simpa using hnot)
  case exact =>
    rw [hfreed.descs, hdesc, List.mem_append, List.mem_singleton, h.freeExact.2]
    by_cases hx : x = d
    · simp [hx]
    · simp [hx]
  case fit =>
    rw [hdesc] at hx
    split at hx
    · cases hx
    · exact h.cellsFit x fx hx

theorem State.StoreInv.granted {role : Role} {h : HeaderBytes} {rest : List DescId} (hs : s.StoreInv)
    (hd : s.store.freeDescs = d :: rest) (hcells : cellsNeeded (storedLengthOf role h) ≤ s.store.freeCells.length)
    (ht : t.store = s.store.granted d role h) : t.StoreInv := by
  let n := cellsNeeded (storedLengthOf role h)
  have hdesc (x : DescId) : t.desc? x =
      if x = d then some (freshDescriptor role h (s.store.freeCells.take n)) else s.desc? x := by
    simp only [State.desc?, ht, FrameStore.granted, FrameStore.evaluated, Fin.getElem_fin]
    rw [Vector.getElem_set]
    simp [Fin.ext_iff, eq_comm, n]
  have hfreeCells : t.store.freeCells = s.store.freeCells.drop n := by rw [ht]; rfl
  have hfreeDescs : t.store.freeDescs = rest := by rw [ht, FrameStore.granted, FrameStore.evaluated, hd]; rfl
  have hfree : s.desc? d = none := (hs.freeExact.2 d).mp (by simp [hd])
  obtain ⟨hnot, hrest⟩ := List.nodup_cons.mp (hd ▸ hs.freeExact.1)
  refine ⟨?conserved, ⟨?nodup, fun x => ?exact⟩, fun x fx hx => ?fit, FrameStore.holdOutAgrees_of_next (by rw [ht]; rfl)⟩
  case conserved =>
    refine List.Perm.trans ?_ hs.conserved
    rw [List.perm_iff_count]
    intro k
    have := State.count_heldCells (s := s) (t := t) (d := d) (fun x hx => by rw [hdesc, if_neg hx])
      ((hdesc d).trans (if_pos rfl)) k
    simp only [hfree, Option.map_some, Option.getD_some, Option.map_none, Option.getD_none, List.count_nil,
      freshDescriptor] at this
    have hsplit := congrArg (List.count k) (List.take_append_drop n s.store.freeCells)
    simp only [List.count_append] at hsplit
    simp only [hfreeCells, List.count_append]
    omega
  case nodup => rwa [hfreeDescs]
  case exact =>
    rw [hfreeDescs, hdesc]
    by_cases hx : x = d
    · simpa [hx] using hnot
    · rw [if_neg hx, ← hs.freeExact.2, hd, List.mem_cons]
      simp [hx]
  case fit =>
    rw [hdesc] at hx
    split at hx
    · obtain rfl := Option.some.inj hx
      exact ⟨storedLengthOf_le role h, by simpa [freshDescriptor, n] using hcells⟩
    · exact hs.cellsFit x fx hx

/-- What the store lists of a frame. -/
def Descriptor.extent (fr : Descriptor) : List CellId × Nat := (fr.cells, fr.storedLength)

/-- The store is as consistent as it was where its lists and what it lists of each frame are the same. -/
theorem State.StoreInv.of_same (h : s.StoreInv) (hcells : t.store.freeCells = s.store.freeCells)
    (hdescs : t.store.freeDescs = s.store.freeDescs) (hout : t.store.holdOut = s.store.holdOut)
    (hextent : ∀ d, (t.desc? d).map Descriptor.extent = (s.desc? d).map Descriptor.extent) : t.StoreInv := by
  have hheld : t.heldCells = s.heldCells := List.flatMap_congr fun d _ => by
    have := hextent d
    cases ht : t.desc? d <;> cases hs : s.desc? d <;> simp_all [Descriptor.extent]
  refine ⟨?_, ⟨by rw [hdescs]; exact h.freeExact.1, fun d => ?_⟩, fun d fr' hd => ?_, ?_⟩
  · rw [State.CellsConserved, hcells, hheld]
    exact h.conserved
  · rw [hdescs, h.freeExact.2, ← Option.map_eq_none_iff (f := Descriptor.extent), ← hextent, Option.map_eq_none_iff]
  · have := hextent d
    rw [hd, Option.map_some, eq_comm, Option.map_eq_some_iff] at this
    obtain ⟨fr, hfr, hsame⟩ := this
    have hfit := h.cellsFit d fr hfr
    simp only [Descriptor.extent, Prod.mk.injEq] at hsame
    exact ⟨hsame.2 ▸ hfit.1, by rw [← hsame.1, ← hsame.2]; exact hfit.2⟩
  · rw [FrameStore.HoldOutAgrees, hcells, hdescs, hout]
    exact h.holdOut

end Sys2Proof.Machine
end

section
/-! The arrangement of the frames: every frame in the location of its place, the queues and chains in order,
and the order on the line. It is stated for the moments inside a command as well, when a frame is on its way
from one location to another or frames have left their chain and still wait. -/

namespace Sys2Proof.Machine

variable {s t u : State} {d x : DescId} {fr : Descriptor}

/-! ### The moments of a command -/

/-- A moment of a command: the frame in the receive slot; the frame that is on its way; the frames that have
left their chain and still wait; the flow whose chain may begin with a HELD frame; and whether the order on
the line (R95) is claimed. -/
structure Stage where
  slot : Option (DescId × Descriptor)
  moving : Option DescId
  loose : List DescId
  opened : Option Byte
  ordered : Bool

/-- The descriptor stands in the location of a place; HELD has none but the chain. -/
def State.Stands (s : State) (slot : Option (DescId × Descriptor)) (d : DescId) : Place → Prop
  | .receiving => slot.map Prod.fst = some d
  | .queued => d ∈ s.locator.queue
  | .locating => ∃ e, s.engineDesc e = some d
  | .held => False
  | .forward => d ∈ s.egress.forwardQueue
  | .sending => s.sending = some (.forward d)

/-- A frame of the flow that was classified ORDERED and waits (R85). -/
def State.Chains (s : State) (d : DescId) (f : Byte) : Prop :=
  ∃ fr, s.desc? d = some fr ∧ fr.isOrdered = true ∧ fr.waits = true ∧ fr.flow = f

/-- What a descriptor says of itself agrees (R24, R85, R92). -/
structure Descriptor.Fits (fr : Descriptor) (next : Nat) : Prop where
  stampless : fr.stamp = none ↔ fr.place = .receiving
  stamp : ∀ n, fr.stamp = some n → n < next
  deadline : fr.deadline.isSome = true ↔ fr.waits = true
  held : fr.place = .held → fr.isOrdered = true
  data : fr.waits = true → fr.isData = true
  syndromes : fr.withLocator → fr.syndromes.isSome = true

/-- A run is made up of the syndromes, strength and length of the frame (R72). -/
structure Run.Serves (r : Run) (fr : Descriptor) : Prop where
  syndromes : fr.syndromes = some r.syndromes
  strength : r.strength = fr.entry.strength
  length : r.length = headerLength fr.header

/-! ### The lists in order -/

/-- What the order of a list goes by: a frame's stamp, and its flow where it is ORDERED. -/
def State.keyOf (s : State) (d : DescId) : Option (Option Nat × Bool × Byte) :=
  (s.desc? d).map fun fr => (fr.stamp, fr.isOrdered, fr.flow)

/-- The ORDERED frames of a flow in the order in which they will leave. -/
def State.lineOf (s : State) (f : Byte) (loose : List DescId) : List DescId :=
  s.orderedOf f (s.sendingDesc ++ s.egress.forwardQueue) ++ (s.orderedOf f loose ++ s.chain f)

/-- The lists hold no frame twice, and the chains, the correction queue and, where it is claimed, the line
are in the order of the stamps. -/
structure State.Lines (s : State) (loose : List DescId) (ordered : Bool) : Prop where
  queueNodup : s.locator.queue.Nodup
  engines : ∀ d, ¬(s.engineDesc .engine0 = some d ∧ s.engineDesc .engine1 = some d)
  forwardNodup : s.egress.forwardQueue.Nodup
  length : ∀ f, (s.chain f).length ≤ 16
  chainInOrder : ∀ f, (s.chain f).Pairwise fun a b => s.stampOf a < s.stampOf b
  queueInOrder : s.locator.queue.Pairwise fun a b => s.stampOf a < s.stampOf b
  line : ordered = true → ∀ f, (s.lineOf f loose).Pairwise fun a b => s.stampOf a < s.stampOf b

/-- The descriptor stands in one of the lists. -/
def State.Listed (s : State) (loose : List DescId) (d : DescId) : Prop :=
  d ∈ s.locator.queue ∨ d ∈ s.sendingDesc ∨ d ∈ s.egress.forwardQueue ∨ d ∈ loose ∨ ∃ f, d ∈ s.chain f

theorem State.stampOf_of_key (h : t.keyOf x = s.keyOf x) : t.stampOf x = s.stampOf x := by
  unfold State.keyOf at h
  unfold State.stampOf
  cases ht : t.desc? x <;> cases hs : s.desc? x <;> simp_all

/-- The frame of the descriptor is ORDERED and of the flow. -/
def State.inLineOf (s : State) (f : Byte) (d : DescId) : Bool :=
  match s.desc? d with
  | none => false
  | some fr => fr.isOrdered && decide (fr.flow = f)

theorem State.orderedOf_eq (s : State) (f : Byte) (l : List DescId) : s.orderedOf f l = l.filter (s.inLineOf f) :=
  rfl

theorem State.inLineOf_of_key (h : t.keyOf x = s.keyOf x) (f : Byte) : t.inLineOf f x = s.inLineOf f x := by
  unfold State.keyOf at h
  unfold State.inLineOf
  cases ht : t.desc? x <;> cases hs : s.desc? x <;> simp_all

theorem State.orderedOf_of_keys {l : List DescId} (h : ∀ x ∈ l, t.keyOf x = s.keyOf x) (f : Byte) :
    t.orderedOf f l = s.orderedOf f l :=
  List.filter_congr fun x hx => State.inLineOf_of_key (h x hx) f

theorem pairwise_stampOf_of_keys {l : List DescId} (h : ∀ x ∈ l, t.keyOf x = s.keyOf x)
    (hs : l.Pairwise fun a b => s.stampOf a < s.stampOf b) : l.Pairwise fun a b => t.stampOf a < t.stampOf b :=
  hs.imp_of_mem fun ha hb hlt => by
    rwa [State.stampOf_of_key (h _ ha), State.stampOf_of_key (h _ hb)]

theorem State.mem_orderedOf {f : Byte} {l : List DescId} (h : x ∈ s.orderedOf f l) : x ∈ l := (List.mem_filter.mp h).1

theorem State.listed_of_mem_lineOf {f : Byte} {loose : List DescId} (h : x ∈ s.lineOf f loose) :
    s.Listed loose x := by
  simp only [State.lineOf, List.mem_append] at h
  obtain h | h | h := h
  · obtain h | h := List.mem_append.mp (State.mem_orderedOf h)
    · exact .inr (.inl h)
    · exact .inr (.inr (.inl h))
  · exact .inr (.inr (.inr (.inl (State.mem_orderedOf h))))
  · exact .inr (.inr (.inr (.inr ⟨f, h⟩)))

/-- Lists that only lose frames stay in order. -/
theorem State.Lines.thin {loose loose' : List DescId} {ordered : Bool} (h : s.Lines loose ordered)
    (hkey : ∀ x, t.Listed loose' x → t.keyOf x = s.keyOf x) (hqueue : t.locator.queue.Sublist s.locator.queue)
    (hengine : ∀ e d, t.engineDesc e = some d → s.engineDesc e = some d)
    (hforward : t.egress.forwardQueue.Sublist s.egress.forwardQueue)
    (hsending : t.sendingDesc.Sublist s.sendingDesc) (hchain : ∀ f, (t.chain f).Sublist (s.chain f))
    (hloose : loose'.Sublist loose) : t.Lines loose' ordered where
  queueNodup := h.queueNodup.sublist hqueue
  engines d hd := h.engines d ⟨hengine _ _ hd.1, hengine _ _ hd.2⟩
  forwardNodup := h.forwardNodup.sublist hforward
  length f := (hchain f).length_le.trans (h.length f)
  chainInOrder f := pairwise_stampOf_of_keys (fun x hx => hkey x (.inr (.inr (.inr (.inr ⟨f, hx⟩)))))
    ((h.chainInOrder f).sublist (hchain f))
  queueInOrder := pairwise_stampOf_of_keys (fun x hx => hkey x (.inl hx)) (h.queueInOrder.sublist hqueue)
  line ho f := by
    refine pairwise_stampOf_of_keys (fun x hx => hkey x (State.listed_of_mem_lineOf hx)) ((h.line ho f).sublist ?_)
    unfold State.lineOf
    rw [State.orderedOf_of_keys (s := s) (l := t.sendingDesc ++ t.egress.forwardQueue) (fun x hx => hkey x (by
        obtain hx | hx := List.mem_append.mp hx
        · exact .inr (.inl hx)
        · exact .inr (.inr (.inl hx)))) f,
      State.orderedOf_of_keys (s := s) (l := loose') (fun x hx => hkey x (.inr (.inr (.inr (.inl hx))))) f]
    exact ((hsending.append hforward).filter _).append ((hloose.filter _).append (hchain f))

/-- A frame that no list holds is appended to the forward queue: behind all that are there, and ahead of all
that still wait. -/
theorem State.Lines.append_forward {loose : List DescId} {ordered : Bool} (h : s.Lines loose ordered)
    (hkey : ∀ x, t.keyOf x = s.keyOf x) (hqueue : t.locator.queue = s.locator.queue)
    (hengine : ∀ e, t.engineDesc e = s.engineDesc e)
    (hforward : t.egress.forwardQueue = s.egress.forwardQueue ++ [d]) (hsending : t.sendingDesc = s.sendingDesc)
    (hchain : ∀ f, t.chain f = s.chain f) (hnew : d ∉ s.egress.forwardQueue)
    (hrank : ordered = true → ∀ f, s.inLineOf f d = true →
      (∀ x ∈ s.orderedOf f (s.sendingDesc ++ s.egress.forwardQueue), s.stampOf x < s.stampOf d) ∧
      ∀ x ∈ s.orderedOf f loose ++ s.chain f, s.stampOf d < s.stampOf x) : t.Lines loose ordered where
  queueNodup := hqueue ▸ h.queueNodup
  engines x := by rw [hengine, hengine]; exact h.engines x
  forwardNodup := by
    rw [hforward]
    exact h.forwardNodup.append (List.nodup_singleton d) (by simpa using hnew)
  length f := hchain f ▸ h.length f
  chainInOrder f := pairwise_stampOf_of_keys (fun x _ => hkey x) (hchain f ▸ h.chainInOrder f)
  queueInOrder := pairwise_stampOf_of_keys (fun x _ => hkey x) (hqueue ▸ h.queueInOrder)
  line ho f := by
    refine pairwise_stampOf_of_keys (fun x _ => hkey x) ?_
    have hline := h.line ho f
    unfold State.lineOf at hline ⊢
    rw [State.orderedOf_of_keys (s := s) (fun x _ => hkey x), State.orderedOf_of_keys (s := s) (fun x _ => hkey x),
      hforward, hsending, hchain, ← List.append_assoc s.sendingDesc, s.orderedOf_eq f (_ ++ [d]), List.filter_append,
      ← s.orderedOf_eq]
    by_cases hd : s.inLineOf f d = true
    · obtain ⟨hbehind, hahead⟩ := hrank ho f hd
      obtain ⟨hfirst, hrest, hacross⟩ := List.pairwise_append.mp hline
      rw [List.filter_cons_of_pos hd, List.filter_nil, List.append_assoc]
      refine List.pairwise_append.mpr ⟨hfirst, List.pairwise_cons.mpr ⟨hahead, hrest⟩, fun a ha b hb => ?_⟩
      obtain rfl | hb := List.mem_cons.mp hb
      · exact hbehind a ha
      · exact hacross a ha b hb
    · rw [List.filter_cons_of_neg hd, List.filter_nil, List.append_nil]
      exact hline

/-- The frame that arrived last is appended to its chain. -/
theorem State.Lines.append_chain {ordered : Bool} {f : Byte} (h : s.Lines [] ordered)
    (hkey : ∀ x, t.keyOf x = s.keyOf x) (hqueue : t.locator.queue = s.locator.queue)
    (hengine : ∀ e, t.engineDesc e = s.engineDesc e) (hforward : t.egress.forwardQueue = s.egress.forwardQueue)
    (hsending : t.sendingDesc = s.sendingDesc)
    (hchain : ∀ g, t.chain g = if g = f then s.chain f ++ [d] else s.chain g)
    (hlength : (s.chain f).length + 1 ≤ 16) (hlast : ∀ x, x ≠ d → s.Listed [] x → s.stampOf x < s.stampOf d)
    (hchained : d ∉ s.chain f) (hnew : d ∉ s.sendingDesc ++ s.egress.forwardQueue) : t.Lines [] ordered where
  queueNodup := hqueue ▸ h.queueNodup
  engines x := by rw [hengine, hengine]; exact h.engines x
  forwardNodup := hforward ▸ h.forwardNodup
  length g := by
    rw [hchain]
    split
    · simpa using hlength
    · exact h.length g
  chainInOrder g := by
    refine pairwise_stampOf_of_keys (fun x _ => hkey x) ?_
    rw [hchain]
    split
    · refine List.pairwise_append.mpr ⟨h.chainInOrder f, List.pairwise_singleton _ d, fun a ha b hb => ?_⟩
      obtain rfl := List.mem_singleton.mp hb
      exact hlast a (fun hab => hchained (hab ▸ ha)) (.inr (.inr (.inr (.inr ⟨f, ha⟩))))
    · exact h.chainInOrder g
  queueInOrder := pairwise_stampOf_of_keys (fun x _ => hkey x) (hqueue ▸ h.queueInOrder)
  line ho g := by
    refine pairwise_stampOf_of_keys (fun x _ => hkey x) ?_
    have hline := h.line ho g
    unfold State.lineOf at hline ⊢
    rw [State.orderedOf_of_keys (s := s) (fun x _ => hkey x), State.orderedOf_of_keys (s := s) (fun x _ => hkey x),
      hforward, hsending, hchain]
    split
    · next hg =>
      subst hg
      rw [← List.append_assoc, ← List.append_assoc, List.append_assoc (s.orderedOf _ _)]
      refine List.pairwise_append.mpr ⟨hline, List.pairwise_singleton _ d, fun a ha b hb => ?_⟩
      obtain rfl := List.mem_singleton.mp hb
      refine hlast a ?_ (State.listed_of_mem_lineOf (f := g) (by simpa [State.lineOf] using ha))
      rintro rfl
      simp only [List.mem_append] at ha
      obtain ha | ha | ha := ha
      · exact hnew (State.mem_orderedOf ha)
      · exact absurd (State.mem_orderedOf ha) List.not_mem_nil
      · exact hchained ha
    · exact hline

/-- The frame that arrived last is appended to the correction queue. -/
theorem State.Lines.append_queue {loose : List DescId} {ordered : Bool} (h : s.Lines loose ordered)
    (hkey : ∀ x, t.keyOf x = s.keyOf x) (hqueue : t.locator.queue = s.locator.queue ++ [d])
    (hengine : ∀ e, t.engineDesc e = s.engineDesc e) (hforward : t.egress.forwardQueue = s.egress.forwardQueue)
    (hsending : t.sendingDesc = s.sendingDesc) (hchain : ∀ f, t.chain f = s.chain f)
    (hnew : d ∉ s.locator.queue) (hlast : ∀ x, x ≠ d → s.Listed loose x → s.stampOf x < s.stampOf d) :
    t.Lines loose ordered where
  queueNodup := by
    rw [hqueue]
    exact h.queueNodup.append (List.nodup_singleton d) (by simpa using hnew)
  engines x := by rw [hengine, hengine]; exact h.engines x
  forwardNodup := hforward ▸ h.forwardNodup
  length f := hchain f ▸ h.length f
  chainInOrder f := pairwise_stampOf_of_keys (fun x _ => hkey x) (hchain f ▸ h.chainInOrder f)
  queueInOrder := by
    refine pairwise_stampOf_of_keys (fun x _ => hkey x) ?_
    rw [hqueue]
    refine List.pairwise_append.mpr ⟨h.queueInOrder, List.pairwise_singleton _ d, fun a ha b hb => ?_⟩
    obtain rfl := List.mem_singleton.mp hb
    exact hlast a (fun hab => hnew (hab ▸ ha)) (.inl ha)
  line ho f := by
    refine pairwise_stampOf_of_keys (fun x _ => hkey x) ?_
    have hline := h.line ho f
    unfold State.lineOf at hline ⊢
    rwa [State.orderedOf_of_keys (s := s) (fun x _ => hkey x), State.orderedOf_of_keys (s := s) (fun x _ => hkey x),
      hforward, hsending, hchain]

/-! ### The arrangement -/

/-- Every frame but the one on its way stands in the location of its place, and in its chain while it waits
there (R25, R69, R71, R85). -/
structure State.Arranged (s : State) (g : Stage) : Prop where
  store : s.StoreInv
  frames : s.FrameInv
  slot : ∀ d fr, g.slot = some (d, fr) → s.desc? d = some fr
  fits : ∀ d fr, g.moving ≠ some d → s.desc? d = some fr → fr.Fits s.order.nextStamp
  located : ∀ d p, g.moving ≠ some d → p ≠ .held → (s.Stands g.slot d p ↔ s.InPlace d p)
  runs : ∀ e r fr, g.moving ≠ some r.desc → s.engineRun e = some r → s.desc? r.desc = some fr → r.Serves fr
  chained : ∀ f d, g.moving ≠ some d → (d ∈ s.chain f ↔ d ∉ g.loose ∧ s.Chains d f)
  loose : ∀ d ∈ g.loose, ∃ f, s.Chains d f
  looseNodup : g.loose.Nodup
  head : ∀ f d, g.opened ≠ some f → (s.chain f).head? = some d → s.InPlace d .queued ∨ s.InPlace d .locating
  lines : s.Lines g.loose g.ordered

/-- What the arrangement asks of one descriptor. -/
structure State.Settled (s : State) (slot : Option (DescId × Descriptor)) (d : DescId) : Prop where
  fits : ∀ fr, s.desc? d = some fr → fr.Fits s.order.nextStamp
  located : ∀ p, p ≠ .held → (s.Stands slot d p ↔ s.InPlace d p)
  runs : ∀ e r fr, r.desc = d → s.engineRun e = some r → s.desc? d = some fr → r.Serves fr
  chained : ∀ f, d ∈ s.chain f ↔ s.Chains d f

/-- The second state is the first but for one descriptor: its entry and where it stands. -/
structure State.SameOff (s t : State) (g g' : Stage) (d : DescId) : Prop where
  desc : s.OtherDescs t d
  stands : ∀ x, x ≠ d → ∀ p, t.Stands g'.slot x p ↔ s.Stands g.slot x p
  runs : ∀ e r, r.desc ≠ d → t.engineRun e = some r → s.engineRun e = some r
  chain : ∀ f x, x ≠ d → (x ∈ t.chain f ↔ x ∈ s.chain f)
  loose : ∀ x, x ≠ d → (x ∈ g'.loose ↔ x ∈ g.loose)
  next : s.order.nextStamp ≤ t.order.nextStamp

theorem Descriptor.Fits.mono {n m : Nat} (h : fr.Fits n) (hnm : n ≤ m) : fr.Fits m :=
  { h with stamp := fun k hk => (h.stamp k hk).trans_le hnm }

theorem State.InPlace.of_desc {p : Place} (h : t.desc? x = s.desc? x) : t.InPlace x p ↔ s.InPlace x p := by
  simp only [State.InPlace, h]

theorem State.Chains.of_desc {f : Byte} (h : t.desc? x = s.desc? x) : t.Chains x f ↔ s.Chains x f := by
  simp only [State.Chains, h]

/-- One descriptor goes elsewhere, or is taken on its way, and the others stay. -/
theorem State.Arranged.relocate {g g' : Stage} (h : s.Arranged g) (d : DescId)
    (hmoving : ∀ x, x ≠ d → g.moving ≠ some x ∧ g'.moving ≠ some x) (hoff : s.SameOff t g g' d)
    (hslot : ∀ x fr, g'.slot = some (x, fr) → t.desc? x = some fr) (hd : d ∉ g'.loose) (hnodup : g'.loose.Nodup)
    (hstore : t.StoreInv) (hframes : t.FrameInv)
    (hhead : ∀ f x, g'.opened ≠ some f → (t.chain f).head? = some x → t.InPlace x .queued ∨ t.InPlace x .locating)
    (hlines : t.Lines g'.loose g'.ordered) (hown : g'.moving ≠ some d → t.Settled g'.slot d) : t.Arranged g' where
  store := hstore
  frames := hframes
  slot := hslot
  fits x fx hx hfx := by
    by_cases hxd : x = d
    · subst hxd
      exact (hown hx).fits fx hfx
    · exact (h.fits x fx (hmoving x hxd).1 ((hoff.desc x hxd).symm.trans hfx)).mono hoff.next
  located x p hx hp := by
    by_cases hxd : x = d
    · subst hxd
      exact (hown hx).located p hp
    · rw [hoff.stands x hxd, h.located x p (hmoving x hxd).1 hp, State.InPlace.of_desc (hoff.desc x hxd)]
  runs e r fr hr he hfr := by
    by_cases hxd : r.desc = d
    · exact (hown (hxd ▸ hr)).runs e r fr hxd he (hxd ▸ hfr)
    · exact h.runs e r fr (hmoving _ hxd).1 (hoff.runs e r hxd he) ((hoff.desc _ hxd).symm.trans hfr)
  chained f x hx := by
    by_cases hxd : x = d
    · subst hxd
      rw [(hown hx).chained f]
      simp [hd]
    · rw [hoff.chain f x hxd, h.chained f x (hmoving x hxd).1, hoff.loose x hxd,
        State.Chains.of_desc (hoff.desc x hxd)]
  loose x hx := by
    have hxd : x ≠ d := fun heq => hd (heq ▸ hx)
    obtain ⟨f, hf⟩ := h.loose x ((hoff.loose x hxd).mp hx)
    exact ⟨f, (State.Chains.of_desc (hoff.desc x hxd)).mpr hf⟩
  looseNodup := hnodup
  head := hhead
  lines := hlines

/-! ### Commands that move no frame -/

/-- The locations, the chains and the next stamp are the same in two states. -/
structure State.SameLists (s t : State) : Prop where
  queue : t.locator.queue = s.locator.queue
  engines : ∀ e, t.engineRun e = s.engineRun e
  forward : t.egress.forwardQueue = s.egress.forwardQueue
  sendingDesc : t.sendingDesc = s.sendingDesc
  chain : ∀ f, t.chain f = s.chain f
  next : s.order.nextStamp ≤ t.order.nextStamp

theorem State.SameLists.engineDesc (h : s.SameLists t) (e : EngineId) : t.engineDesc e = s.engineDesc e := by
  rw [State.engineDesc, h.engines, State.engineDesc]

theorem State.sendingDesc_of_transmitter (h : t.egress.transmitter = s.egress.transmitter) :
    t.sendingDesc = s.sendingDesc := by
  rw [State.sendingDesc, State.sending, h, State.sendingDesc, State.sending]

theorem State.SameLists.stands (h : s.SameLists t) (slot : Option (DescId × Descriptor)) (x : DescId) (p : Place) :
    t.Stands slot x p ↔ s.Stands slot x p := by
  cases p <;> simp only [State.Stands, h.queue, h.engineDesc, h.forward, ← State.mem_sendingDesc, h.sendingDesc]

theorem State.SameLists.sameOff {g g' : Stage} (h : s.SameLists t) (hslot : g'.slot = g.slot)
    (hloose : g'.loose = g.loose) (hdesc : s.OtherDescs t d) : s.SameOff t g g' d where
  desc := hdesc
  stands x _ p := by rw [hslot]; exact h.stands g.slot x p
  runs e r _ he := (h.engines e).symm.trans he
  chain f x _ := by rw [h.chain f]
  loose x _ := by rw [hloose]
  next := h.next

theorem State.SameLists.listed (h : s.SameLists t) (loose : List DescId) (x : DescId) :
    t.Listed loose x ↔ s.Listed loose x := by
  simp only [State.Listed, h.queue, h.sendingDesc, h.forward, h.chain]

theorem State.Lines.of_sameLists {loose : List DescId} {ordered : Bool} (h : s.Lines loose ordered)
    (hl : s.SameLists t) (hkey : ∀ x, s.Listed loose x → t.keyOf x = s.keyOf x) : t.Lines loose ordered :=
  h.thin (fun x hx => hkey x ((hl.listed loose x).mp hx)) (hl.queue ▸ List.Sublist.refl _)
    (fun e _ hd => (hl.engineDesc e).symm.trans hd) (hl.forward ▸ List.Sublist.refl _)
    (hl.sendingDesc ▸ List.Sublist.refl _) (fun f => hl.chain f ▸ List.Sublist.refl _) (List.Sublist.refl _)

theorem State.keyOf_of_desc (h : t.desc? x = s.desc? x) : t.keyOf x = s.keyOf x := by
  rw [State.keyOf, h, State.keyOf]

theorem State.FrameInv.of_framesKept (h : s.FrameInv) (hkept : s.FramesKept t) : t.FrameInv := by
  have stored {fr fr' : Descriptor} (hsame : fr.SameFrame fr') (h : fr.storedLength = storedLengthOf fr.role fr.header) :
      fr'.storedLength = storedLengthOf fr'.role fr'.header := by
    rw [hsame.storedLength, h, hsame.role]
    obtain hh | hh := hsame.header
    · rw [hh]
    · rw [hh]
      rfl
  refine ⟨fun d fr' hd => ?_, fun d fr' hd => ?_⟩
  · obtain ⟨fr, hfr, hsame⟩ := hkept d fr' hd
    exact stored hsame (h.length d fr hfr)
  · obtain ⟨fr, hfr, hsame⟩ := hkept d fr' hd
    rw [hsame.entry]
    exact h.kept d fr hfr

/-- The pieces in which the arrangement of the frames lies. -/
def framePlaces : List Piece :=
  [.freeLists, .descriptors, .holdOut, .locator, .chains, .nextStamp, .forwardQueue, .transmitter]

theorem State.SameBut.sameLists {l : List Piece} (h : s.SameBut t l) (hl : ∀ p ∈ framePlaces, p ∉ l) :
    s.SameLists t where
  queue := congrArg Locator.queue (h.2 .locator (hl _ (by decide)))
  engines := h.engineRun_eq (hl _ (by decide))
  forward := h.2 .forwardQueue (hl _ (by decide))
  sendingDesc := State.sendingDesc_of_transmitter (h.2 .transmitter (hl _ (by decide)))
  chain := h.2 .chains (hl _ (by decide))
  next := (h.2 .nextStamp (hl _ (by decide))).ge

theorem State.StoreInv.of_sameBut {l : List Piece} (hs : s.StoreInv) (h : s.SameBut t l)
    (hl : ∀ p ∈ framePlaces, p ∉ l) : t.StoreInv := by
  obtain ⟨hcells, hdescs⟩ := h.2 .freeLists (hl _ (by decide))
  exact hs.of_same hcells hdescs (h.2 .holdOut (hl _ (by decide))) fun d => by
    rw [h.2 .descriptors (hl _ (by decide)) d]

/-- The arrangement reads the frames, their locations and the store's lists, and nothing else. -/
theorem State.Arranged.same {g : Stage} (h : s.Arranged g) (hl : s.SameLists t) (hdesc : ∀ x, t.desc? x = s.desc? x)
    (hstore : t.StoreInv) : t.Arranged g where
  store := hstore
  frames := h.frames.of_framesKept (.of_desc? hdesc)
  slot d fr hd := (hdesc d).trans (h.slot d fr hd)
  fits d fr hd hfr := (h.fits d fr hd ((hdesc d).symm.trans hfr)).mono hl.next
  located d p hd hp := by rw [hl.stands, h.located d p hd hp, State.InPlace.of_desc (hdesc d)]
  runs e r fr hr he hfr := h.runs e r fr hr ((hl.engines e).symm.trans he) ((hdesc _).symm.trans hfr)
  chained f d hd := by rw [hl.chain, h.chained f d hd, State.Chains.of_desc (hdesc d)]
  loose d hd := (h.loose d hd).imp fun f hf => (State.Chains.of_desc (hdesc d)).mpr hf
  looseNodup := h.looseNodup
  head f d hf hd := by
    rw [hl.chain] at hd
    simpa only [State.InPlace.of_desc (hdesc d)] using h.head f d hf hd
  lines := h.lines.of_sameLists hl fun x _ => State.keyOf_of_desc (hdesc x)

theorem State.Arranged.sameBut {g : Stage} {l : List Piece} (h : s.Arranged g) (hs : s.SameBut t l)
    (hl : ∀ p ∈ framePlaces, p ∉ l) : t.Arranged g :=
  h.same (hs.sameLists hl) (hs.2 .descriptors (hl _ (by decide))) (h.store.of_sameBut hs hl)

/-! ### A frame on its way -/

/-- The frame of the descriptor is on its way: it stands in no location and in no chain. -/
structure State.Carries (s : State) (g : Stage) (d : DescId) (fr : Descriptor) : Prop where
  arranged : s.Arranged g
  moving : g.moving = some d
  desc : s.desc? d = some fr
  notLoose : d ∉ g.loose
  off : ∀ p, ¬s.Stands g.slot d p
  unchained : ∀ f, d ∉ s.chain f

theorem State.Carries.ne_of_moving {g : Stage} (h : s.Carries g d fr) (hx : x ≠ d) : g.moving ≠ some x := by
  rw [h.moving]
  exact fun heq => hx (Option.some.inj heq).symm

theorem State.Carries.not_listed {g : Stage} (h : s.Carries g d fr) (hx : s.Listed g.loose x) : x ≠ d := by
  rintro rfl
  obtain hx | hx | hx | hx | ⟨f, hx⟩ := hx
  · exact h.off .queued hx
  · exact h.off .sending ((s.mem_sendingDesc x).mp hx)
  · exact h.off .forward hx
  · exact h.notLoose hx
  · exact h.unchained f hx

theorem State.Carries.slot_ne {g : Stage} (h : s.Carries g d fr) {fx : Descriptor} (hx : g.slot = some (x, fx)) : x ≠ d := by
  rintro rfl
  exact h.off .receiving (by simp [State.Stands, hx])

/-- Only the entry of the frame on its way changes. -/
theorem State.Carries.touch {g : Stage} {fr' : Descriptor} (h : s.Carries g d fr) (hl : s.SameLists t)
    (hothers : s.OtherDescs t d) (hd : t.desc? d = some fr') (hstore : t.StoreInv) (hframes : t.FrameInv) :
    t.Carries g d fr' where
  arranged := by
    refine h.arranged.relocate d (fun x hx => ⟨h.ne_of_moving hx, h.ne_of_moving hx⟩)
      (hl.sameOff rfl rfl hothers) (fun x fx hx => ?slot) h.notLoose h.arranged.looseNodup hstore hframes
      (fun f x hf hx => ?head) (h.arranged.lines.of_sameLists hl fun x hx => ?lines)
      (fun hm => absurd h.moving hm)
    case slot => exact (hothers x (h.slot_ne hx)).trans (h.arranged.slot x fx hx)
    case lines => exact State.keyOf_of_desc (hothers x (h.not_listed hx))
    case head =>
      rw [hl.chain] at hx
      have hxd : x ≠ d := h.not_listed (.inr (.inr (.inr (.inr ⟨f, List.mem_of_head? hx⟩))))
      simpa only [State.InPlace.of_desc (hothers x hxd)] using h.arranged.head f x hf hx
  moving := h.moving
  desc := hd
  notLoose := h.notLoose
  off p := by rw [hl.stands]; exact h.off p
  unchained f := by rw [hl.chain]; exact h.unchained f

theorem State.Carries.sameBut {g : Stage} {l : List Piece} (h : s.Carries g d fr) (hs : s.SameBut t l)
    (hl : ∀ p ∈ framePlaces, p ∉ l) : t.Carries g d fr :=
  have hdesc : ∀ x, t.desc? x = s.desc? x := hs.2 .descriptors (hl _ (by decide))
  h.touch (hs.sameLists hl) (fun x _ => hdesc x) ((hdesc d).trans h.desc) (h.arranged.store.of_sameBut hs hl)
    (h.arranged.frames.of_framesKept (.of_desc? hdesc))

theorem State.modDesc_sameLists (s : State) (d : DescId) (f : Descriptor → Descriptor) : s.SameLists (s.modDesc d f) :=
  ⟨rfl, fun _ => rfl, rfl, rfl, fun _ => rfl, le_rfl⟩

theorem State.StoreInv.modDesc (h : s.StoreInv) (d : DescId) {f : Descriptor → Descriptor}
    (hf : ∀ fr : Descriptor, fr.SameFrame (f fr)) : (s.modDesc d f).StoreInv := by
  refine h.of_same rfl rfl rfl fun x => ?_
  rw [State.modDesc_desc?]
  split
  · next hx =>
    rw [hx, Option.map_map]
    congr 1
    funext fr
    simp only [Function.comp, Descriptor.extent, (hf fr).cells, (hf fr).storedLength]
  · rfl

theorem State.Carries.modDesc {g : Stage} (h : s.Carries g d fr) {f : Descriptor → Descriptor}
    (hf : ∀ fr : Descriptor, fr.SameFrame (f fr)) : (s.modDesc d f).Carries g d (f fr) :=
  h.touch (s.modDesc_sameLists d f) (s.modDesc_others d f) (by rw [State.modDesc_desc?, if_pos rfl, h.desc]; rfl)
    (h.arranged.store.modDesc d hf) (h.arranged.frames.of_framesKept (s.modDesc_framesKept d hf))

/-- The moment after the frame on its way has landed. -/
def Stage.landed (g : Stage) : Stage := { g with moving := none }

/-- The frame on its way is freed. -/
theorem State.Carries.freed {g : Stage} (h : s.Carries g d fr) (hl : s.SameLists t) (hfreed : s.Freed t d fr)
    (hothers : s.OtherDescs t d) : t.Arranged g.landed := by
  have hkept : s.FramesKept t := .of_free (d := d) fun x => by
    split
    · next hx => rw [hx, hfreed.free]
    · next hx => exact hothers x hx
  refine h.arranged.relocate d (fun x hx => ⟨h.ne_of_moving hx, by simp [Stage.landed]⟩)
    (hl.sameOff rfl rfl hothers) (fun x fx hx => ?slot) h.notLoose h.arranged.looseNodup
    (h.arranged.store.freed h.desc hfreed hothers) (h.arranged.frames.of_framesKept hkept)
    (fun f x hf hx => ?head) (h.arranged.lines.of_sameLists hl fun x hx => ?lines) (fun _ => ?own)
  case slot => exact (hothers x (h.slot_ne hx)).trans (h.arranged.slot x fx hx)
  case lines => exact State.keyOf_of_desc (hothers x (h.not_listed hx))
  case head =>
    rw [hl.chain] at hx
    have hxd : x ≠ d := h.not_listed (.inr (.inr (.inr (.inr ⟨f, List.mem_of_head? hx⟩))))
    simpa only [State.InPlace.of_desc (hothers x hxd)] using h.arranged.head f x hf hx
  case own =>
    refine ⟨fun fr hfr => by simp [hfreed.free] at hfr, fun p _ => ?_, fun e r fr _ _ hfr => by
      simp [hfreed.free] at hfr, fun f => ?_⟩
    · rw [hl.stands]
      simp only [State.InPlace, hfreed.free, reduceCtorEq, false_and, exists_false, iff_false]
      exact h.off p
    · rw [hl.chain]
      simp only [State.Chains, hfreed.free, reduceCtorEq, false_and, exists_false, iff_false]
      exact h.unchained f

theorem State.SameLists.of_releaseDropped (s : State) (d : DescId) : s.SameLists (s.releaseDropped d) where
  queue := by simp
  engines e := (s.releaseDropped_sameBut_counted d).engineRun_eq (by decide) e
  forward := by simp
  sendingDesc := State.sendingDesc_of_transmitter ((s.releaseDropped_sameBut_counted d).2 .transmitter (by decide))
  chain := (s.releaseDropped_sameBut_counted d).2 .chains (by decide)
  next := ((s.releaseDropped_sameBut_counted d).2 .nextStamp (by decide)).ge

theorem State.Carries.releaseDropped {g : Stage} (h : s.Carries g d fr) : (s.releaseDropped d).Arranged g.landed :=
  h.freed (.of_releaseDropped s d) (s.releaseDropped_freed d fr h.desc).1 (s.releaseDropped_others d)

/-! ### The rank of a frame on its way -/

/-- Where the frame on its way stands in the order of frame-ends: behind the frames of its flow that leave
before it, and ahead of those that still wait; a frame that has just arrived is the last of all. -/
structure State.Ranked (s : State) (g : Stage) (d : DescId) (fr : Descriptor) (new : Bool) : Prop where
  stamp : ∃ n, fr.stamp = some n ∧ n < s.order.nextStamp
  behind : g.ordered = true → ∀ f, s.inLineOf f d = true →
    ∀ x ∈ s.orderedOf f (s.sendingDesc ++ s.egress.forwardQueue), s.stampOf x < s.stampOf d
  ahead : new = false → g.ordered = true → ∀ f, s.inLineOf f d = true →
    ∀ x ∈ s.orderedOf f g.loose ++ s.chain f, s.stampOf d < s.stampOf x
  last : new = true → ∀ x, x ≠ d → s.Listed g.loose x → s.stampOf x < s.stampOf d

theorem State.Ranked.touch {g : Stage} {new : Bool} {fr' : Descriptor} (h : s.Ranked g d fr new)
    (hl : s.SameLists t) (hkey : ∀ x, t.keyOf x = s.keyOf x) (hstamp : fr'.stamp = fr.stamp) :
    t.Ranked g d fr' new where
  stamp := by
    obtain ⟨n, hn, hlt⟩ := h.stamp
    exact ⟨n, hstamp.trans hn, hlt.trans_le hl.next⟩
  behind ho f hd x hx := by
    rw [State.stampOf_of_key (hkey x), State.stampOf_of_key (hkey d)]
    rw [hl.sendingDesc, hl.forward, State.orderedOf_of_keys fun x _ => hkey x] at hx
    exact h.behind ho f (State.inLineOf_of_key (hkey d) f ▸ hd) x hx
  ahead hn ho f hd x hx := by
    rw [State.stampOf_of_key (hkey x), State.stampOf_of_key (hkey d)]
    rw [hl.chain, State.orderedOf_of_keys fun x _ => hkey x] at hx
    exact h.ahead hn ho f (State.inLineOf_of_key (hkey d) f ▸ hd) x hx
  last hn x hx hlisted := by
    rw [State.stampOf_of_key (hkey x), State.stampOf_of_key (hkey d)]
    exact h.last hn x hx ((hl.listed _ x).mp hlisted)

/-- A frame on its way whose rank is known. -/
structure State.Bears (s : State) (g : Stage) (d : DescId) (fr : Descriptor) (new : Bool) : Prop where
  carries : s.Carries g d fr
  ranked : s.Ranked g d fr new

theorem State.modDesc_keyOf (s : State) (d x : DescId) {f : Descriptor → Descriptor}
    (hf : ∀ fr : Descriptor, fr.SameFrame (f fr) ∧ (f fr).stamp = fr.stamp) : (s.modDesc d f).keyOf x = s.keyOf x := by
  simp only [State.keyOf, State.modDesc_desc?]
  split
  · next hx =>
    rw [hx, Option.map_map]
    congr 1
    funext fr
    simp only [Function.comp, (hf fr).2, (hf fr).1.isOrdered, (hf fr).1.flow]
  · rfl

theorem State.Bears.sameBut {g : Stage} {new : Bool} {l : List Piece} (h : s.Bears g d fr new) (hs : s.SameBut t l)
    (hl : ∀ p ∈ framePlaces, p ∉ l) : t.Bears g d fr new :=
  ⟨h.carries.sameBut hs hl, h.ranked.touch (hs.sameLists hl)
    (fun x => State.keyOf_of_desc (hs.2 .descriptors (hl _ (by decide)) x)) rfl⟩

theorem State.Bears.modDesc {g : Stage} {new : Bool} (h : s.Bears g d fr new) {f : Descriptor → Descriptor}
    (hf : ∀ fr : Descriptor, fr.SameFrame (f fr) ∧ (f fr).stamp = fr.stamp) : (s.modDesc d f).Bears g d (f fr) new :=
  ⟨h.carries.modDesc fun fr => (hf fr).1,
    h.ranked.touch (s.modDesc_sameLists d f) (fun x => s.modDesc_keyOf d x hf) (hf fr).2⟩

theorem State.Bears.setDamaged {g : Stage} {new : Bool} (h : s.Bears g d fr new) :
    (s.setDamaged d).Bears g d { fr with header := withDamaged fr.header } new :=
  h.modDesc fun _ => ⟨⟨rfl, rfl, rfl, .inr rfl⟩, rfl⟩

/-! ### Landing -/

theorem State.inPlace_iff_of_desc {p : Place} (hd : s.desc? d = some fr) : s.InPlace d p ↔ fr.place = p := by
  simp [State.InPlace, hd]

theorem State.chains_iff {f : Byte} (hd : s.desc? d = some fr) :
    s.Chains d f ↔ fr.isOrdered = true ∧ fr.waits = true ∧ fr.flow = f := by
  simp [State.Chains, hd]

theorem State.inLineOf_iff {f : Byte} (hd : s.desc? d = some fr) :
    s.inLineOf f d = true ↔ fr.isOrdered = true ∧ fr.flow = f := by
  simp [State.inLineOf, hd]

/-- A frame in a place other than the chain's stands there alone. -/
theorem State.Settled.of_place {slot : Option (DescId × Descriptor)} (hd : s.desc? d = some fr)
    (hfits : fr.Fits s.order.nextStamp) (hstands : ∀ p, p ≠ .held → (s.Stands slot d p ↔ fr.place = p))
    (hruns : ∀ e r, s.engineRun e = some r → r.desc = d → r.Serves fr)
    (hchained : ∀ f, d ∈ s.chain f ↔ fr.isOrdered = true ∧ fr.waits = true ∧ fr.flow = f) : s.Settled slot d where
  fits fr' hfr' := by rwa [Option.some.inj (hfr'.symm.trans hd)]
  located p hp := by rw [hstands p hp, State.inPlace_iff_of_desc hd]
  runs e r fr' hr he hfr' := by
    rw [Option.some.inj (hfr'.symm.trans hd)]
    exact hruns e r he hr
  chained f := by rw [hchained, State.chains_iff hd]

theorem State.Carries.no_run {g : Stage} (h : s.Carries g d fr) {e : EngineId} {r : Run}
    (he : s.engineRun e = some r) : r.desc ≠ d := fun hr =>
  h.off .locating ⟨e, by simp [State.engineDesc, he, hr]⟩

/-- The frame on its way goes to the forward queue. -/
theorem State.Bears.toForward {g : Stage} {new : Bool} (h : s.Bears g d fr new)
    (hnew : new = true → fr.isOrdered = true → g.loose = [] ∧ s.chain fr.flow = []) :
    (s.toForward d).Arranged g.landed := by
  obtain ⟨hc, hr⟩ := h
  obtain ⟨n, hn, hlt⟩ := hr.stamp
  let fr' : Descriptor := { fr with place := .forward, deadline := none }
  have hdesc : (s.toForward d).desc? d = some fr' := by rw [State.toForward_desc?, if_pos rfl, hc.desc]; rfl
  have hkey (x : DescId) : (s.toForward d).keyOf x = s.keyOf x :=
    (State.keyOf_of_desc rfl).trans (s.modDesc_keyOf d x (f := fun fr => { fr with place := .forward, deadline := none })
      fun _ => ⟨⟨rfl, rfl, rfl, .inl rfl⟩, rfl⟩)
  have hothers := s.toForward_others d
  have hchain (f : Byte) : (s.toForward d).chain f = s.chain f := rfl
  have hqueue : (s.toForward d).egress.forwardQueue = s.egress.forwardQueue ++ [d] := rfl
  refine hc.arranged.relocate d (fun x hx => ⟨hc.ne_of_moving hx, by simp [Stage.landed]⟩)
    ⟨hothers, fun x hx p => ?stands, fun e r _ he => he, fun f x _ => Iff.rfl, fun x _ => Iff.rfl, le_rfl⟩
    (fun x fx hx => (hothers x (hc.slot_ne hx)).trans (hc.arranged.slot x fx hx)) hc.notLoose
    hc.arranged.looseNodup ?store (hc.arranged.frames.of_framesKept (s.toForward_framesKept d))
    (fun f x hf hx => ?head) ?lines (fun _ => ?own)
  case stands =>
    cases p with
    | forward => simp [State.Stands, hx]
    | _ => exact Iff.rfl
  case store =>
    exact (hc.arranged.store.modDesc d (f := fun fr => { fr with place := .forward, deadline := none })
      fun _ => ⟨rfl, rfl, rfl, .inl rfl⟩).of_same rfl rfl rfl fun _ => rfl
  case head =>
    have hxd : x ≠ d := hc.not_listed (.inr (.inr (.inr (.inr ⟨f, List.mem_of_head? hx⟩))))
    simpa only [State.InPlace.of_desc (hothers x hxd)] using hc.arranged.head f x hf hx
  case lines =>
    refine hc.arranged.lines.append_forward hkey rfl (fun _ => rfl) hqueue rfl hchain (hc.off .forward) ?_
    refine fun ho f hf => ⟨hr.behind ho f hf, ?_⟩
    cases new with
    | false => exact hr.ahead rfl ho f hf
    | true =>
      obtain ⟨hordered, rfl⟩ := (State.inLineOf_iff hc.desc).mp hf
      obtain ⟨hloose, hempty⟩ := hnew rfl hordered
      simp [hloose, hempty, State.orderedOf]
  case own =>
    refine .of_place hdesc ⟨?_, ?_, ?_, ?_, ?_, ?_⟩ (fun p hp => ?_) (fun e r he hrd => absurd hrd (hc.no_run he))
      (fun f => ?_)
    · simp [fr', hn]
    · exact fun k hk => (Option.some.inj (hn.symm.trans hk)) ▸ hlt
    · simp [fr', Descriptor.waits]
    · simp [fr']
    · simp [fr', Descriptor.waits]
    · simp [fr', Descriptor.withLocator]
    · cases p with
      | forward => simp [State.Stands, fr']
      | held => exact absurd rfl hp
      | receiving => exact iff_of_false (hc.off .receiving) (by simp [fr'])
      | queued => exact iff_of_false (hc.off .queued) (by simp [fr'])
      | locating => exact iff_of_false (hc.off .locating) (by simp [fr'])
      | sending => exact iff_of_false (hc.off .sending) (by simp [fr'])
    · simpa [fr', Descriptor.waits] using hc.unchained f

end Sys2Proof.Machine
end

section
/-! Landing: a frame on its way comes to rest in its chain, in the correction queue, or with an engine. -/

namespace Sys2Proof.Machine

variable {s t u : State} {d x : DescId} {fr : Descriptor} {g : Stage} {f : Byte}

theorem State.StoreInv.setPlace (h : s.StoreInv) (d : DescId) (p : Place) : (s.setPlace d p).StoreInv :=
  h.modDesc d fun _ => ⟨rfl, rfl, rfl, .inl rfl⟩

theorem State.StoreInv.startDeadline (h : s.StoreInv) (d : DescId) : (s.startDeadline d).StoreInv :=
  h.modDesc d fun _ => ⟨rfl, rfl, rfl, .inl rfl⟩

/-- A frame on its way lands: the others stay where they were. -/
theorem State.Carries.land (h : s.Carries g d fr) (hothers : s.OtherDescs t d)
    (hstands : ∀ x, x ≠ d → ∀ p, t.Stands g.slot x p ↔ s.Stands g.slot x p)
    (hruns : ∀ e r, r.desc ≠ d → t.engineRun e = some r → s.engineRun e = some r)
    (hchain : ∀ f x, x ≠ d → (x ∈ t.chain f ↔ x ∈ s.chain f)) (hnext : s.order.nextStamp ≤ t.order.nextStamp)
    (hstore : t.StoreInv) (hframes : t.FrameInv)
    (hhead : ∀ f x, (t.chain f).head? = some x →
      (s.chain f).head? = some x ∨ t.InPlace x .queued ∨ t.InPlace x .locating)
    (hlines : t.Lines g.loose g.ordered) (hown : t.Settled g.slot d) : t.Arranged g.landed := by
  refine h.arranged.relocate d (fun x hx => ⟨h.ne_of_moving hx, by simp [Stage.landed]⟩)
    ⟨hothers, hstands, hruns, hchain, fun _ _ => Iff.rfl, hnext⟩
    (fun x fx hx => (hothers x (h.slot_ne hx)).trans (h.arranged.slot x fx hx)) h.notLoose h.arranged.looseNodup
    hstore hframes (fun f x hf hx => ?_) hlines (fun _ => hown)
  obtain hx | hx := hhead f x hx
  · have hxd : x ≠ d := h.not_listed (.inr (.inr (.inr (.inr ⟨f, List.mem_of_head? hx⟩))))
    simpa only [State.InPlace.of_desc (hothers x hxd)] using h.arranged.head f x hf hx
  · exact hx

theorem State.stampOf_eq {n : Nat} (hd : s.desc? d = some fr) (hn : fr.stamp = some n) : s.stampOf d = n := by
  simp [State.stampOf, hd, hn]

/-- The frame that arrived last waits HELD behind the others of its chain (R87, R91, R92). -/
theorem State.Bears.hold {fr₀ : Descriptor} (h : s.Bears g d fr true) (hloose : g.loose = [])
    (hflow : fr₀.flow = fr.flow) (hordered : fr.isOrdered = true) (hchain : s.chain fr.flow ≠ [])
    (hlength : (s.chain fr.flow).length + 1 ≤ 16) : (s.hold d fr₀).Arranged g.landed := by
  obtain ⟨hc, hr⟩ := h
  obtain ⟨n, hn, hlt⟩ := hr.stamp
  let fr' : Descriptor :=
    { fr with place := .held, deadline := some (s.now + Config.usec fr.entry.holdLimit) }
  have hothers := s.hold_others d fr₀
  have hdesc : (s.hold d fr₀).desc? d = some fr' := by
    change ((s.setPlace d .held).startDeadline d).desc? d = _
    simp [hc.desc, fr', Descriptor.entry]
  have hkey (x : DescId) : (s.hold d fr₀).keyOf x = s.keyOf x := by
    by_cases hx : x = d
    · subst hx
      simp only [State.keyOf, hdesc, hc.desc]
      rfl
    · exact State.keyOf_of_desc (hothers x hx)
  have hjoin (b : Byte) : (s.hold d fr₀).chain b = if b = fr.flow then s.chain fr.flow ++ [d] else s.chain b := by
    rw [State.hold, State.joinChain, State.setChain_chain, hflow]
    rfl
  have hdata : fr.isData = true := by
    rw [Descriptor.isOrdered, Bool.and_eq_true] at hordered
    exact hordered.1
  have hlines := hc.arranged.lines
  rw [hloose] at hlines
  have hsame (x : DescId) (p : Place) : (s.hold d fr₀).Stands g.slot x p ↔ s.Stands g.slot x p := by
    cases p <;> exact Iff.rfl
  refine hc.land hothers (fun x _ p => hsame x p) (fun e r _ he => he) (fun b x hx => ?chain) le_rfl
    ?store (hc.arranged.frames.of_framesKept (s.hold_framesKept d fr₀)) (fun b x hx => .inl ?head) ?lines ?own
  case chain =>
    rw [hjoin]
    split
    · next hb => simp [hb, hx]
    · rfl
  case store =>
    exact ((hc.arranged.store.setPlace d .held).startDeadline d).of_same rfl rfl rfl fun _ => rfl
  case head =>
    rw [hjoin] at hx
    split at hx
    · next hb =>
      rw [hb]
      rwa [List.head?_append_of_ne_nil _ hchain] at hx
    · exact hx
  case lines =>
    rw [hloose]
    exact hlines.append_chain hkey rfl (fun _ => rfl) rfl rfl hjoin hlength
      (fun x hx hlisted => hr.last rfl x hx (hloose ▸ hlisted)) (hc.unchained _)
      (by simpa [State.mem_sendingDesc] using ⟨hc.off .sending, hc.off .forward⟩)
  case own =>
    refine .of_place hdesc ⟨?_, ?_, ?_, ?_, ?_, ?_⟩ (fun p hp => ?_) (fun e r he hrd => absurd hrd (hc.no_run he))
      (fun b => ?_)
    · simp [fr', hn]
    · exact fun k hk => (Option.some.inj (hn.symm.trans hk)) ▸ hlt
    · simp [fr', Descriptor.waits]
    · exact fun _ => hordered
    · exact fun _ => hdata
    · simp [fr', Descriptor.withLocator]
    · exact iff_of_false (fun hstands => hc.off p ((hsame d p).mp hstands)) (Ne.symm hp)
    · rw [hjoin]
      split
      · next hb => exact iff_of_true (by simp) ⟨hordered, by simp [fr', Descriptor.waits], hb.symm⟩
      · next hb =>
        refine iff_of_false (hc.unchained b) fun hwaits => hb hwaits.2.2.symm

/-- The frame that arrived last enters the correction queue, and its chain if it is ORDERED (R69, R88, R91,
R92). -/
theorem State.Bears.enqueued (h : s.Bears g d fr true) (syndromes : List Byte) (hdata : fr.isData = true)
    (hothers : s.OtherDescs t d)
    (hdesc : t.desc? d = some { fr with
      syndromes := some syndromes, place := .queued, deadline := some (s.now + Config.usec fr.entry.holdLimit) })
    (hqueue : t.locator.queue = s.locator.queue ++ [d]) (hengines : ∀ e, t.engineRun e = s.engineRun e)
    (hforward : t.egress.forwardQueue = s.egress.forwardQueue) (hsending : t.sending = s.sending)
    (hchain : ∀ b, t.chain b = if fr.isOrdered = true ∧ b = fr.flow then s.chain fr.flow ++ [d] else s.chain b)
    (hnext : s.order.nextStamp ≤ t.order.nextStamp) (hstore : t.StoreInv) (hframes : t.FrameInv)
    (hlines : t.Lines g.loose g.ordered) : t.Arranged g.landed := by
  obtain ⟨hc, hr⟩ := h
  obtain ⟨n, hn, hlt⟩ := hr.stamp
  have hsame (x : DescId) (p : Place) (hx : x ≠ d) : t.Stands g.slot x p ↔ s.Stands g.slot x p := by
    cases p <;> simp [State.Stands, hqueue, State.engineDesc, hengines, hforward, hsending, hx]
  have hoff (p : Place) (hp : p ≠ .queued) : ¬t.Stands g.slot d p := by
    have hoff := hc.off p
    cases p with
    | queued => exact absurd rfl hp
    | held => exact id
    | receiving => exact hoff
    | locating | forward | sending =>
      simpa only [State.Stands, State.engineDesc, hengines, hforward, hsending] using hoff
  refine hc.land hothers (fun x hx p => hsame x p hx) (fun e r _ he => (hengines e).symm.trans he)
    (fun b x hx => ?chain) hnext hstore hframes (fun b x hx => ?head) hlines ?own
  case chain =>
    rw [hchain]
    split
    · next hb => simp [hb.2, hx]
    · rfl
  case head =>
    rw [hchain] at hx
    split at hx
    · next hb =>
      rw [hb.2]
      by_cases hempty : s.chain fr.flow = []
      · obtain rfl : d = x := by simpa [hempty] using hx
        exact .inr (.inl ⟨_, hdesc, rfl⟩)
      · exact .inl (by rwa [List.head?_append_of_ne_nil _ hempty] at hx)
    · exact .inl hx
  case own =>
    refine .of_place hdesc ⟨?_, ?_, ?_, ?_, ?_, ?_⟩ (fun p hp => ?_)
      (fun e r he hrd => absurd hrd (hc.no_run ((hengines e).symm.trans he))) (fun b => ?_)
    · simp [hn]
    · exact fun k hk => ((Option.some.inj (hn.symm.trans hk)) ▸ hlt).trans_le hnext
    · simp [Descriptor.waits]
    · simp
    · exact fun _ => hdata
    · simp
    · by_cases hqueued : p = .queued
      · subst hqueued
        exact iff_of_true (by simp [State.Stands, hqueue]) rfl
      · exact iff_of_false (hoff p hqueued) (Ne.symm hqueued)
    · rw [hchain]
      split
      · next hb => exact iff_of_true (by simp) ⟨hb.1, by simp [Descriptor.waits], hb.2.symm⟩
      · next hb => exact iff_of_false (hc.unchained b) fun hwaits => hb ⟨hwaits.1, hwaits.2.2.symm⟩

theorem State.enqueue_desc (hd : s.desc? d = some fr) (syndromes : List Byte) :
    (s.enqueue d syndromes).desc? d = some { fr with
      syndromes := some syndromes, place := .queued, deadline := some (s.now + Config.usec fr.entry.holdLimit) } := by
  change (((s.modDesc d fun x => { x with syndromes := some syndromes }).setPlace d .queued).startDeadline d).desc? d = _
  simp [hd, Descriptor.entry]

theorem State.enqueue_keyOf (s : State) (d : DescId) (syndromes : List Byte) (x : DescId) :
    (s.enqueue d syndromes).keyOf x = s.keyOf x := by
  by_cases hx : x = d
  · subst hx
    cases hd : s.desc? x with
    | none =>
      have hnone : (s.enqueue x syndromes).desc? x = none := by
        change (((s.modDesc x fun y => { y with syndromes := some syndromes }).setPlace x .queued).startDeadline x).desc? x = _
        simp [hd]
      simp only [State.keyOf, hnone, hd]
    | some fr =>
      simp only [State.keyOf, s.enqueue_desc hd syndromes, hd]
      rfl
  · exact State.keyOf_of_desc (s.enqueue_others d syndromes x hx)

theorem State.StoreInv.enqueue (h : s.StoreInv) (d : DescId) (syndromes : List Byte) :
    (s.enqueue d syndromes).StoreInv := by
  have hrecorded : (s.modDesc d fun x => { x with syndromes := some syndromes }).StoreInv :=
    h.modDesc d fun _ => ⟨rfl, rfl, rfl, .inl rfl⟩
  exact ((hrecorded.setPlace d .queued).startDeadline d).of_same rfl rfl rfl fun _ => rfl

theorem State.Bears.enqueue_lines (h : s.Bears g d fr true) (syndromes : List Byte) :
    (s.enqueue d syndromes).Lines g.loose g.ordered :=
  h.carries.arranged.lines.append_queue (s.enqueue_keyOf d syndromes) rfl (fun _ => rfl) rfl rfl (fun _ => rfl)
    (h.carries.off .queued) (h.ranked.last rfl)

/-- A FREE frame that arrived last enters the correction queue. -/
theorem State.Bears.enqueue (h : s.Bears g d fr true) (syndromes : List Byte) (hdata : fr.isData = true)
    (hfree : fr.isOrdered = false) : (s.enqueue d syndromes).Arranged g.landed :=
  h.enqueued syndromes hdata (s.enqueue_others d syndromes) (s.enqueue_desc h.carries.desc syndromes) rfl
    (fun _ => rfl) rfl rfl (fun b => by rw [hfree]; exact (if_neg (by simp)).symm) le_rfl
    (h.carries.arranged.store.enqueue d syndromes)
    (h.carries.arranged.frames.of_framesKept (s.enqueue_framesKept d syndromes)) (h.enqueue_lines syndromes)

/-- An ORDERED frame that arrived last enters the correction queue and its chain. -/
theorem State.Bears.enqueue_joinChain {fr₀ : Descriptor} (h : s.Bears g d fr true) (syndromes : List Byte)
    (hloose : g.loose = []) (hflow : fr₀.flow = fr.flow) (hordered : fr.isOrdered = true)
    (hlength : (s.chain fr.flow).length + 1 ≤ 16) :
    ((s.enqueue d syndromes).joinChain d fr₀).Arranged g.landed := by
  have hdata : fr.isData = true := by
    rw [Descriptor.isOrdered, Bool.and_eq_true] at hordered
    exact hordered.1
  have hjoin (b : Byte) : ((s.enqueue d syndromes).joinChain d fr₀).chain b =
      if b = fr.flow then s.chain fr.flow ++ [d] else s.chain b := by
    rw [State.joinChain, State.setChain_chain, hflow]
    rfl
  have hlines := h.enqueue_lines syndromes
  rw [hloose] at hlines
  refine h.enqueued syndromes hdata (s.enqueue_others d syndromes) (s.enqueue_desc h.carries.desc syndromes) rfl
    (fun _ => rfl) rfl rfl (fun b => by rw [hjoin]; simp [hordered]) le_rfl
    ((h.carries.arranged.store.enqueue d syndromes).of_same rfl rfl rfl fun _ => rfl)
    (h.carries.arranged.frames.of_framesKept ((s.enqueue_framesKept d syndromes).trans
      (.of_desc? fun _ => rfl))) ?_
  rw [hloose]
  refine hlines.append_chain (fun _ => rfl) rfl (fun _ => rfl) rfl rfl hjoin hlength (fun x hx hlisted => ?_)
    (h.carries.unchained _) (by
      simpa [State.mem_sendingDesc] using ⟨h.carries.off .sending, h.carries.off .forward⟩)
  rw [State.stampOf_of_key (s.enqueue_keyOf d syndromes x), State.stampOf_of_key (s.enqueue_keyOf d syndromes d)]
  refine h.ranked.last rfl x hx (hloose ▸ hlisted.imp_left fun hq => ?_)
  exact (List.mem_append.mp hq).resolve_right (by simpa using hx)

end Sys2Proof.Machine
end

section
/-! The frame-end: the frame of the receive slot takes its stamp, and is dispatched by its role. -/

namespace Sys2Proof.Machine

variable {s t u v : State} {d x : DescId} {fr fr' : Descriptor} {g : Stage} {f : Byte} {b : Bool}
  {payload : List Byte}

/-- The moment between two commands. -/
def Stage.rest (slot : Option (DescId × Descriptor)) (b : Bool) : Stage := ⟨slot, none, [], none, b⟩

/-- The moment in which one frame is on its way. -/
def Stage.carrying (d : DescId) (b : Bool) : Stage := ⟨none, some d, [], none, b⟩

/-! ### The frame leaves the receive slot -/

theorem State.Arranged.slot_place (h : s.Arranged (.rest (some (d, fr)) b)) : fr.place = .receiving := by
  have hd : s.desc? d = some fr := h.slot d fr rfl
  have hplace := (h.located d .receiving (by simp [Stage.rest]) (by simp)).mp (by simp [State.Stands, Stage.rest])
  exact (State.inPlace_iff_of_desc hd).mp hplace

/-- Where a frame that is not on its way stands is where its place says. -/
theorem State.Arranged.not_stands {p : Place} (h : s.Arranged g) (hm : g.moving ≠ some d) (hd : s.desc? d = some fr)
    (hp : fr.place ≠ p) : ¬s.Stands g.slot d p := by
  by_cases hheld : p = .held
  · subst hheld
    exact id
  · rw [h.located d p hm hheld, State.inPlace_iff_of_desc hd]
    exact hp

theorem State.Arranged.not_chained (h : s.Arranged g) (hm : g.moving ≠ some d) (hd : s.desc? d = some fr)
    (hwaits : fr.waits = false) (f : Byte) : d ∉ s.chain f := by
  rw [h.chained f d hm, State.chains_iff hd]
  simp [hwaits]

/-- The frame of the receive slot is taken on its way. -/
theorem State.Arranged.leaveSlot (h : s.Arranged (.rest (some (d, fr)) b)) : s.Carries (.carrying d b) d fr := by
  have hd : s.desc? d = some fr := h.slot d fr rfl
  have hplace := h.slot_place
  have hm : (Stage.rest (some (d, fr)) b).moving ≠ some d := by simp [Stage.rest]
  have hrest (p : Place) (hp : p ≠ .receiving) (x : DescId) :
      s.Stands (Stage.carrying d b).slot x p ↔ s.Stands (Stage.rest (some (d, fr)) b).slot x p := by
    cases p with
    | receiving => exact absurd rfl hp
    | _ => exact Iff.rfl
  refine ⟨h.relocate d (fun x hx => ⟨by simp [Stage.rest], by simpa [Stage.carrying] using Ne.symm hx⟩)
    ⟨fun _ _ => rfl, fun x hx p => ?_, fun _ _ _ he => he, fun _ _ _ => Iff.rfl, fun _ _ => Iff.rfl, le_rfl⟩
    (fun x fr hx => by simp [Stage.carrying] at hx) (by simp [Stage.carrying]) h.looseNodup h.store h.frames h.head
    h.lines fun hmoving => absurd rfl hmoving, rfl, hd, by simp [Stage.carrying], fun p => ?_,
    h.not_chained hm hd (by simp [Descriptor.waits, hplace])⟩
  · by_cases hp : p = .receiving
    · subst hp
      simpa [State.Stands, Stage.carrying, Stage.rest] using Ne.symm hx
    · exact hrest p hp x
  · by_cases hp : p = .receiving
    · subst hp
      simp [State.Stands, Stage.carrying]
    · rw [hrest p hp]
      exact h.not_stands hm hd (by rw [hplace]; exact Ne.symm hp)

/-- The stamps of the frames that stand in a list have been given out. -/
theorem State.Arranged.stampOf_lt (h : s.Arranged g) (hm : g.moving ≠ some x) (hx : s.Listed g.loose x) :
    s.stampOf x < s.order.nextStamp := by
  have hframe : ∃ fx, s.desc? x = some fx ∧ fx.place ≠ .receiving := by
    have placed {p : Place} (hp : p ≠ .held) (hr : p ≠ .receiving) (hstands : s.Stands g.slot x p) :
        ∃ fx, s.desc? x = some fx ∧ fx.place ≠ .receiving := by
      obtain ⟨fx, hfx, hplace⟩ := (h.located x p hm hp).mp hstands
      exact ⟨fx, hfx, by rwa [hplace]⟩
    have chained {f : Byte} (hc : s.Chains x f) : ∃ fx, s.desc? x = some fx ∧ fx.place ≠ .receiving := by
      obtain ⟨fx, hfx, -, hwaits, -⟩ := hc
      exact ⟨fx, hfx, fun hplace => by simp [Descriptor.waits, hplace] at hwaits⟩
    obtain hx | hx | hx | hx | ⟨f, hx⟩ := hx
    · exact placed (p := .queued) (by simp) (by simp) hx
    · exact placed (p := .sending) (by simp) (by simp) ((s.mem_sendingDesc x).mp hx)
    · exact placed (p := .forward) (by simp) (by simp) hx
    · obtain ⟨f, hf⟩ := h.loose x hx
      exact chained hf
    · exact chained ((h.chained f x hm).mp hx).2
  obtain ⟨fx, hfx, hplace⟩ := hframe
  have hfits := h.fits x fx hm hfx
  obtain ⟨n, hn⟩ := Option.ne_none_iff_exists'.mp (mt hfits.stampless.mp hplace)
  rw [State.stampOf_eq hfx hn]
  exact hfits.stamp n hn

theorem State.arrivePayload_sameLists (s : State) (d : DescId) (fr : Descriptor) (payload : List Byte) :
    s.SameLists (s.arrivePayload d fr payload) :=
  ⟨rfl, fun _ => rfl, rfl, rfl, fun _ => rfl, Nat.le_succ _⟩

/-- The frame of the receive slot has arrived: it is on its way, with the last stamp of all (R15, R24). -/
theorem State.Arranged.arrivePayload (h : s.Arranged (.rest (some (d, fr)) b)) (payload : List Byte) :
    (s.arrivePayload d fr payload).Bears (.carrying d b) d { fr with stamp := some s.order.nextStamp } true := by
  have hcarries := h.leaveSlot
  have hdesc : (s.arrivePayload d fr payload).desc? d = some { fr with stamp := some s.order.nextStamp } := by
    rw [State.arrivePayload_desc?, if_pos rfl, hcarries.desc]
    rfl
  have hothers : s.OtherDescs (s.arrivePayload d fr payload) d := fun x hx => by
    rw [State.arrivePayload_desc?, if_neg hx]
  have hlists := s.arrivePayload_sameLists d fr payload
  have hstore : (s.arrivePayload d fr payload).StoreInv := by
    refine h.store.of_same rfl rfl rfl fun x => ?_
    rw [State.arrivePayload_desc?]
    split
    · next hx => rw [hx, Option.map_map]; rfl
    · rfl
  have hframes : (s.arrivePayload d fr payload).FrameInv := by
    refine h.frames.of_framesKept fun x fx hx => ?_
    by_cases hxd : x = d
    · subst hxd
      rw [← Option.some.inj (hdesc.symm.trans hx)]
      exact ⟨fr, hcarries.desc, rfl, rfl, rfl, .inl rfl⟩
    · exact ⟨fx, (hothers x hxd).symm.trans hx, .refl fx⟩
  have hlast (x : DescId) (hx : s.Listed [] x) :
      (s.arrivePayload d fr payload).stampOf x < (s.arrivePayload d fr payload).stampOf d := by
    have hxd : x ≠ d := hcarries.not_listed hx
    rw [State.stampOf_eq hdesc rfl, State.stampOf_of_key (State.keyOf_of_desc (hothers x hxd))]
    exact h.stampOf_lt (by simp [Stage.rest]) hx
  refine ⟨hcarries.touch hlists hothers hdesc hstore hframes, ⟨s.order.nextStamp, rfl, Nat.lt_succ_self _⟩,
    fun _ f _ x hx => hlast x ?_, fun hnew => by simp at hnew, fun _ x _ hx => hlast x ((hlists.listed _ x).mp hx)⟩
  have hx := State.mem_orderedOf hx
  rw [hlists.sendingDesc, hlists.forward, List.mem_append] at hx
  exact hx.elim (fun h => .inr (.inl h)) fun h => .inr (.inr (.inl h))

/-! ### Where the frame goes (R86 to R92) -/

theorem Descriptor.isOrdered_iff (fr : Descriptor) :
    fr.isOrdered = true ↔ fr.isData = true ∧ fr.entry.order = .ordered := by
  simp [Descriptor.isOrdered]

theorem State.Bears.dropOverflow {new : Bool} (h : s.Bears g d fr new) : (s.dropOverflow d).Arranged g.landed :=
  h.carries.releaseDropped.sameBut (State.raise_sameBut _ _) (by decide)

/-- A frame that has just arrived and needs no more of the code goes on, waits HELD, or overflows. -/
theorem State.Bears.routedReady (h : s.Bears (.carrying d b) d fr' true) (hsame : fr.SameFrame fr')
    (hdata : fr.isData = true) (hdepth : fr.entry.holdDepth ≤ 16) (hu : s.RoutedReady d fr u) :
    u.Arranged (.rest none b) := by
  have hflow := hsame.flow
  cases hu with
  | onward hon =>
    refine h.toForward fun _ hordered => ⟨rfl, ?_⟩
    rw [hsame.isOrdered, Descriptor.isOrdered_iff] at hordered
    rw [hflow]
    exact hon.resolve_left (by simp [hordered.2])
  | held hchain hjoins =>
    obtain ⟨horder, hlength⟩ := hjoins
    refine h.hold rfl hflow.symm ?_ (hflow ▸ hchain) (hflow ▸ hlength.trans hdepth)
    rw [hsame.isOrdered, Descriptor.isOrdered_iff]
    exact ⟨hdata, horder⟩
  | overflow => exact h.dropOverflow

/-- A frame that has just arrived and is to locate enters the correction queue, or overflows. -/
theorem State.Bears.routedLocate {syndromes : List Byte} (h : s.Bears (.carrying d b) d fr' true)
    (hsame : fr.SameFrame fr') (hdata : fr.isData = true) (hdepth : fr.entry.holdDepth ≤ 16)
    (hu : s.RoutedLocate d fr syndromes u) : u.Arranged (.rest none b) := by
  have hflow := hsame.flow
  have hdata' : fr'.isData = true := hsame.isData.trans hdata
  cases hu with
  | free hfree =>
    refine h.enqueue syndromes hdata' ?_
    rw [hsame.isOrdered, Descriptor.isOrdered, hfree]
    simp
  | ordered hjoins =>
    obtain ⟨horder, hlength⟩ := hjoins
    refine h.enqueue_joinChain syndromes rfl hflow.symm ?_ (hflow ▸ hlength.trans hdepth)
    rw [hsame.isOrdered, Descriptor.isOrdered_iff]
    exact ⟨hdata, horder⟩
  | overflow => exact h.dropOverflow

/-- The frame-end of a DATA frame. -/
theorem State.Bears.dataEnded (h : s.Bears (.carrying d b) d fr' true) (hsame : fr.SameFrame fr')
    (hdata : fr.isData = true) (hdepth : fr.entry.holdDepth ≤ 16) (hu : s.DataEnded d fr u) :
    u.Arranged (.rest none b) := by
  have failed : ((s.countFlow fr.flow .codeFailed 1).raise .codeFailure).Bears (.carrying d b) d fr' true :=
    (h.sameBut (s.countFlow_sameBut _ _ _) (by decide)).sameBut (State.raise_sameBut _ _) (by decide)
  cases hu with
  | ready _ hu => exact (h.sameBut (s.countFlow_sameBut _ _ _) (by decide)).routedReady hsame hdata hdepth hu
  | encoded _ hu =>
    exact ((h.sameBut (s.putMemory_sameBut _) (by decide)).sameBut (State.countFlow_sameBut _ _ _ _)
      (by decide)).routedReady hsame hdata hdepth hu
  | toLocate _ _ _ hu => exact h.routedLocate hsame hdata hdepth hu
  | dropped => exact failed.carries.releaseDropped
  | marked _ _ hu =>
    refine failed.setDamaged.routedReady ⟨hsame.role, hsame.storedLength, hsame.cells, .inr ?_⟩ hdata hdepth hu
    obtain hh | hh := hsame.header
    · rw [hh]
    · rw [hh, withDamaged_withDamaged]

theorem State.Bears.forwardOther (h : s.Bears (.carrying d b) d fr' true) (hsame : fr.SameFrame fr')
    (hdata : fr.isData = false) : (s.toForward d).Arranged (.rest none b) :=
  h.toForward fun _ hordered => by
    rw [hsame.isOrdered, Descriptor.isOrdered_iff, hdata] at hordered
    exact absurd hordered.1 (by simp)

/-- The dispatch of the frame that has just arrived. -/
theorem State.Bears.dispatched (h : s.Bears (.carrying d b) d fr' true) (hsame : fr.SameFrame fr')
    (hdepth : fr.entry.holdDepth ≤ 16) (hu : s.Dispatched d fr payload u) : u.Arranged (.rest none b) := by
  cases hu with
  | data snap hrole =>
    exact h.dataEnded hsame (by simp [Descriptor.isData, hrole]) hdepth (s.endData_ended d fr)
  | forwarded hrole => exact h.forwardOther hsame (by simp [Descriptor.isData, hrole])
  | request hrole _ hv =>
    have hmanaged := h.sameBut hv.sameBut (by decide)
    split
    · exact hmanaged.forwardOther hsame (by simp [Descriptor.isData, hrole])
    · exact hmanaged.carries.releaseDropped
  | enumeration hrole =>
    exact (h.sameBut (s.enumerate_sameBut fr payload) (by decide)).forwardOther hsame
      (by simp [Descriptor.isData, hrole])
  | checkFault =>
    exact h.carries.releaseDropped.sameBut (State.countGlobal_sameBut _ _) (by decide)

end Sys2Proof.Machine
end

section
/-! Departures: a frame leaves the locator and its chain, or the transmitter; the frames handed back. -/

namespace Sys2Proof.Machine

variable {s t u v : State} {d x : DescId} {fr fr' : Descriptor} {g g' : Stage} {f : Byte} {b : Bool}

/-! ### Leaving the locator, the chain or the transmitter -/

/-- The second state is the first with the frame of the descriptor taken from the locator, or from the
transmitter; its entry may have changed but not the frame. -/
structure State.Quits (s t : State) (d : DescId) (fr fr' : Descriptor) : Prop where
  before : s.desc? d = some fr
  after : t.desc? d = some fr'
  sameFrame : fr.SameFrame fr'
  stamp : fr'.stamp = fr.stamp
  others : s.OtherDescs t d
  free : t.store.freeCells = s.store.freeCells ∧ t.store.freeDescs = s.store.freeDescs ∧
    t.store.holdOut = s.store.holdOut
  next : t.order.nextStamp = s.order.nextStamp
  forward : t.egress.forwardQueue = s.egress.forwardQueue
  queue : t.locator.queue = s.locator.queue.filter (· ≠ d)
  runs : ∀ e r, t.engineRun e = some r ↔ s.engineRun e = some r ∧ r.desc ≠ d
  sending : t.sending = s.sending ∧ s.sending ≠ some (.forward d) ∨ t.sending = none ∧ s.sending = some (.forward d)

/-- The frame has left its chain as well, if it was in one. -/
structure State.Leaves (s t : State) (d : DescId) (fr fr' : Descriptor) : Prop extends s.Quits t d fr fr' where
  chain : ∀ f, t.chain f = (s.chain f).filter (· ≠ d)

theorem State.Quits.keyOf (h : s.Quits t d fr fr') (x : DescId) : t.keyOf x = s.keyOf x := by
  by_cases hx : x = d
  · subst hx
    simp only [State.keyOf, h.before, h.after, Option.map_some, h.stamp, h.sameFrame.isOrdered, h.sameFrame.flow]
  · exact State.keyOf_of_desc (h.others x hx)

theorem State.Quits.mem_sendingDesc (h : s.Quits t d fr fr') :
    x ∈ t.sendingDesc ↔ x ∈ s.sendingDesc ∧ x ≠ d := by
  rw [State.mem_sendingDesc, State.mem_sendingDesc]
  obtain ⟨hsame, hne⟩ | ⟨hnone, hd⟩ := h.sending
  · rw [hsame]
    exact ⟨fun hx => ⟨hx, fun hxd => hne (hxd ▸ hx)⟩, And.left⟩
  · rw [hnone, hd]
    simpa using Eq.symm

theorem State.Quits.sendingDesc_sublist (h : s.Quits t d fr fr') : t.sendingDesc.Sublist s.sendingDesc := by
  obtain ⟨hsame, -⟩ | ⟨hnone, -⟩ := h.sending
  · rw [State.sendingDesc, hsame, State.sendingDesc]
  · rw [State.sendingDesc, hnone]
    exact List.nil_sublist _

theorem State.Quits.engineDesc (h : s.Quits t d fr fr') (e : EngineId) :
    t.engineDesc e = some x ↔ s.engineDesc e = some x ∧ x ≠ d := by
  simp only [State.engineDesc, Option.map_eq_some_iff, h.runs]
  constructor
  · rintro ⟨r, ⟨hr, hne⟩, rfl⟩
    exact ⟨⟨r, hr, rfl⟩, hne⟩
  · rintro ⟨⟨r, hr, rfl⟩, hne⟩
    exact ⟨r, ⟨hr, hne⟩, rfl⟩

theorem State.Quits.stands (h : s.Quits t d fr fr') (slot : Option (DescId × Descriptor)) (hx : x ≠ d) (p : Place) :
    t.Stands slot x p ↔ s.Stands slot x p := by
  cases p with
  | receiving | held => exact Iff.rfl
  | queued => simp [State.Stands, h.queue, hx]
  | locating => simp [State.Stands, h.engineDesc, hx]
  | forward => simp [State.Stands, h.forward]
  | sending =>
    have := h.mem_sendingDesc (x := x)
    rw [State.mem_sendingDesc, State.mem_sendingDesc] at this
    simpa [State.Stands, hx] using this

theorem State.Quits.storeInv (h : s.Quits t d fr fr') (hs : s.StoreInv) : t.StoreInv := by
  obtain ⟨hcells, hdescs, hout⟩ := h.free
  refine hs.of_same hcells hdescs hout fun x => ?_
  by_cases hx : x = d
  · subst hx
    simp [h.before, h.after, Descriptor.extent, h.sameFrame.cells, h.sameFrame.storedLength]
  · rw [h.others x hx]

theorem State.Quits.framesKept (h : s.Quits t d fr fr') : s.FramesKept t := fun x fx hx => by
  by_cases hxd : x = d
  · subst hxd
    rw [← Option.some.inj (h.after.symm.trans hx)]
    exact ⟨fr, h.before, h.sameFrame⟩
  · exact ⟨fx, (h.others x hxd).symm.trans hx, .refl fx⟩

/-- The stage in which a frame has left. -/
def Stage.leaving (g : Stage) (d : DescId) (opened : Option Byte) : Stage :=
  { g with moving := some d, loose := g.loose.filter (· ≠ d), opened := opened }

/-- A frame that leaves is on its way. -/
theorem State.Arranged.leave {opened : Option Byte} (h : s.Arranged g) (hg : g.moving = none)
    (hl : s.Leaves t d fr fr') (hplace : fr.place ≠ .receiving ∧ fr.place ≠ .forward)
    (hhead : ∀ f x, opened ≠ some f → (t.chain f).head? = some x →
      (s.chain f).head? = some x ∧ g.opened ≠ some f) : t.Carries (g.leaving d opened) d fr' := by
  have hm (x : DescId) : g.moving ≠ some x := by simp [hg]
  have hoff (p : Place) : ¬t.Stands g.slot d p := by
    cases p with
    | receiving => exact h.not_stands (hm d) hl.before hplace.1
    | forward =>
      have := h.not_stands (hm d) hl.before hplace.2
      simpa [State.Stands, hl.forward] using this
    | queued => simp [State.Stands, hl.queue]
    | locating => simp [State.Stands, hl.engineDesc]
    | held => exact id
    | sending =>
      intro hsending
      exact (hl.mem_sendingDesc.mp ((t.mem_sendingDesc d).mpr hsending)).2 rfl
  refine ⟨h.relocate d (fun x hx => ⟨hm x, by simpa [Stage.leaving] using Ne.symm hx⟩)
    ⟨hl.others, fun x hx p => hl.stands g.slot hx p, fun e r _ he => ((hl.runs e r).mp he).1,
      fun f x hx => by simp [hl.chain, hx], fun x hx => by simp [Stage.leaving, hx], hl.next.ge⟩
    (fun x fx hx => ?slot) (by simp [Stage.leaving]) (h.looseNodup.filter _) (hl.storeInv h.store)
    (h.frames.of_framesKept hl.framesKept) (fun f x hf hx => ?head) ?lines (fun hmoving => absurd rfl hmoving),
    rfl, hl.after, by simp [Stage.leaving], hoff, fun f => by simp [hl.chain]⟩
  case slot =>
    have hxd : x ≠ d := by
      rintro rfl
      exact hoff .receiving (by simp only [Stage.leaving] at hx; simp [State.Stands, hx])
    exact (hl.others x hxd).trans (h.slot x fx hx)
  case head =>
    have hxd : x ≠ d := by
      have := List.mem_of_head? hx
      rw [hl.chain] at this
      simpa using (List.mem_filter.mp this).2
    obtain ⟨hhead, hopened⟩ := hhead f x hf hx
    simpa only [State.InPlace.of_desc (hl.others x hxd)] using h.head f x hopened hhead
  case lines =>
    exact h.lines.thin (fun x _ => hl.keyOf x) (hl.queue ▸ List.filter_sublist) (fun e x hx => ((hl.engineDesc e).mp hx).1)
      (hl.forward ▸ List.Sublist.refl _) hl.sendingDesc_sublist (fun f => hl.chain f ▸ List.filter_sublist)
      List.filter_sublist

/-- A frame that was the first of its flow to wait, or is not ORDERED, leaves in its order. -/
theorem State.Arranged.leave_ranked {opened : Option Byte} (h : s.Arranged g) (hg : g.moving = none)
    (hl : s.Leaves t d fr fr') (hplace : fr.place ≠ .receiving)
    (hfirst : ∀ f, s.inLineOf f d = true → (s.orderedOf f g.loose ++ s.chain f).head? = some d) :
    t.Ranked (g.leaving d opened) d fr' false := by
  have hkey := hl.keyOf
  have hstamp (x : DescId) : t.stampOf x = s.stampOf x := State.stampOf_of_key (hkey x)
  have hfits := h.fits d fr (by simp [hg]) hl.before
  have hline (ho : g.ordered = true) (f : Byte) (hf : t.inLineOf f d = true) :
      ∃ rest, s.orderedOf f g.loose ++ s.chain f = d :: rest ∧
        (∀ x ∈ s.orderedOf f (s.sendingDesc ++ s.egress.forwardQueue), s.stampOf x < s.stampOf d) ∧
        ∀ x ∈ rest, s.stampOf d < s.stampOf x := by
    have hrest := List.eq_cons_of_mem_head? (hfirst f (State.inLineOf_of_key (hkey d) f ▸ hf))
    have hpairs := h.lines.line ho f
    rw [State.lineOf, hrest] at hpairs
    obtain ⟨-, hbehind, hacross⟩ := List.pairwise_append.mp hpairs
    exact ⟨_, hrest, fun x hx => hacross x hx d List.mem_cons_self, (List.pairwise_cons.mp hbehind).1⟩
  refine ⟨?_, fun ho f hf x hx => ?_, fun _ ho f hf x hx => ?_, fun hnew => by simp at hnew⟩
  · obtain ⟨n, hn⟩ := Option.ne_none_iff_exists'.mp (mt hfits.stampless.mp hplace)
    exact ⟨n, hl.stamp.trans hn, hl.next ▸ hfits.stamp n hn⟩
  · obtain ⟨rest, -, hbehind, -⟩ := hline ho f hf
    rw [hstamp, hstamp]
    refine hbehind x ?_
    rw [State.orderedOf_of_keys (s := s) (fun x _ => hkey x), hl.forward] at hx
    exact ((hl.sendingDesc_sublist.append_right _).filter _).mem hx
  · obtain ⟨rest, hrest, -, hahead⟩ := hline ho f hf
    rw [hstamp, hstamp]
    refine hahead x ?_
    rw [State.orderedOf_of_keys (s := s) (fun x _ => hkey x), hl.chain] at hx
    have hmem : x ∈ s.orderedOf f g.loose ++ s.chain f ∧ x ≠ d := by
      rw [List.mem_append]
      obtain hx | hx := List.mem_append.mp hx
      · obtain ⟨hloose, hin⟩ := List.mem_filter.mp hx
        obtain ⟨hloose, hne⟩ := List.mem_filter.mp hloose
        exact ⟨.inl (List.mem_filter.mpr ⟨hloose, hin⟩), by simpa using hne⟩
      · obtain ⟨hchain, hne⟩ := List.mem_filter.mp hx
        exact ⟨.inr hchain, by simpa using hne⟩
    rw [hrest] at hmem
    exact (List.mem_cons.mp hmem.1).resolve_left hmem.2

/-! ### The failure policy -/

/-- A frame whose run has ended goes to the forward queue, or is freed. -/
theorem State.Bears.failedOr {fr₀ : Descriptor} (h : s.Bears g d fr false) (failed : Bool) :
    (s.failedOr d fr₀ failed (State.toForward · d)).Arranged g.landed := by
  unfold State.failedOr
  split
  · split
    · exact h.carries.releaseDropped
    · exact h.setDamaged.toForward fun hnew => by simp at hnew
  · exact h.toForward fun hnew => by simp at hnew

end Sys2Proof.Machine
end

section
/-! Release and expiry: frames that have left their chain go on one by one (R93, R94, R96 to R99). -/

namespace Sys2Proof.Machine

variable {s t u v : State} {d x : DescId} {fr fr' : Descriptor} {g : Stage} {f : Byte} {b : Bool}
  {slot : Option (DescId × Descriptor)} {o o' : Option Byte} {pre post : List DescId}

/-! ### Frames that leave their chain together -/

theorem State.Lines.chain_nodup {loose : List DescId} (h : s.Lines loose b) (f : Byte) : (s.chain f).Nodup :=
  (h.chainInOrder f).imp fun hlt heq => absurd hlt (by rw [heq]; exact lt_irrefl _)

theorem State.inLineOf_iff_of_chains {b : Byte} (h : s.Chains x f) : s.inLineOf b x = true ↔ b = f := by
  obtain ⟨fx, hfx, hordered, -, hflow⟩ := h
  rw [State.inLineOf_iff hfx, hflow]
  exact ⟨fun hb => hb.2.symm, fun hb => ⟨hordered, hb.symm⟩⟩

theorem State.orderedOf_of_chains {l : List DescId} (h : ∀ x ∈ l, s.Chains x f) (b : Byte) :
    s.orderedOf b l = if b = f then l else [] := by
  rw [State.orderedOf_eq]
  split
  · next hb => exact List.filter_eq_self.mpr fun x hx => (State.inLineOf_iff_of_chains (h x hx)).mpr hb
  · next hb => exact List.filter_eq_nil_iff.mpr fun x hx => mt (State.inLineOf_iff_of_chains (h x hx)).mp hb

/-- The first members of a chain leave it and wait on their own. -/
theorem State.Arranged.unchain (h : s.Arranged ⟨slot, none, [], o, b⟩) (hch : s.chain f = pre ++ post)
    (ho : ∀ c, c ≠ f → o ≠ some c)
    (hhead : o' ≠ some f → ∀ x, post.head? = some x → s.InPlace x .queued ∨ s.InPlace x .locating) :
    (s.setChain f post).Arranged ⟨slot, none, pre, o', b⟩ := by
  have hchains (x : DescId) (hx : x ∈ pre ++ post) : s.Chains x f :=
    ((h.chained f x (by simp)).mp (hch ▸ hx)).2
  have hpre (x : DescId) (hx : x ∈ pre) : s.Chains x f := hchains x (List.mem_append_left _ hx)
  have hnodup : (pre ++ post).Nodup := hch ▸ h.lines.chain_nodup f
  obtain ⟨hnodupPre, -, hdisjoint⟩ := List.nodup_append.mp hnodup
  have hchain (c : Byte) : (s.setChain f post).chain c = if c = f then post else s.chain c := s.setChain_chain f c post
  have hline (c : Byte) : (s.setChain f post).lineOf c pre = s.lineOf c [] := by
    change _ ++ (s.orderedOf c pre ++ (s.setChain f post).chain c) = _ ++ ([] ++ s.chain c)
    rw [hchain, State.orderedOf_of_chains hpre]
    split
    · next hc => rw [hc, hch]; rfl
    · rfl
  exact {
    store := h.store.of_same rfl rfl rfl fun _ => rfl
    frames := h.frames.of_framesKept (.of_desc? fun _ => rfl)
    slot := h.slot
    fits := fun x fx _ hfx => h.fits x fx (by simp) hfx
    located := fun x p _ hp => by
      refine Iff.trans ?_ (h.located x p (by simp) hp)
      cases p <;> exact Iff.rfl
    runs := fun e r fr _ he hfr => h.runs e r fr (by simp) he hfr
    chained := fun c x _ => by
      rw [hchain]
      split
      · next hc =>
        subst hc
        constructor
        · exact fun hx => ⟨fun hxpre => hdisjoint x hxpre x hx rfl, hchains x (List.mem_append_right _ hx)⟩
        · rintro ⟨hxpre, hx⟩
          have hmem := (h.chained c x (by simp)).mpr ⟨List.not_mem_nil, hx⟩
          rw [hch] at hmem
          exact (List.mem_append.mp hmem).resolve_left hxpre
      · next hc =>
        rw [h.chained c x (by simp)]
        refine and_congr_left fun hx => iff_of_true List.not_mem_nil fun hxpre => hc ?_
        obtain ⟨fx, hfx, -, -, hflow⟩ := hx
        obtain ⟨fy, hfy, -, -, hflow'⟩ := hpre x hxpre
        rw [Option.some.inj (hfx.symm.trans hfy)] at hflow
        exact hflow.symm.trans hflow'
    loose := fun x hx => ⟨f, hpre x hx⟩
    looseNodup := hnodupPre
    head := fun c x hc hx => by
      rw [hchain] at hx
      split at hx
      · next hcf => exact hhead (by simpa [hcf] using hc) x hx
      · next hcf => exact h.head c x (ho c hcf) hx
    lines := {
      queueNodup := h.lines.queueNodup
      engines := h.lines.engines
      forwardNodup := h.lines.forwardNodup
      length := fun c => by
        rw [hchain]
        split
        · have := h.lines.length f
          rw [hch, List.length_append] at this
          omega
        · exact h.lines.length c
      chainInOrder := fun c => by
        rw [hchain]
        split
        · have := h.lines.chainInOrder f
          rw [hch] at this
          exact (List.pairwise_append.mp this).2.1
        · exact h.lines.chainInOrder c
      queueInOrder := h.lines.queueInOrder
      line := fun hb c => by
        rw [hline]
        exact h.lines.line hb c } }

/-! ### One frame after another -/

/-- A HELD frame, or one with no more to do, stands in no location and leaves as it is. -/
theorem State.Quits.refl (hd : s.desc? d = some fr) (hqueue : d ∉ s.locator.queue)
    (hengines : ∀ e, s.engineDesc e ≠ some d) (hsending : s.sending ≠ some (.forward d)) : s.Quits s d fr fr where
  before := hd
  after := hd
  sameFrame := .refl fr
  stamp := rfl
  others _ _ := rfl
  free := ⟨rfl, rfl, rfl⟩
  next := rfl
  forward := rfl
  queue := (List.filter_eq_self.mpr fun x hx => by simpa using ne_of_mem_of_not_mem hx hqueue).symm
  runs e r := ⟨fun hr => ⟨hr, fun hrd => hengines e (by simp [State.engineDesc, hr, hrd])⟩, And.left⟩
  sending := .inl ⟨rfl, hsending⟩

theorem State.withdrawFromLocator_engineRun_iff (s : State) (d : DescId) (e : EngineId) (r : Run) :
    (s.withdrawFromLocator d).engineRun e = some r ↔ s.engineRun e = some r ∧ r.desc ≠ d := by
  rw [State.withdrawFromLocator_engineRun]
  cases hr : s.engineRun e with
  | none => simp
  | some run =>
    by_cases hd : run.desc = d
    · simp only [State.engineDesc, hr, Option.map_some, hd, if_true, reduceCtorEq, false_iff, Option.some.injEq]
      rintro ⟨rfl, hne⟩
      exact hne hd
    · simp only [State.engineDesc, hr, Option.map_some, Option.some.injEq, hd, if_false]
      constructor
      · rintro rfl
        exact ⟨rfl, hd⟩
      · exact And.left

/-- The pieces that a departure from the locator leaves as they were. -/
def quitPieces : List Piece := [.descriptors, .freeLists, .holdOut, .nextStamp, .forwardQueue, .transmitter]

theorem State.Quits.of_sameBut {l : List Piece} (h : s.SameBut t l) (hl : ∀ p ∈ quitPieces, p ∉ l)
    (hd : s.desc? d = some fr) (hqueue : t.locator.queue = s.locator.queue.filter (· ≠ d))
    (hruns : ∀ e r, t.engineRun e = some r ↔ s.engineRun e = some r ∧ r.desc ≠ d)
    (hsending : s.sending ≠ some (.forward d)) : s.Quits t d fr fr where
  before := hd
  after := (h.2 .descriptors (hl _ (by decide)) d).trans hd
  sameFrame := .refl fr
  stamp := rfl
  others x _ := h.2 .descriptors (hl _ (by decide)) x
  free := ⟨(h.2 .freeLists (hl _ (by decide))).1, (h.2 .freeLists (hl _ (by decide))).2, h.holdOut_eq (hl _ (by decide))⟩
  next := h.2 .nextStamp (hl _ (by decide))
  forward := h.forwardQueue_eq (hl _ (by decide))
  queue := hqueue
  runs := hruns
  sending := .inl ⟨congrArg (Option.map Transmission.source) (h.2 .transmitter (hl _ (by decide))), hsending⟩

/-- A frame with no chain, or that has left it, is resolved by its place (R96 to R99). -/
theorem State.Arranged.resolveMember {loose : List DescId} (h : s.Arranged ⟨slot, none, loose, o, b⟩)
    (hd : s.desc? d = some fr) (hwaits : fr.waits = true) (hchain : ∀ f, d ∉ s.chain f)
    (hfirst : ∀ f, s.inLineOf f d = true → (s.orderedOf f loose ++ s.chain f).head? = some d) :
    (s.resolveMember d).Arranged ⟨slot, none, loose.filter (· ≠ d), o, b⟩ := by
  have hoff {p : Place} (hp : fr.place ≠ p) := h.not_stands (by simp) hd hp
  have hplace : fr.place ≠ .receiving ∧ fr.place ≠ .forward ∧ fr.place ≠ .sending := by
    refine ⟨?_, ?_, ?_⟩ <;> intro hp <;> simp [Descriptor.waits, hp] at hwaits
  have bears {t : State} (hq : s.Quits t d fr fr) (ht : t.chain = s.chain) :
      t.Bears ⟨slot, some d, loose.filter (· ≠ d), o, b⟩ d fr false := by
    have hl : s.Leaves t d fr fr := ⟨hq, fun f => by
      rw [ht]
      exact (List.filter_eq_self.mpr fun x hx => by simpa using ne_of_mem_of_not_mem hx (hchain f)).symm⟩
    exact ⟨h.leave rfl hl ⟨hplace.1, hplace.2.1⟩ (fun f x hf hx => ⟨by rwa [← ht], hf⟩),
      h.leave_ranked rfl hl hplace.1 hfirst⟩
  have abandoned : (s.abandon d fr).Arranged ⟨slot, none, loose.filter (· ≠ d), o, b⟩ := by
    have hwithdrawn := bears (t := s.withdrawFromLocator d) (.of_sameBut (s.withdrawFromLocator_sameBut d)
      (by decide) hd rfl (s.withdrawFromLocator_engineRun_iff d) (hoff hplace.2.2)) rfl
    exact (((hwithdrawn.sameBut (State.countFlow_sameBut _ fr.flow .expired 1) (by decide)).sameBut
      (State.countFlow_sameBut _ fr.flow .codeFailed 1) (by decide)).sameBut (State.raise_sameBut _ .codeFailure)
      (by decide)).failedOr (fr₀ := fr) true
  cases hp : fr.place with
  | queued =>
    rw [s.resolveMember_located d fr hd (.inl hp)]
    exact abandoned
  | locating =>
    rw [s.resolveMember_located d fr hd (.inr hp)]
    exact abandoned
  | held =>
    rw [s.resolveMember_held d fr hd hp]
    exact (bears (.refl hd (hoff (p := .queued) (by simp [hp])) (fun e he => hoff (p := .locating) (by simp [hp]) ⟨e, he⟩)
      (hoff (p := .sending) (by simp [hp]))) rfl).toForward fun hnew => by simp at hnew
  | receiving => exact absurd hp hplace.1
  | forward => exact absurd hp hplace.2.1
  | sending => exact absurd hp hplace.2.2

theorem State.Chains.of_framesKept {c : Byte} (h : s.Chains x f) (hkept : s.FramesKept t) (ht : t.Chains x c) :
    t.Chains x f := by
  obtain ⟨fr', hfr', hordered, hwaits, hflow'⟩ := ht
  obtain ⟨fr, hfr, hsame⟩ := hkept x fr' hfr'
  obtain ⟨fr'', hfr'', -, -, hflow⟩ := h
  rw [Option.some.inj (hfr''.symm.trans hfr)] at hflow
  exact ⟨fr', hfr', hordered, hwaits, hsame.flow.trans hflow⟩

/-- The members that have left a chain are resolved in its order. -/
theorem State.Arranged.resolveMembers {l : List DescId} (h : s.Arranged ⟨slot, none, l, o, b⟩)
    (hl : ∀ x ∈ l, s.Chains x f) : (l.foldl State.resolveMember s).Arranged ⟨slot, none, [], o, b⟩ := by
  induction l generalizing s with
  | nil => exact h
  | cons d l ih =>
    obtain ⟨fr, hd, -, hwaits, -⟩ := hl d List.mem_cons_self
    obtain ⟨hdl, -⟩ := List.nodup_cons.mp h.looseNodup
    have hrest : (d :: l).filter (· ≠ d) = l := by
      rw [List.filter_cons_of_neg (by simp)]
      exact List.filter_eq_self.mpr fun x hx => by simpa using ne_of_mem_of_not_mem hx hdl
    have hresolved := h.resolveMember hd hwaits
      (fun f hf => ((h.chained f d (by simp)).mp hf).1 List.mem_cons_self) fun c hc => by
        rw [State.orderedOf_eq, List.filter_cons_of_pos hc]
        rfl
    rw [hrest] at hresolved
    refine ih hresolved fun x hx => ?_
    obtain ⟨c, hc⟩ := hresolved.loose x hx
    exact (hl x (List.mem_cons_of_mem _ hx)).of_framesKept (s.resolveMember_framesKept d) hc

/-! ### Release through a chain (R93) -/

theorem State.allToForward_setChain (l m : List DescId) (s : State) (f : Byte) :
    (s.allToForward l).setChain f m = (s.setChain f m).allToForward l := by
  induction l generalizing s with
  | nil => rfl
  | cons d l ih => exact ih (s.toForward d)

theorem State.allToForward_eq_resolved {l : List DescId} (hnodup : l.Nodup) (hheld : ∀ x ∈ l, s.isHeld x = true) :
    s.allToForward l = l.foldl State.resolveMember s := by
  induction l generalizing s with
  | nil => rfl
  | cons d l ih =>
    obtain ⟨hd, hl⟩ := List.forall_mem_cons.mp hheld
    obtain ⟨hdl, hnodup⟩ := List.nodup_cons.mp hnodup
    obtain ⟨fr, hfr, hplace⟩ := (s.isHeld_iff d).mp hd
    rw [List.foldl_cons, s.resolveMember_held d fr hfr hplace, ← ih hnodup]
    · rfl
    · exact fun x hx => (State.isHeld_of_desc (s.toForward_others d x (ne_of_mem_of_not_mem hx hdl))).trans (hl x hx)

/-- Release goes on past the head of a chain that has gone. -/
theorem State.Arranged.releaseOnward (h : s.Arranged ⟨slot, none, [], some f, b⟩) :
    (s.releaseOnward f).Arranged (.rest slot b) := by
  have hch : s.chain f = (s.chain f).takeWhile s.isHeld ++ (s.chain f).dropWhile s.isHeld :=
    List.takeWhile_append_dropWhile.symm
  have hchains (x : DescId) (hx : x ∈ s.chain f) : s.Chains x f := ((h.chained f x (by simp)).mp hx).2
  have hloosened := h.unchain (o' := none) hch (fun c hc => by simpa using Ne.symm hc) fun _ x hx => by
    obtain ⟨fx, hfx, -, hwaits, -⟩ := hchains x ((List.dropWhile_sublist _).mem (List.mem_of_head? hx))
    have hheld : s.isHeld x = false := by
      have := List.head?_dropWhile_not s.isHeld (s.chain f)
      rwa [hx] at this
    rw [s.isHeld_eq x fx hfx, decide_eq_false_iff_not] at hheld
    obtain (hp | hp) | hp := fx.waits_iff.mp hwaits
    · exact .inl ⟨fx, hfx, hp⟩
    · exact .inr ⟨fx, hfx, hp⟩
    · exact absurd hp hheld
  unfold State.releaseOnward
  dsimp only
  rw [State.allToForward_setChain, State.allToForward_eq_resolved (h.lines.chain_nodup f |>.sublist
    (List.takeWhile_sublist _)) fun x hx => ?_]
  · exact hloosened.resolveMembers (f := f) fun x hx => hchains x ((List.takeWhile_sublist _).mem hx)
  · exact List.mem_takeWhile_imp hx

/-! ### Expiry (R96, R98) -/

theorem State.Arranged.giveHeadTo (h : s.Arranged g) (first : Option EngineId) : (s.giveHeadTo first).Arranged g :=
  h.same ⟨rfl, s.giveHeadTo_engineRun first, rfl, rfl, fun _ => rfl, le_rfl⟩ (fun _ => rfl)
    (h.store.of_same rfl rfl rfl fun _ => rfl)

theorem State.Arranged.expireFrame (h : s.Arranged (.rest slot b)) (hd : s.desc? d = some fr)
    (hdue : fr.deadline.isSome = true) : (s.expireFrame d fr).Arranged (.rest slot b) := by
  have hwaits : fr.waits = true := (h.fits d fr (by simp [Stage.rest]) hd).deadline.mp hdue
  unfold State.expireFrame
  dsimp only
  split
  · next hmem =>
    have hchains (x : DescId) (hx : x ∈ upTo (s.chain fr.flow) d) : s.Chains x fr.flow := by
      have hx := List.mem_append_left (behind (s.chain fr.flow) d) hx
      rw [upTo_append_behind hmem] at hx
      exact ((h.chained fr.flow x (by simp [Stage.rest])).mp hx).2
    have hloosened := h.unchain (o' := some fr.flow) (upTo_append_behind hmem).symm (by simp)
      (fun hne => absurd rfl hne)
    exact (((hloosened.resolveMembers hchains).giveHeadTo _).releaseOnward).sameBut (State.raise_sameBut _ _)
      (by decide)
  · next hmem =>
    have hordered (f : Byte) (hf : s.inLineOf f d = true) : d ∈ s.chain fr.flow := by
      obtain ⟨hordered, -⟩ := (State.inLineOf_iff hd).mp hf
      exact (h.chained fr.flow d (by simp [Stage.rest])).mpr ⟨List.not_mem_nil, fr, hd, hordered, hwaits, rfl⟩
    have hchain (f : Byte) : d ∉ s.chain f := fun hf => by
      obtain ⟨-, fr', hd', hordered', -, hflow⟩ := (h.chained f d (by simp [Stage.rest])).mp hf
      exact hmem (hordered f ((State.inLineOf_iff hd).mpr
        (Option.some.inj (hd'.symm.trans hd) ▸ ⟨hordered', hflow⟩)))
    exact ((h.resolveMember hd hwaits hchain fun f hf => absurd (hordered f hf) hmem).giveHeadTo none).sameBut
      (State.raise_sameBut _ _) (by decide)

end Sys2Proof.Machine
end

section
/-! The completion of a locator run, pickup, and the transmitter: where their frames go. -/

namespace Sys2Proof.Machine

variable {s t u v w : State} {d x : DescId} {fr fr' : Descriptor} {g : Stage} {f : Byte} {b : Bool}
  {slot : Option (DescId × Descriptor)} {e : EngineId} {r : Run}

/-! ### A frame handed back (R91, R93, R94) -/

theorem State.filter_chain_eq (h : d ∉ s.chain f) : (s.chain f).filter (· ≠ d) = s.chain f :=
  List.filter_eq_self.mpr fun x hx => by simpa using ne_of_mem_of_not_mem hx h

theorem filter_ne_cons {l : List DescId} (h : (d :: l).Nodup) : (d :: l).filter (· ≠ d) = l := by
  rw [List.filter_cons_of_neg (by simp)]
  exact List.filter_eq_self.mpr fun x hx => by simpa using ne_of_mem_of_not_mem hx (List.nodup_cons.mp h).1

/-- Only the chains differ from a state in which the frame has left the locator. -/
theorem State.Quits.setChain {l : List DescId} (h : s.Quits t d fr fr') : s.Quits (t.setChain f l) d fr fr' :=
  { h with runs := fun e r => (by rw [State.setChain_engineRun]; exact h.runs e r) }

/-- The frame of an engine is in its own chain, or in none. -/
theorem State.Arranged.mem_chain_iff (h : s.Arranged (.rest slot b)) (hd : s.desc? d = some fr)
    (hwaits : fr.waits = true) : d ∈ s.chain f ↔ fr.isOrdered = true ∧ f = fr.flow := by
  rw [h.chained f d (by simp [Stage.rest]), State.chains_iff hd]
  constructor
  · rintro ⟨-, hordered, -, hflow⟩
    exact ⟨hordered, hflow.symm⟩
  · rintro ⟨hordered, rfl⟩
    exact ⟨List.not_mem_nil, hordered, hwaits, rfl⟩

theorem State.Arranged.handBack_alone (h : s.Arranged (.rest slot b)) (hplace : fr.place = .locating)
    (hq : s.Quits u d fr fr') (hchain : ∀ f, u.chain f = s.chain f) (hmem : d ∉ s.chain fr.flow) (failed : Bool) :
    (u.failedOr d fr failed (State.toForward · d)).Arranged (.rest slot b) := by
  have hwaits : fr.waits = true := by simp [Descriptor.waits, hplace]
  have hfree : fr.isOrdered = false := by simpa [h.mem_chain_iff hq.before hwaits] using hmem
  have hl : s.Leaves u d fr fr' := ⟨hq, fun f => by
    rw [hchain, State.filter_chain_eq (by simp [h.mem_chain_iff hq.before hwaits, hfree])]⟩
  have hbears : u.Bears ((Stage.rest slot b).leaving d none) d fr' false :=
    ⟨h.leave rfl hl (by simp [hplace]) fun f x _ hx => ⟨by rwa [← hchain], by simp [Stage.rest]⟩,
      h.leave_ranked rfl hl (by simp [hplace]) fun f hf => by simp [(State.inLineOf_iff hq.before).mp hf] at hfree⟩
  exact hbears.failedOr failed

theorem State.Arranged.handBack_head (h : s.Arranged (.rest slot b)) (hplace : fr.place = .locating)
    (hq : s.Quits u d fr fr') (hchain : ∀ f, u.chain f = s.chain f) (hhead : (s.chain fr.flow).head? = some d)
    (failed : Bool) :
    (((u.setChain fr.flow (s.chain fr.flow).tail).failedOr d fr failed (State.toForward · d)).releaseOnward
      fr.flow).Arranged (.rest slot b) := by
  have hwaits : fr.waits = true := by simp [Descriptor.waits, hplace]
  have hch := List.eq_cons_of_mem_head? hhead
  have hnodup := h.lines.chain_nodup fr.flow
  have hset (f : Byte) : (u.setChain fr.flow (s.chain fr.flow).tail).chain f =
      if f = fr.flow then (s.chain fr.flow).tail else s.chain f := by
    rw [State.setChain_chain, hchain]
  have hl : s.Leaves (u.setChain fr.flow (s.chain fr.flow).tail) d fr fr' := ⟨hq.setChain, fun f => by
    rw [hset]
    split
    · next hf =>
      rw [hf]
      conv_rhs => rw [hch]
      exact (filter_ne_cons (hch ▸ hnodup)).symm
    · next hf => rw [State.filter_chain_eq (by simp [h.mem_chain_iff hq.before hwaits, hf])]⟩
  have hbears : (u.setChain fr.flow (s.chain fr.flow).tail).Bears ((Stage.rest slot b).leaving d (some fr.flow)) d fr'
      false := by
    refine ⟨h.leave rfl hl (by simp [hplace]) fun f x hf hx => ⟨?_, by simp [Stage.rest]⟩,
      h.leave_ranked rfl hl (by simp [hplace]) fun f hf => ?_⟩
    · rw [hset, if_neg (by simpa using Ne.symm hf)] at hx
      exact hx
    · obtain ⟨-, hflow⟩ := (State.inLineOf_iff hq.before).mp hf
      rw [← hflow]
      exact hhead
  exact (hbears.failedOr failed).releaseOnward

theorem State.Arranged.handBack_removed (h : s.Arranged (.rest slot b)) (hplace : fr.place = .locating)
    (hq : s.Quits u d fr fr') (hchain : ∀ f, u.chain f = s.chain f) (hhead : (s.chain fr.flow).head? ≠ some d) :
    ((u.setChain fr.flow ((s.chain fr.flow).filter (· ≠ d))).releaseDropped d).Arranged (.rest slot b) := by
  have hwaits : fr.waits = true := by simp [Descriptor.waits, hplace]
  have hl : s.Leaves (u.setChain fr.flow ((s.chain fr.flow).filter (· ≠ d))) d fr fr' := ⟨hq.setChain, fun f => by
    rw [State.setChain_chain, hchain]
    split
    · next hf => rw [hf]
    · next hf => rw [State.filter_chain_eq (by simp [h.mem_chain_iff hq.before hwaits, hf])]⟩
  refine (h.leave rfl hl (by simp [hplace]) (opened := none) fun f x _ hx => ⟨?_, by simp [Stage.rest]⟩).releaseDropped
  rw [hl.chain] at hx
  cases hc : s.chain f with
  | nil => simp [hc] at hx
  | cons a l =>
    have had : a ≠ d := by
      rintro rfl
      have hmem : a ∈ s.chain f := by simp [hc]
      obtain ⟨-, rfl⟩ := (h.mem_chain_iff hq.before hwaits).mp hmem
      exact hhead (by simp [hc])
    simpa [hc, List.filter_cons_of_pos, had] using hx

/-- A member behind the head of its chain becomes HELD where it stands. -/
theorem State.Arranged.heldBehind (h : s.Arranged (.rest slot b)) (hplace : fr.place = .locating)
    (hq : s.Quits u d fr fr') (hheld : fr'.place = .held) (hdeadline : fr'.deadline = fr.deadline)
    (hchain : ∀ f, u.chain f = s.chain f) (hmem : d ∈ s.chain fr.flow) (hhead : (s.chain fr.flow).head? ≠ some d) :
    u.Arranged (.rest slot b) := by
  have hm (x : DescId) : (Stage.rest slot b).moving ≠ some x := by simp [Stage.rest]
  have hwaits : fr.waits = true := by simp [Descriptor.waits, hplace]
  have hordered : fr.isOrdered = true := ((h.mem_chain_iff hq.before hwaits).mp hmem).1
  have hordered' : fr'.isOrdered = true := hq.sameFrame.isOrdered.trans hordered
  have hfits := h.fits d fr (hm d) hq.before
  have hoff (p : Place) (hp : fr.place ≠ p) := h.not_stands (hm d) hq.before hp
  have hheadd (x : DescId) (f : Byte) (hf : (s.chain f).head? = some x) : x ≠ d := by
    rintro rfl
    obtain ⟨-, rfl⟩ := (h.mem_chain_iff hq.before hwaits).mp (List.mem_of_head? hf)
    exact hhead hf
  refine h.relocate d (fun x _ => ⟨hm x, hm x⟩)
    ⟨hq.others, fun x hx p => hq.stands slot hx p, fun e r _ he => ((hq.runs e r).mp he).1,
      fun f x _ => by rw [hchain], fun _ _ => Iff.rfl, hq.next.ge⟩
    (fun x fx hx => ?slot) List.not_mem_nil h.looseNodup (hq.storeInv h.store) (h.frames.of_framesKept hq.framesKept)
    (fun f x hf hx => ?head) ?lines (fun _ => ?own)
  case slot =>
    have hxd : x ≠ d := by
      rintro rfl
      exact hoff .receiving (by simp [hplace]) (by simp only [Stage.rest] at hx; simp [State.Stands, Stage.rest, hx])
    exact (hq.others x hxd).trans (h.slot x fx hx)
  case head =>
    rw [hchain] at hx
    simpa only [State.InPlace.of_desc (hq.others x (hheadd x f hx))] using h.head f x hf hx
  case lines =>
    exact h.lines.thin (fun x _ => hq.keyOf x) (hq.queue ▸ List.filter_sublist)
      (fun e x hx => ((hq.engineDesc e).mp hx).1) (hq.forward ▸ List.Sublist.refl _) hq.sendingDesc_sublist
      (fun f => hchain f ▸ List.Sublist.refl _) (List.Sublist.refl _)
  case own =>
    have hwaits' : fr'.waits = true := by simp [Descriptor.waits, hheld]
    refine .of_place hq.after ⟨?_, ?_, ?_, fun _ => hordered', fun _ => ?_, ?_⟩ (fun p hp => ?_)
      (fun e r he hrd => absurd hrd ((hq.runs e r).mp he).2) (fun f => ?_)
    · rw [hq.stamp, hfits.stampless, hplace, hheld]
      simp
    · rw [hq.stamp, hq.next]
      exact hfits.stamp
    · rw [hdeadline, hfits.deadline]
      exact iff_of_true hwaits hwaits'
    · exact (fr'.isOrdered_iff.mp hordered').1
    · simp [Descriptor.withLocator, hheld]
    · refine iff_of_false ?_ (by rw [hheld]; exact Ne.symm hp)
      cases p with
      | queued => simp [State.Stands, hq.queue]
      | locating => simp [State.Stands, hq.engineDesc]
      | held => exact absurd rfl hp
      | receiving => exact hoff .receiving (by simp [hplace])
      | forward =>
        have := hoff .forward (by simp [hplace])
        simpa [State.Stands, hq.forward] using this
      | sending =>
        exact fun hsending => (hq.mem_sendingDesc.mp ((u.mem_sendingDesc d).mpr hsending)).2 rfl
    · rw [hchain, h.mem_chain_iff hq.before hwaits, hq.sameFrame.isOrdered, hq.sameFrame.flow]
      exact ⟨fun ⟨ho, hf⟩ => ⟨ho, hwaits', hf.symm⟩, fun ⟨ho, _, hf⟩ => ⟨ho, hf.symm⟩⟩

theorem State.Quits.modDesc (h : s.Quits t d fr fr') {f : Descriptor → Descriptor}
    (hf : ∀ y : Descriptor, y.SameFrame (f y) ∧ (f y).stamp = y.stamp) : s.Quits (t.modDesc d f) d fr (f fr') :=
  { h with
    after := by rw [State.modDesc_desc?, if_pos rfl, h.after]; rfl
    sameFrame := h.sameFrame.trans (hf fr').1
    stamp := (hf fr').2.trans h.stamp
    others := h.others.trans (t.modDesc_others d f)
    runs := h.runs }

/-- The frame of an engine is handed back. -/
theorem State.Arranged.handBack (h : s.Arranged (.rest slot b)) (hplace : fr.place = .locating)
    (hq : s.Quits u d fr fr') (hdeadline : fr'.deadline = fr.deadline) (hchain : ∀ f, u.chain f = s.chain f)
    (failed : Bool) : (u.handBack d fr failed).Arranged (.rest slot b) := by
  have hwaiting {v : State} {y : Descriptor} (hv : s.Quits v d fr y) (hy : y.deadline = fr.deadline)
      (hvchain : ∀ f, v.chain f = s.chain f) (hmem : d ∈ s.chain fr.flow)
      (hhead : (s.chain fr.flow).head? ≠ some d) : (v.setPlace d .held).Arranged (.rest slot b) :=
    h.heldBehind hplace (hv.modDesc (f := fun z => { z with place := .held }) fun _ => ⟨⟨rfl, rfl, rfl, .inl rfl⟩, rfl⟩)
      rfl hy hvchain hmem hhead
  unfold State.handBack
  simp only [hchain]
  split
  · next hmem =>
    split
    · next hhead => exact h.handBack_head hplace hq hchain hhead failed
    · next hhead =>
      split
      · exact h.handBack_removed hplace hq hchain hhead
      · next hkept =>
        unfold State.failedOr
        split
        · next hfailed =>
          split
          · next hdrop => simp [hfailed, hdrop] at hkept
          · exact hwaiting (hq.modDesc (f := fun z => { z with header := withDamaged z.header })
              fun _ => ⟨⟨rfl, rfl, rfl, .inr rfl⟩, rfl⟩) hdeadline hchain hmem hhead
        · exact hwaiting hq hdeadline hchain hmem hhead
  · next hmem => exact h.handBack_alone hplace hq hchain hmem failed

end Sys2Proof.Machine
end

section
/-! The locator and the transmitter: completion, pickup, start and completion of a transmission. -/

namespace Sys2Proof.Machine

variable {s t u v w : State} {d x : DescId} {fr fr' : Descriptor} {g : Stage} {f : Byte} {b : Bool}
  {slot : Option (DescId × Descriptor)} {e : EngineId} {r : Run} {entries : List ErrorEntry}

/-! ### Completion of a locator run -/

theorem State.Arranged.locating (h : s.Arranged (.rest slot b)) (he : s.engineRun e = some r)
    (hd : s.desc? r.desc = some fr) : fr.place = .locating := by
  have hstands : s.Stands slot r.desc .locating := ⟨e, by simp [State.engineDesc, he]⟩
  exact (State.inPlace_iff_of_desc hd).mp ((h.located r.desc .locating (by simp [Stage.rest]) (by simp)).mp hstands)

/-- No other engine holds the frame of an engine. -/
theorem State.Lines.other_engine {loose : List DescId} {e' : EngineId} {r' : Run} (h : s.Lines loose b)
    (he : s.engineRun e = some r) (he' : s.engineRun e' = some r') (hne : e' ≠ e) : r'.desc ≠ r.desc := by
  intro hdesc
  have hd : s.engineDesc e = some r.desc := by simp [State.engineDesc, he]
  have hd' : s.engineDesc e' = some r.desc := by simp [State.engineDesc, he', hdesc]
  refine h.engines r.desc ?_
  cases e with
  | engine0 => cases e' with
    | engine0 => exact absurd rfl hne
    | engine1 => exact ⟨hd, hd'⟩
  | engine1 => cases e' with
    | engine0 => exact ⟨hd', hd⟩
    | engine1 => exact absurd rfl hne

/-- The frame of an engine that becomes IDLE leaves the locator. -/
theorem State.Arranged.quitEngine (h : s.Arranged (.rest slot b)) (he : s.engineRun e = some r)
    (hd : s.desc? r.desc = some fr) : s.Quits (s.setEngine e none) r.desc fr fr := by
  have hplace := h.locating he hd
  have hoff (p : Place) (hp : fr.place ≠ p) := h.not_stands (by simp [Stage.rest]) hd hp
  refine .of_sameBut (s.setEngine_sameBut e none) (by decide) hd ?_ (fun e' r' => ?_)
    (hoff .sending (by simp [hplace]))
  · have hqueue : r.desc ∉ s.locator.queue := hoff .queued (by simp [hplace])
    rw [State.setEngine_locator_queue]
    exact (List.filter_eq_self.mpr fun x hx => by simpa using ne_of_mem_of_not_mem hx hqueue).symm
  · rw [State.setEngine_engineRun]
    split
    · next hee =>
      rw [hee, he]
      simp only [reduceCtorEq, Option.some.injEq, false_iff, not_and_not_right]
      exact fun hr => hr ▸ rfl
    · next hee => exact ⟨fun he' => ⟨he', h.lines.other_engine he he' hee⟩, And.left⟩

theorem State.Quits.after_sameBut {l : List Piece} (h : s.Quits t d fr fr') (ht : t.SameBut u l)
    (hl : ∀ p ∈ quitPieces, p ∉ l) (hloc : .locator ∉ l) : s.Quits u d fr fr' where
  before := h.before
  after := (ht.2 .descriptors (hl _ (by decide)) d).trans h.after
  sameFrame := h.sameFrame
  stamp := h.stamp
  others x hx := (ht.2 .descriptors (hl _ (by decide)) x).trans (h.others x hx)
  free := by
    obtain ⟨hcells, hdescs⟩ := ht.2 .freeLists (hl _ (by decide))
    obtain ⟨hcells', hdescs', hout⟩ := h.free
    exact ⟨hcells.trans hcells', hdescs.trans hdescs', (ht.holdOut_eq (hl _ (by decide))).trans hout⟩
  next := Eq.trans (ht.2 .nextStamp (hl _ (by decide))) h.next
  forward := (ht.forwardQueue_eq (hl _ (by decide))).trans h.forward
  queue := (congrArg Locator.queue (ht.2 .locator hloc)).trans h.queue
  runs e r := by rw [ht.engineRun_eq hloc]; exact h.runs e r
  sending := by
    have hsending : u.sending = t.sending :=
      congrArg (Option.map Transmission.source) (ht.2 .transmitter (hl _ (by decide)))
    rw [hsending]
    exact h.sending

/-- The run of an engine ends with a list (R75). -/
theorem State.Arranged.completedWithList (h : s.Arranged (.rest slot b)) (he : s.engineRun e = some r)
    (hd : s.desc? r.desc = some fr) :
    ((s.listApplied e r fr entries).handBack r.desc fr false).Arranged (.rest slot b) := by
  have hrecorded := (h.quitEngine he hd).modDesc (f := fun y => { y with correction := some entries })
    fun _ => ⟨⟨rfl, rfl, rfl, .inl rfl⟩, rfl⟩
  have hcommutes : ((s.setEngine e none).modDesc r.desc fun y => { y with correction := some entries }).SameBut
      (s.listApplied e r fr entries) [.clock, .cells, .flowCounters] := by
    cases e <;> exact (((((State.advanceTo_sameBut _ _)).trans (State.putMemory_sameBut _ _)).trans
      (State.countFlow_sameBut _ _ _ _)).trans (State.countFlow_sameBut _ _ _ _)).mono (by decide)
  exact h.handBack (h.locating he hd) (hrecorded.after_sameBut hcommutes (by decide) (by decide)) rfl
    (fun f => (s.listApplied_sameBut e r fr entries).2 .chains (by decide) f) false

/-- The run of an engine FAILED (R76). -/
theorem State.Arranged.completedFailed (h : s.Arranged (.rest slot b)) (he : s.engineRun e = some r)
    (hd : s.desc? r.desc = some fr) :
    ((s.failureRaised e r fr).handBack r.desc fr true).Arranged (.rest slot b) := by
  have hfailed : s.SameBut (((s.advanceTo r.failedTime).countFlow fr.flow .codeFailed 1).raise .codeFailure)
      [.clock, .flowCounters, .events] :=
    ((s.advanceTo_sameBut _).trans (State.countFlow_sameBut _ _ _ _)).trans (State.raise_sameBut _ _)
  have h' := h.sameBut hfailed (by decide)
  have he' := (hfailed.engineRun_eq (by decide) e).trans he
  have hd' := (hfailed.2 .descriptors (by decide) r.desc).trans hd
  exact h'.handBack (h.locating he hd) (h'.quitEngine he' hd') rfl
    ((State.setEngine_sameBut _ e none).2 .chains (by decide)) true

end Sys2Proof.Machine
end

section
/-! Pickup and the start of a forwarded frame: the head of a queue goes to an engine, or to the transmitter. -/

namespace Sys2Proof.Machine

variable {s t : State} {d x : DescId} {fr : Descriptor} {f : Byte} {b : Bool} {p : Place} {rest : List DescId}
  {slot : Option (DescId × Descriptor)} {e : EngineId}

/-! ### The head of a queue goes on -/

/-- The second state is the first with one frame, the head of its queue, in the place that follows it. -/
structure State.Shifts (s t : State) (slot : Option (DescId × Descriptor)) (d : DescId) (fr : Descriptor)
    (p : Place) : Prop where
  before : s.desc? d = some fr
  after : ∀ x, t.desc? x = if x = d then some { fr with place := p } else s.desc? x
  same : s.SameBut t [.descriptors, .locator, .forwardQueue, .transmitter, .permission]
  places : fr.place = .queued ∧ p = .locating ∨ fr.place = .forward ∧ p = .sending
  stands : ∀ x, x ≠ d → ∀ q, t.Stands slot x q ↔ s.Stands slot x q
  own : ∀ q, q ≠ .held → (t.Stands slot d q ↔ p = q)
  runs : ∀ e r, r.desc ≠ d → t.engineRun e = some r → s.engineRun e = some r
  serves : ∀ e r, r.desc = d → t.engineRun e = some r → r.Serves { fr with place := p }

theorem State.Shifts.chain (h : s.Shifts t slot d fr p) : ∀ f, t.chain f = s.chain f := h.same.2 .chains (by decide)

theorem State.Shifts.others (h : s.Shifts t slot d fr p) : s.OtherDescs t d := fun x hx => by rw [h.after, if_neg hx]

theorem State.Shifts.keyOf (h : s.Shifts t slot d fr p) (x : DescId) : t.keyOf x = s.keyOf x := by
  simp only [State.keyOf, h.after]
  split
  · next hx => rw [hx, h.before]; rfl
  · rfl

theorem State.Shifts.framesKept (h : s.Shifts t slot d fr p) : s.FramesKept t := fun x fx hx => by
  rw [h.after] at hx
  split at hx
  · next hxd => exact ⟨fr, hxd ▸ h.before, Option.some.inj hx ▸ ⟨rfl, rfl, rfl, .inl rfl⟩⟩
  · exact ⟨fx, hx, .refl fx⟩

theorem State.Shifts.storeInv (h : s.Shifts t slot d fr p) (hs : s.StoreInv) : t.StoreInv := by
  obtain ⟨hcells, hdescs⟩ := h.same.2 .freeLists (by decide)
  refine hs.of_same hcells hdescs (h.same.holdOut_eq (by decide)) fun x => ?_
  rw [h.after]
  split
  · next hx => rw [hx, h.before]; rfl
  · rfl

theorem State.Shifts.waits (h : s.Shifts t slot d fr p) : ({ fr with place := p } : Descriptor).waits = fr.waits := by
  obtain ⟨hplace, rfl⟩ | ⟨hplace, rfl⟩ := h.places <;> simp [Descriptor.waits, hplace]

theorem State.Shifts.fits (h : s.Shifts t slot d fr p) {n : Nat} (hfits : fr.Fits n) :
    ({ fr with place := p } : Descriptor).Fits n where
  stampless := by
    refine hfits.stampless.trans (iff_of_false ?_ ?_) <;>
      obtain ⟨hplace, rfl⟩ | ⟨hplace, rfl⟩ := h.places <;> simp [hplace]
  stamp := hfits.stamp
  deadline := h.waits ▸ hfits.deadline
  held hheld := by obtain ⟨-, rfl⟩ | ⟨-, rfl⟩ := h.places <;> cases hheld
  data hw := hfits.data (h.waits ▸ hw)
  syndromes hwith := by
    refine hfits.syndromes ?_
    obtain ⟨hplace, -⟩ | ⟨-, rfl⟩ := h.places
    · exact .inl hplace
    · simp [Descriptor.withLocator] at hwith

/-- The lists but for the two queues and the engines keep their order. -/
theorem State.Shifts.lines (h : s.Shifts t slot d fr p) (hs : s.Lines [] b) (hqueue : t.locator.queue.Nodup)
    (hengines : ∀ x, ¬(t.engineDesc .engine0 = some x ∧ t.engineDesc .engine1 = some x))
    (hforward : t.egress.forwardQueue.Nodup)
    (hsub : t.locator.queue.Sublist s.locator.queue)
    (hline : t.sendingDesc ++ t.egress.forwardQueue = s.sendingDesc ++ s.egress.forwardQueue) : t.Lines [] b where
  queueNodup := hqueue
  engines := hengines
  forwardNodup := hforward
  length f := by rw [h.chain]; exact hs.length f
  chainInOrder f := pairwise_stampOf_of_keys (fun x _ => h.keyOf x) (by rw [h.chain]; exact hs.chainInOrder f)
  queueInOrder := pairwise_stampOf_of_keys (fun x _ => h.keyOf x) (hs.queueInOrder.sublist hsub)
  line hb f := pairwise_stampOf_of_keys (fun x _ => h.keyOf x) (by
    rw [State.lineOf, State.orderedOf_of_keys (s := s) (fun x _ => h.keyOf x),
      State.orderedOf_of_keys (s := s) (fun x _ => h.keyOf x), hline, h.chain]
    exact hs.line hb f)

theorem State.Arranged.shift (h : s.Arranged (.rest slot b)) (hs : s.Shifts t slot d fr p) (hlines : t.Lines [] b) :
    t.Arranged (.rest slot b) := by
  have hm (x : DescId) : (Stage.rest slot b).moving ≠ some x := by simp [Stage.rest]
  have hoff (q : Place) (hq : fr.place ≠ q) := h.not_stands (hm d) hs.before hq
  refine h.relocate d (fun x _ => ⟨hm x, hm x⟩) ⟨hs.others, hs.stands, hs.runs,
      fun f x _ => by rw [hs.chain], fun _ _ => Iff.rfl, (hs.same.2 .nextStamp (by decide)).ge⟩
    (fun x fx hx => ?slot) List.not_mem_nil h.looseNodup (hs.storeInv h.store) (h.frames.of_framesKept hs.framesKept)
    (fun f x hf hx => ?head) hlines (fun _ => ?own)
  case slot =>
    have hxd : x ≠ d := by
      rintro rfl
      refine hoff .receiving ?_ (by simp only [Stage.rest] at hx; simp [State.Stands, Stage.rest, hx])
      obtain ⟨hplace, -⟩ | ⟨hplace, -⟩ := hs.places <;> simp [hplace]
    exact (hs.others x hxd).trans (h.slot x fx hx)
  case head =>
    rw [hs.chain] at hx
    have hin := h.head f x hf hx
    by_cases hxd : x = d
    · subst hxd
      rw [State.inPlace_iff_of_desc hs.before, State.inPlace_iff_of_desc hs.before] at hin
      obtain ⟨-, rfl⟩ | ⟨hplace, -⟩ := hs.places
      · exact .inr ⟨_, (hs.after x).trans (if_pos rfl), rfl⟩
      · simp [hplace] at hin
    · simpa only [State.InPlace.of_desc (hs.others x hxd)] using hin
  case own =>
    have hnext : t.order.nextStamp = s.order.nextStamp := hs.same.2 .nextStamp (by decide)
    refine .of_place ((hs.after d).trans (if_pos rfl)) (hnext ▸ hs.fits (h.fits d fr (hm d) hs.before)) hs.own
      (fun e r he hr => hs.serves e r hr he) fun f => ?_
    rw [hs.chain, h.chained f d (hm d), State.chains_iff hs.before, hs.waits]
    exact ⟨And.right, fun hc => ⟨List.not_mem_nil, hc⟩⟩

/-! ### Pickup (R72) -/

/-- The part after a pickup. -/
def State.pickedUp (s : State) (e : EngineId) (d : DescId) (rest : List DescId) (fr : Descriptor) : State :=
  (({ s with locator := { s.locator with queue := rest, firstFreed := none } } : State).setPlace d
    .locating).setEngine e (some (startRun d fr s.now))

theorem State.pickedUp_desc? (rest : List DescId) (hd : s.desc? d = some fr) (x : DescId) :
    (s.pickedUp e d rest fr).desc? x = if x = d then some { fr with place := .locating } else s.desc? x := by
  rw [State.pickedUp, State.setEngine_desc?, State.setPlace_desc?]
  split
  · exact congrArg (Option.map _) hd
  · rfl

theorem State.pickedUp_engineRun (s : State) (rest : List DescId) (fr : Descriptor) (x : EngineId) :
    (s.pickedUp e d rest fr).engineRun x = if x = e then some (startRun d fr s.now) else s.engineRun x := by
  rw [State.pickedUp, State.setEngine_engineRun]
  rfl

theorem State.pickedUp_queue (s : State) (rest : List DescId) (fr : Descriptor) :
    (s.pickedUp e d rest fr).locator.queue = rest := by
  rw [State.pickedUp, State.setEngine_locator_queue]
  rfl

theorem State.pickedUp_sameBut (s : State) (rest : List DescId) (fr : Descriptor) :
    s.SameBut (s.pickedUp e d rest fr) [.locator, .descriptors] :=
  ((s.locator_sameBut _).trans ((State.setPlace_sameBut _ d _).trans (State.setEngine_sameBut _ e _))).mono (by decide)

theorem State.pickedUp_engineDesc (rest : List DescId) (fr : Descriptor) (he : s.engineRun e = none) (hx : x ≠ d)
    (e' : EngineId) : (s.pickedUp e d rest fr).engineDesc e' = some x ↔ s.engineDesc e' = some x := by
  simp only [State.engineDesc, State.pickedUp_engineRun]
  split
  · next hee => simp [hee, he, startRun, Ne.symm hx]
  · rfl

theorem State.Arranged.pickedUp_shifts (h : s.Arranged (.rest slot b)) (he : s.engineRun e = none)
    (hqueue : s.locator.queue = d :: rest) (hd : s.desc? d = some fr) :
    s.Shifts (s.pickedUp e d rest fr) slot d fr .locating := by
  have hplace : fr.place = .queued := (State.inPlace_iff_of_desc hd).mp
    ((h.located d .queued (by simp [Stage.rest]) (by simp)).mp (by simp [State.Stands, hqueue]))
  have hsame := s.pickedUp_sameBut (e := e) (d := d) rest fr
  have hforward : (s.pickedUp e d rest fr).egress.forwardQueue = s.egress.forwardQueue := hsame.2 .forwardQueue (by decide)
  have hsending : (s.pickedUp e d rest fr).sending = s.sending :=
    congrArg (Option.map Transmission.source) (hsame.2 .transmitter (by decide))
  have hoff (q : Place) (hq : fr.place ≠ q) := h.not_stands (by simp [Stage.rest]) hd hq
  refine ⟨hd, State.pickedUp_desc? rest hd, hsame.mono (by decide), .inl ⟨hplace, rfl⟩, fun x hx q => ?_,
    fun q hq => ?_, fun e' r hr he' => ?_, fun e' r hr he' => ?_⟩
  · cases q with
    | receiving | held => exact Iff.rfl
    | queued => simp [State.Stands, State.pickedUp_queue, hqueue, hx]
    | locating => simp only [State.Stands, State.pickedUp_engineDesc rest fr he hx]
    | forward => simp only [State.Stands, hforward]
    | sending => simp only [State.Stands, hsending]
  · cases q with
    | held => exact absurd rfl hq
    | locating =>
      exact iff_of_true ⟨e, by simp [State.engineDesc, State.pickedUp_engineRun, startRun]⟩ rfl
    | queued =>
      refine iff_of_false ?_ (by simp)
      rw [State.Stands, State.pickedUp_queue]
      exact (List.nodup_cons.mp (hqueue ▸ h.lines.queueNodup)).1
    | receiving => exact iff_of_false (hoff .receiving (by simp [hplace])) (by simp)
    | forward =>
      rw [State.Stands, hforward]
      exact iff_of_false (hoff .forward (by simp [hplace])) (by simp)
    | sending =>
      rw [State.Stands, hsending]
      exact iff_of_false (hoff .sending (by simp [hplace])) (by simp)
  · rw [State.pickedUp_engineRun] at he'
    split at he'
    · exact absurd (congrArg Run.desc (Option.some.inj he')).symm hr
    · exact he'
  · rw [State.pickedUp_engineRun] at he'
    split at he'
    · obtain rfl := Option.some.inj he'
      have hsyndromes := (h.fits d fr (by simp [Stage.rest]) hd).syndromes (.inl hplace)
      obtain ⟨syndromes, hsome⟩ := Option.isSome_iff_exists.mp hsyndromes
      exact ⟨by simp [startRun, hsome], rfl, rfl⟩
    · exact absurd ⟨e', by simp [State.engineDesc, he', hr]⟩ (hoff .locating (by simp [hplace]))

theorem State.Arranged.pickedUp (h : s.Arranged (.rest slot b)) (he : s.engineRun e = none)
    (hqueue : s.locator.queue = d :: rest) (hd : s.desc? d = some fr) :
    (s.pickedUp e d rest fr).Arranged (.rest slot b) := by
  have hs := h.pickedUp_shifts he hqueue hd
  have hnodup : (d :: rest).Nodup := hqueue ▸ h.lines.queueNodup
  have hnone : s.engineDesc e = none := by simp [State.engineDesc, he]
  have hforward : (s.pickedUp e d rest fr).egress.forwardQueue = s.egress.forwardQueue :=
    (s.pickedUp_sameBut rest fr).2 .forwardQueue (by decide)
  have hsending : (s.pickedUp e d rest fr).sending = s.sending :=
    congrArg (Option.map Transmission.source) ((s.pickedUp_sameBut rest fr).2 .transmitter (by decide))
  refine h.shift hs (hs.lines h.lines ?_ (fun x => ?_) ?_ ?_ ?_)
  · rw [State.pickedUp_queue]
    exact (List.nodup_cons.mp hnodup).2
  · by_cases hx : x = d
    · subst hx
      have hoff (e' : EngineId) : s.engineDesc e' ≠ some x := fun he' => by
        have hplace := (h.located x .locating (by simp [Stage.rest]) (by simp)).mp ⟨e', he'⟩
        rw [State.inPlace_iff_of_desc hd] at hplace
        obtain ⟨hq, -⟩ | ⟨hq, -⟩ := hs.places <;> simp [hq] at hplace
      have hother (e' : EngineId) (he' : e' ≠ e) : (s.pickedUp e x rest fr).engineDesc e' ≠ some x := by
        rw [State.engineDesc, State.pickedUp_engineRun, if_neg he']
        exact hoff e'
      cases e with
      | engine0 => exact fun hboth => hother .engine1 (by simp) hboth.2
      | engine1 => exact fun hboth => hother .engine0 (by simp) hboth.1
    · rw [State.pickedUp_engineDesc rest fr he hx, State.pickedUp_engineDesc rest fr he hx]
      exact h.lines.engines x
  · rw [hforward]
    exact h.lines.forwardNodup
  · rw [State.pickedUp_queue, hqueue]
    exact List.sublist_cons_self d rest
  · rw [hforward, State.sendingDesc, hsending, State.sendingDesc]

/-! ### The start of a forwarded frame (R109) -/

theorem State.startForward_forwardQueue (s : State) (d : DescId) (fr : Descriptor) :
    (s.startForward d fr).egress.forwardQueue = s.egress.forwardQueue.tail := rfl

theorem State.startForward_sending (s : State) (d : DescId) (fr : Descriptor) :
    (s.startForward d fr).sending = some (.forward d) := rfl

theorem State.startForward_engineRun (s : State) (d : DescId) (fr : Descriptor) (e : EngineId) :
    (s.startForward d fr).engineRun e = s.engineRun e := rfl

theorem State.Arranged.startForward (h : s.Arranged (.rest slot b)) (hidle : s.egress.transmitter = none)
    (hqueue : s.egress.forwardQueue = d :: rest) (hd : s.desc? d = some fr) :
    (s.startForward d fr).Arranged (.rest slot b) := by
  have hplace : fr.place = .forward := (State.inPlace_iff_of_desc hd).mp
    ((h.located d .forward (by simp [Stage.rest]) (by simp)).mp (by simp [State.Stands, hqueue]))
  have hnodup : (d :: rest).Nodup := hqueue ▸ h.lines.forwardNodup
  have hoff (q : Place) (hq : fr.place ≠ q) := h.not_stands (by simp [Stage.rest]) hd hq
  have hnone : s.sending = none := by simp [State.sending, hidle]
  have hs : s.Shifts (s.startForward d fr) slot d fr .sending := by
    refine ⟨hd, fun x => ?_, (s.startForward_sameBut d fr).mono (by decide), .inr ⟨hplace, rfl⟩, fun x hx q => ?_,
      fun q hq => ?_, fun _ _ _ he => he, fun e r hr he => ?_⟩
    · rw [State.startForward_desc?, hd]
      rfl
    · cases q with
      | receiving | held | queued | locating => exact Iff.rfl
      | forward => simp [State.Stands, State.startForward_forwardQueue, hqueue, hx]
      | sending => simp [State.Stands, State.startForward_sending, hnone, Ne.symm hx]
    · cases q with
      | held => exact absurd rfl hq
      | sending => exact iff_of_true rfl rfl
      | forward =>
        refine iff_of_false ?_ (by simp)
        rw [State.Stands, State.startForward_forwardQueue, hqueue]
        exact (List.nodup_cons.mp hnodup).1
      | receiving => exact iff_of_false (hoff .receiving (by simp [hplace])) (by simp)
      | queued => exact iff_of_false (hoff .queued (by simp [hplace])) (by simp)
      | locating => exact iff_of_false (hoff .locating (by simp [hplace])) (by simp)
    · rw [State.startForward_engineRun] at he
      exact absurd ⟨e, by simp [State.engineDesc, he, hr]⟩ (hoff .locating (by simp [hplace]))
  refine h.shift hs (hs.lines h.lines h.lines.queueNodup h.lines.engines ?_ (List.Sublist.refl _) ?_)
  · rw [State.startForward_forwardQueue, hqueue]
    exact (List.nodup_cons.mp hnodup).2
  · rw [State.startForward_forwardQueue, hqueue, State.sendingDesc, State.startForward_sending, State.sendingDesc,
      hnone]
    rfl

end Sys2Proof.Machine
end

section
/-! The transmitter, the receive slot and the resets: where their frames go. -/

namespace Sys2Proof.Machine

variable {s t u v : State} {d x : DescId} {fr fr' : Descriptor} {g : Stage} {f : Byte} {b : Bool} {h : HeaderBytes}
  {slot : Option (DescId × Descriptor)} {role : Role} {tx : Transmission} {rest : List DescId} {l : List Piece}

/-! ### The transmitter (R106, R109) -/

/-- The transmitter takes up, or gives up, a frame of another source than the forward queue. -/
theorem State.Arranged.transmits (ha : s.Arranged g) (hs : s.SameBut t l)
    (hl : ∀ p ∈ framePlaces, p ≠ .transmitter → p ∉ l) (hsending : t.sendingDesc = s.sendingDesc) : t.Arranged g := by
  obtain ⟨hcells, hdescs⟩ := hs.2 .freeLists (hl _ (by decide) (by decide))
  have hdesc : ∀ x, t.desc? x = s.desc? x := hs.2 .descriptors (hl _ (by decide) (by decide))
  refine ha.same ⟨congrArg Locator.queue (hs.2 .locator (hl _ (by decide) (by decide))),
    hs.engineRun_eq (hl _ (by decide) (by decide)), hs.2 .forwardQueue (hl _ (by decide) (by decide)), hsending,
    hs.2 .chains (hl _ (by decide) (by decide)), (hs.2 .nextStamp (hl _ (by decide) (by decide))).ge⟩ hdesc
    (ha.store.of_same hcells hdescs (hs.holdOut_eq (hl _ (by decide) (by decide))) fun x => by rw [hdesc])

theorem State.sendingDesc_nil (hs : ∀ d, s.sending ≠ some (.forward d)) : s.sendingDesc = [] :=
  List.eq_nil_iff_forall_not_mem.mpr fun d => by rw [State.mem_sendingDesc]; exact hs d

theorem State.SameLists.of_releaseSent (s : State) (d : DescId) : s.SameLists (s.releaseSent d) where
  queue := by simp
  engines e := by simp
  forward := by simp
  sendingDesc := State.sendingDesc_of_transmitter (by simp)
  chain f := by simp
  next := by simp

/-- The frame being sent leaves the transmitter, and its descriptor is freed (R106). -/
theorem State.Arranged.completeForward (ha : s.Arranged (.rest slot b)) (n : Nat) (hsending : s.sending = some (.forward d))
    (hd : s.desc? d = some fr) :
    ((s.advanceTo n).idleTransmitter.completeForward d fr).Arranged (.rest slot b) := by
  have hm : (Stage.rest slot b).moving ≠ some d := by simp [Stage.rest]
  have hplace : fr.place = .sending :=
    (State.inPlace_iff_of_desc hd).mp ((ha.located d .sending hm (by simp)).mp hsending)
  have hoff (p : Place) (hp : fr.place ≠ p) := ha.not_stands hm hd hp
  have hqueue : d ∉ s.locator.queue := hoff .queued (by simp [hplace])
  have hl : s.Leaves (s.advanceTo n).idleTransmitter d fr fr := by
    refine ⟨⟨hd, hd, .refl fr, rfl, fun _ _ => rfl, ⟨rfl, rfl, rfl⟩, rfl, rfl, ?_, fun e r => ?_, .inr ⟨rfl, hsending⟩⟩,
      fun f => ?_⟩
    · exact (List.filter_eq_self.mpr fun x hx => by simpa using ne_of_mem_of_not_mem hx hqueue).symm
    · refine ⟨fun he => ⟨he, fun hr => ?_⟩, And.left⟩
      have he : s.engineRun e = some r := he
      exact hoff .locating (by simp [hplace]) ⟨e, by simp [State.engineDesc, he, hr]⟩
    · exact (State.filter_chain_eq (ha.not_chained hm hd (by simp [Descriptor.waits, hplace]) f)).symm
  have hc := ha.leave (opened := none) rfl hl (by simp [hplace]) fun f x _ hx => ⟨hx, by simp [Stage.rest]⟩
  have hfreed := (State.releaseSent_freed _ d fr hc.desc).1
  have hreleased := hc.freed (.of_releaseSent _ d) hfreed fun x hx => by simp [hx]
  unfold State.completeForward
  dsimp only
  split
  · exact hreleased.sameBut (State.updatePending_sameBut _ _) (by decide)
  · exact hreleased

theorem State.sending_eq (htx : s.egress.transmitter = some tx) : s.sending = some tx.source := by
  simp [State.sending, htx]

theorem State.Completed.transmitter (hv : s.Completed tx t) : t.egress.transmitter = none := by
  cases hv with
  | token => rfl
  | response => exact (State.completeResponse_sameBut _).2 .transmitter (by decide)
  | notice => exact (State.completeNotice_sameBut _ _ _).2 .transmitter (by decide)
  | forward => exact (State.completeForward_sameBut _ _ _).2 .transmitter (by decide)

theorem State.Completed.arranged (hv : s.Completed tx t) (htx : s.egress.transmitter = some tx)
    (ha : s.Arranged (.rest slot b)) : t.Arranged (.rest slot b) := by
  have other {l : List Piece} (hsource : ∀ d, tx.source ≠ .forward d) (hs : s.SameBut t l)
      (hl : ∀ p ∈ framePlaces, p ≠ .transmitter → p ∉ l) : t.Arranged (.rest slot b) := by
    refine ha.transmits hs hl ?_
    rw [State.sendingDesc_nil (s := s) (fun d => by rw [State.sending_eq htx]; simpa using hsource d),
      State.sendingDesc_nil (s := t) (by simp [State.sending, hv.transmitter])]
  have hidle := (s.advanceTo_sameBut tx.endsAt).trans (State.idleTransmitter_sameBut _)
  cases hv with
  | token hsource => exact other (by simp [hsource]) (hidle.trans (State.completeToken_sameBut _)) (by decide)
  | response hsource => exact other (by simp [hsource]) (hidle.trans (State.completeResponse_sameBut _)) (by decide)
  | notice hsource => exact other (by simp [hsource]) (hidle.trans (State.completeNotice_sameBut _ _ _)) (by decide)
  | forward hsource hd => exact ha.completeForward _ (by rw [State.sending_eq htx, hsource]) hd

/-! ### The receive slot -/

/-- The frame in the receive slot is freed at an abort (R6). -/
theorem State.Arranged.abortFrame (ha : s.Arranged (.rest (some (d, fr)) b)) (received : List Byte) (r : Reception) :
    (s.abortFrame d fr received r).Arranged (.rest none b) :=
  ((ha.leaveSlot.sameBut (s.storePayload_sameBut fr _) (by decide)).releaseDropped.sameBut
    (State.countGlobal_sameBut _ _) (by decide)).sameBut (State.endReception_sameBut _ r) (by decide)

theorem Role.entry_kept (hrole : s.keptRole h = some role) (fr : Descriptor) (hfr : fr.role = role) :
    fr.entry.action ≠ .discard := by
  unfold Descriptor.entry
  rw [hfr]
  cases role with
  | data snap =>
    unfold State.keptRole at hrole
    split at hrole
    · cases hrole
    · cases hrole
    · split at hrole
      · cases hrole
      · next hkept =>
        obtain rfl : _ = snap := by simpa using hrole
        exact hkept
    · next hfate =>
      obtain rfl : _ = Role.data snap := by simpa using hrole
      exact absurd hfate (fateOf_kept_not_data _ h snap)
  | forwardedOther | request | enumeration => decide

/-- A free descriptor stands nowhere. -/
theorem State.Arranged.free_off (ha : s.Arranged (.rest none b)) (hd : s.desc? d = none) :
    (∀ p, ¬s.Stands none d p) ∧ ∀ f, d ∉ s.chain f := by
  refine ⟨fun p => ?_, fun f => ?_⟩
  · by_cases hp : p = .held
    · subst hp
      exact id
    · have hstands := ha.located d p (by simp [Stage.rest]) hp
      exact mt hstands.mp (by simp [State.InPlace, hd])
  · rw [ha.chained f d (by simp [Stage.rest])]
    simp [State.Chains, hd]

/-- A kept frame takes the receive slot (R12, R28). -/
theorem State.Arranged.admission (ha : s.Arranged (.rest none b)) (hfree : s.store.freeDescs = d :: rest)
    (hcells : cellsNeeded (storedLengthOf role h) ≤ s.store.freeCells.length)
    (hkept : ∀ fr : Descriptor, fr.role = role → fr.entry.action ≠ .discard) :
    ∃ fr, fr.role = role ∧ fr.header = h ∧ (s.admitFrame d role h).Arranged (.rest (some (d, fr)) b) := by
  have hd : s.desc? d = none := (ha.store.freeExact.2 d).mp (by simp [hfree])
  obtain ⟨hoff, hunchained⟩ := ha.free_off hd
  let fr := freshDescriptor role h (s.store.freeCells.take (cellsNeeded (storedLengthOf role h)))
  have hdesc (x : DescId) := s.admitFrame_desc? d x role h
  have hothers : s.OtherDescs (s.admitFrame d role h) d := fun x hx => by rw [hdesc, if_neg hx]
  have hnew : (s.admitFrame d role h).desc? d = some fr := (hdesc d).trans (if_pos rfl)
  have hm (x : DescId) (slot : Option (DescId × Descriptor)) : (Stage.rest slot b).moving ≠ some x := by
    simp [Stage.rest]
  have hlisted (x : DescId) (hx : s.Listed [] x) : x ≠ d := by
    rintro rfl
    obtain hx | hx | hx | hx | ⟨f, hx⟩ := hx
    · exact hoff .queued hx
    · exact hoff .sending ((s.mem_sendingDesc x).mp hx)
    · exact hoff .forward hx
    · exact List.not_mem_nil hx
    · exact hunchained f hx
  refine ⟨fr, rfl, rfl, ha.relocate d (fun x _ => ⟨hm x _, hm x _⟩)
    ⟨hothers, fun x hx p => ?stands, fun _ _ _ he => he, fun _ _ _ => Iff.rfl, fun _ _ => Iff.rfl, le_rfl⟩
    (fun x fx hx => ?slot) List.not_mem_nil List.nodup_nil (ha.store.granted hfree hcells rfl) ?frames
    (fun f x hf hx => ?head) (ha.lines.of_sameLists ⟨rfl, fun _ => rfl, rfl, rfl, fun _ => rfl, le_rfl⟩
      fun x hx => State.keyOf_of_desc (hothers x (hlisted x hx))) (fun _ => ?own)⟩
  case stands =>
    cases p with
    | receiving => simpa [State.Stands, Stage.rest] using Ne.symm hx
    | _ => exact Iff.rfl
  case slot =>
    obtain ⟨rfl, rfl⟩ : d = x ∧ fr = fx := by simpa [Stage.rest] using hx
    exact hnew
  case frames =>
    refine ⟨fun x fx hx => ?_, fun x fx hx => ?_⟩
    · by_cases hxd : x = d
      · subst hxd
        rw [← Option.some.inj (hnew.symm.trans hx)]
        rfl
      · exact ha.frames.length x fx ((hothers x hxd).symm.trans hx)
    · by_cases hxd : x = d
      · subst hxd
        rw [← Option.some.inj (hnew.symm.trans hx)]
        exact hkept fr rfl
      · exact ha.frames.kept x fx ((hothers x hxd).symm.trans hx)
  case head =>
    have hx : (s.chain f).head? = some x := hx
    have hxd : x ≠ d := hlisted x (.inr (.inr (.inr (.inr ⟨f, List.mem_of_head? hx⟩))))
    simpa only [State.InPlace.of_desc (hothers x hxd)] using ha.head f x hf hx
  case own =>
    refine .of_place hnew ⟨by simp [fr, freshDescriptor], by simp [fr, freshDescriptor],
      by simp [fr, freshDescriptor, Descriptor.waits], by simp [fr, freshDescriptor],
      by simp [fr, freshDescriptor, Descriptor.waits], by simp [fr, freshDescriptor, Descriptor.withLocator]⟩
      (fun p hp => ?_) (fun e r he hr => ?_) fun f => ?_
    · by_cases hrec : p = .receiving
      · subst hrec
        exact iff_of_true rfl rfl
      · refine iff_of_false ?_ (by simpa [fr, freshDescriptor] using Ne.symm hrec)
        have := hoff p
        cases p with
        | receiving => exact absurd rfl hrec
        | _ => exact this
    · have he : s.engineRun e = some r := he
      exact absurd ⟨e, by simp [State.engineDesc, he, hr]⟩ (hoff .locating)
    · exact iff_of_false (hunchained f) (by simp [fr, freshDescriptor, Descriptor.waits])

/-! ### Nothing in the part (R35, R102, R122) -/

theorem State.Lines.of_empty (hqueue : s.locator.queue = []) (hengines : ∀ e, s.engineRun e = none)
    (hforward : s.egress.forwardQueue = []) (hsending : s.sendingDesc = []) (hchain : ∀ f, s.chain f = []) :
    s.Lines [] b where
  queueNodup := by simp [hqueue]
  engines := by simp [State.engineDesc, hengines]
  forwardNodup := by simp [hforward]
  length := by simp [hchain]
  chainInOrder := by simp [hchain]
  queueInOrder := by simp [hqueue]
  line := by simp [State.lineOf, hforward, hsending, hchain, State.orderedOf]

theorem State.Arranged.of_empty (hdesc : ∀ d, s.desc? d = none) (hstore : s.StoreInv) (hqueue : s.locator.queue = [])
    (hengines : ∀ e, s.engineRun e = none) (hforward : s.egress.forwardQueue = []) (hsending : s.sendingDesc = [])
    (hchain : ∀ f, s.chain f = []) : s.Arranged (.rest none b) where
  store := hstore
  frames := ⟨fun d fr hd => (by simp [hdesc] at hd), fun d fr hd => (by simp [hdesc] at hd)⟩
  slot d fr hd := by simp [Stage.rest] at hd
  fits d fr _ hd := by simp [hdesc] at hd
  located d p _ hp := by
    refine iff_of_false ?_ (by simp [State.InPlace, hdesc])
    have hnot : d ∉ s.sendingDesc := by simp [hsending]
    rw [State.mem_sendingDesc] at hnot
    cases p with
    | sending => exact hnot
    | held => exact id
    | _ => simp [State.Stands, Stage.rest, State.engineDesc, hqueue, hengines, hforward]
  runs e r fr _ he := by simp [hengines] at he
  chained f d _ := by simp [hchain, State.Chains, hdesc]
  loose := by simp [Stage.rest]
  looseNodup := List.nodup_nil
  head f d _ hd := by simp [hchain] at hd
  lines := .of_empty hqueue hengines hforward hsending hchain

end Sys2Proof.Machine
end

section
/-! Every command keeps the frames in order. -/

namespace Sys2Proof.Machine

variable {s t u v : State} {d x : DescId} {fr fr' : Descriptor} {g : Stage} {f : Byte} {b : Bool} {h : HeaderBytes}
  {slot : Option (DescId × Descriptor)} {role : Role} {tx : Transmission} {rest : List DescId} {l : List Piece}
  {c : Instr}

/-! ### The receive slot -/

/-- What the receiver and the code unit show of the receive slot (R4, R56). -/
def State.Receives (s : State) : Option (DescId × Descriptor) → Prop
  | none => (∀ d, s.receiver.reception ≠ .receiving d) ∧ s.receiver.currentHeader = none ∧ s.codeUnit = .idle
  | some (d, fr) => s.receiver.reception = .receiving d ∧ s.receiver.currentHeader = some fr.header ∧
    s.codeUnit = codeUnitFor fr.role fr.header

theorem State.Receives.of_eq (hs : s.Receives slot) (hrec : t.receiver.reception = s.receiver.reception)
    (hheader : t.receiver.currentHeader = s.receiver.currentHeader) (hunit : t.codeUnit = s.codeUnit) :
    t.Receives slot := by
  unfold State.Receives at hs ⊢
  rwa [hrec, hheader, hunit]

/-- Between two commands the frames are in order, and the receiver shows the frame of the receive slot. -/
def State.InOrder (s : State) (b : Bool) : Prop := ∃ slot, s.Receives slot ∧ s.Arranged (.rest slot b)

/-- The receive slot is empty, and the frames are in order. -/
structure State.Awaits (s : State) (b : Bool) : Prop where
  receives : s.Receives none
  arranged : s.Arranged (.rest none b)

theorem State.Awaits.inOrder (hs : s.Awaits b) : s.InOrder b := ⟨none, hs.receives, hs.arranged⟩

theorem State.InOrder.empty (hs : s.InOrder b) (hrec : ∀ d, s.receiver.reception ≠ .receiving d) : s.Awaits b := by
  obtain ⟨slot, hslot, ha⟩ := hs
  cases slot with
  | none => exact ⟨hslot, ha⟩
  | some p => exact absurd hslot.1 (hrec _)

theorem State.InOrder.occupied (hs : s.InOrder b) (hrec : s.receiver.reception = .receiving d)
    (hd : s.desc? d = some fr) : s.Receives (some (d, fr)) ∧ s.Arranged (.rest (some (d, fr)) b) := by
  obtain ⟨slot, hslot, ha⟩ := hs
  cases slot with
  | none => exact absurd hrec (hslot.1 d)
  | some p =>
    obtain ⟨x, y⟩ := p
    obtain rfl : x = d := by simpa [hrec] using hslot.1.symm
    obtain rfl : y = fr := Option.some.inj ((ha.slot x y rfl).symm.trans hd)
    exact ⟨hslot, ha⟩

/-- A command that leaves the receiver and the code unit. -/
theorem State.InOrder.keepSlot (hs : s.InOrder b) (h : s.SameBut t l) (hl : .receiver ∉ l ∧ .codeUnit ∉ l)
    (ha : ∀ slot, s.Arranged (.rest slot b) → t.Arranged (.rest slot b)) : t.InOrder b := by
  obtain ⟨slot, hslot, harranged⟩ := hs
  have hreceiver : t.receiver = s.receiver := h.2 .receiver hl.1
  exact ⟨slot, hslot.of_eq (by rw [hreceiver]) (by rw [hreceiver]) (h.2 .codeUnit hl.2), ha slot harranged⟩

/-- The pieces in which the order of the frames and the receive slot lie. -/
def orderPieces : List Piece := .receiver :: .codeUnit :: framePlaces

/-- A command that moves no frame, and leaves the receive slot. -/
theorem State.InOrder.same (hs : s.InOrder b) (h : s.SameBut t l) (hl : ∀ p ∈ orderPieces, p ∉ l) : t.InOrder b :=
  hs.keepSlot h ⟨hl _ (by decide), hl _ (by decide)⟩ fun _ ha =>
    ha.sameBut h fun p hp => hl p (List.mem_cons_of_mem _ (List.mem_cons_of_mem _ hp))

/-! ### The receiver's commands -/

theorem State.Awaits.same (hs : s.Awaits b) (h : s.SameBut t l) (hl : ∀ p ∈ orderPieces, p ∉ l) : t.Awaits b where
  receives := by
    have hreceiver : t.receiver = s.receiver := h.2 .receiver (hl _ (by decide))
    exact hs.receives.of_eq (by rw [hreceiver]) (by rw [hreceiver]) (h.2 .codeUnit (hl _ (by decide)))
  arranged := hs.arranged.sameBut h fun p hp => hl p (List.mem_cons_of_mem _ (List.mem_cons_of_mem _ hp))

theorem State.Awaits.receiver (hs : s.Awaits b) {r : Receiver} (hrec : ∀ d, r.reception ≠ .receiving d)
    (hheader : r.currentHeader = s.receiver.currentHeader) : State.Awaits { s with receiver := r } b where
  receives := ⟨hrec, hheader.trans hs.receives.2.1, hs.receives.2.2⟩
  arranged := hs.arranged.sameBut (s.receiver_sameBut r) (by decide)

theorem State.Awaits.setReception (hs : s.Awaits b) {r : Reception} (hr : ∀ d, r ≠ .receiving d) :
    (s.setReception r).Awaits b :=
  hs.receiver hr rfl

theorem State.Awaits.loseLink (hs : s.Awaits b) : s.loseLink.Awaits b :=
  ((hs.receiver (r := { s.receiver with link := .linkDown }) hs.receives.1 rfl).setReception
    (r := .between) (by simp)).same (State.raise_sameBut _ _) (by decide)

theorem State.InOrder.abortFrame (hs : s.InOrder b) (hrec : s.receiver.reception = .receiving d)
    (hd : s.desc? d = some fr) (received : List Byte) {r : Reception} (hr : ∀ d, r ≠ .receiving d) :
    (s.abortFrame d fr received r).Awaits b :=
  ⟨⟨hr, rfl, rfl⟩, (hs.occupied hrec hd).2.abortFrame received r⟩

theorem afterSymbol_ne_receiving (symbol : LineSymbol) (d : DescId) : afterSymbol symbol ≠ .receiving d := by
  cases symbol <;> simp [afterSymbol]

theorem State.Awaits.refuseFrame (hs : s.Awaits b) (role : Role) (h : HeaderBytes) :
    (s.refuseFrame role h).Awaits b := by
  have short {t : State} (ht : t.Awaits b) :
      (((t.countGlobal .poolShort).raise .poolShort).setReception .skipping).Awaits b :=
    ((ht.same (t.countGlobal_sameBut _) (by decide)).same (State.raise_sameBut _ _) (by decide)).setReception (by simp)
  cases role with
  | data => exact short (hs.same (s.countFlow_sameBut _ _ _) (by decide))
  | forwardedOther | request | enumeration => exact short hs

theorem State.Awaits.headerArrived (hs : s.Awaits b) (hu : s.HeaderArrived h u) : u.InOrder b := by
  have skips {v : State} (hv : v.Awaits b) : (v.setReception .skipping).InOrder b := (hv.setReception (by simp)).inOrder
  cases hu with
  | fault =>
    exact skips ((hs.same (s.countGlobal_sameBut _) (by decide)).same (State.raise_sameBut _ _) (by decide))
  | stripped => exact skips (hs.same (s.countGlobal_sameBut _) (by decide))
  | token => 
    exact ((hs.receiver (r := { s.receiver with lastToken := some ⟨h.source, h.sequence⟩, reception := .skipping })
      (by simp) rfl).same (State.countGlobal_sameBut _ _) (by decide)).inOrder
  | discarded =>
    exact skips ((hs.same (s.countFlow_sameBut _ _ _) (by decide)).same (State.countFlow_sameBut _ _ _ _) (by decide))
  | refused role => exact ((hs.same (s.countArrival_sameBut role h) (by decide)).refuseFrame role h).inOrder
  | kept role hrole d rest hfree hcells =>
    have harrived := hs.same (s.countArrival_sameBut role h) (by decide)
    rw [← s.countArrival_store role h] at hfree hcells
    obtain ⟨fr, rfl, rfl, ha⟩ := harrived.arranged.admission hfree hcells (Role.entry_kept hrole)
    exact ⟨some (d, fr), ⟨rfl, rfl, rfl⟩, ha⟩

/-- The frame-end of the frame in the receive slot (R15). -/
theorem State.InOrder.frameEnded {payload : List Byte} (hs : s.InOrder b)
    (hrec : s.receiver.reception = .receiving d) (hd : s.desc? d = some fr) (hdepth : fr.entry.holdDepth ≤ 16)
    (hu : (s.arrivePayload d fr payload).Dispatched d fr payload u) : (u.endReception .between).InOrder b := by
  have hbears := (hs.occupied hrec hd).2.arrivePayload payload
  have ha := State.Bears.dispatched (fr := fr) hbears ⟨rfl, rfl, rfl, .inl rfl⟩ hdepth hu
  exact ⟨none, ⟨by simp [State.endReception], rfl, rfl⟩, ha.sameBut (u.endReception_sameBut _) (by decide)⟩

/-! ### Resets (R35, R102, R122, R148, R149) -/

theorem State.storeInv_of_reset (hdesc : ∀ d, s.desc? d = none) (hcells : s.store.freeCells = List.finRange 128)
    (hdescs : s.store.freeDescs = List.finRange 40) (hout : s.store.holdOut = false) : s.StoreInv :=
  (powerOnState_inv false []).store.of_same hcells hdescs hout fun d => by rw [hdesc, powerOnState_desc?]

theorem State.flush_awaits (s : State) (received : List Byte) (hidle : s.egress.transmitter = none) :
    (s.flush received).Awaits b := by
  obtain ⟨k, hk⟩ := s.flush_eq received
  refine ⟨⟨fun d => ?_, ?_, ?_⟩, .of_empty (by simp) (State.storeInv_of_reset (by simp) ?_ ?_ ?_) ?_ (fun e => ?_) ?_
    (State.sendingDesc_nil fun d => ?_) fun f => ?_⟩
  · rw [hk]
    cases hrec : s.receiver.reception <;> simp [Receiver.flushed, hrec]
  all_goals rw [hk]
  all_goals try rfl
  · cases e <;> rfl
  · simp [State.sending, Egress.flushed, hidle]
  · simp [State.chain, atFlow]

theorem State.resetIfDue_inOrder (hs : s.InOrder b) (received : List Byte) (hidle : s.egress.transmitter = none) :
    (s.resetIfDue received).InOrder b := by
  obtain heq | ⟨p, -, -, heq⟩ := s.resetIfDue_cases received
  · rwa [heq]
  · rw [heq]
    have hflushed := (s.flush_awaits received hidle (b := b)).inOrder
    cases p.scope with
    | flush => exact hflushed
    | restart =>
      obtain ⟨slot, hslot, ha⟩ := hflushed
      exact ⟨slot, hslot.of_eq rfl rfl rfl, ha.same ⟨rfl, fun _ => rfl, rfl, rfl, fun _ => rfl, le_rfl⟩ (fun _ => rfl)
        (ha.store.of_same rfl rfl rfl fun _ => rfl)⟩

/-! ### The commands -/

theorem State.Handled.inOrder (hu : s.Handled c u) (hs : s.InOrder b)
    (hdepth : ∀ d fr, s.desc? d = some fr → fr.entry.holdDepth ≤ 16) : u.InOrder b := by
  have advanced (n : Nat) : (s.advanceTo n).InOrder b := hs.same (s.advanceTo_sameBut n) (by decide)
  have awaits {r : Reception} (hrec : s.receiver.reception = r) (hr : ∀ d, r ≠ .receiving d) : s.Awaits b :=
    hs.empty fun d => hrec ▸ hr d
  have completed {tx : Transmission} {v : State} {received : List Byte} (htx : s.egress.transmitter = some tx)
      (hv : s.Completed tx v) : (v.resetIfDue received).InOrder b :=
    State.resetIfDue_inOrder (hs.keepSlot hv.sameBut (by decide) fun _ => hv.arranged htx) received hv.transmitter
  have starts {v : State} {l : List Piece} (hidle : s.egress.transmitter = none) (hv : s.SameBut v l)
      (hl : ∀ p ∈ orderPieces, p ≠ .transmitter → p ∉ l) (hsending : ∀ d, v.sending ≠ some (.forward d)) :
      v.InOrder b :=
    hs.keepSlot hv ⟨hl _ (by decide) (by decide), hl _ (by decide) (by decide)⟩ fun _ ha =>
      ha.transmits hv (fun p hp => hl p (List.mem_cons_of_mem _ (List.mem_cons_of_mem _ hp))) (by
        rw [State.sendingDesc_nil hsending, State.sendingDesc_nil (by simp [State.sending, hidle])])
  cases hu with
  | holdInAssertion => exact hs.same (s.setHoldIn_sameBut true) (by decide)
  | holdInRelease => exact hs.same (s.setHoldIn_sameBut false) (by decide)
  | acquisition =>
    obtain ⟨slot, hslot, ha⟩ := hs
    have hup : State.InOrder { s with receiver := { s.receiver with link := .linkUp } } b :=
      ⟨slot, hslot.of_eq rfl rfl rfl, ha.sameBut (s.receiver_sameBut _) (by decide)⟩
    exact hup.same (State.raise_sameBut _ _) (by decide)
  | lossIdle _ hrec =>
    obtain hrec | hrec := hrec
    all_goals exact (awaits hrec (by simp)).loseLink.inOrder
  | lossBeforeHeader _ hrec =>
    exact ((awaits hrec (by simp)).same (s.countGlobal_sameBut _) (by decide)).loseLink.inOrder
  | lossReceiving _ hrec hd => exact (hs.abortFrame hrec hd _ (by simp)).loseLink.inOrder
  | startDelimiterIdle _ hrec =>
    obtain hrec | hrec := hrec
    all_goals exact ((awaits hrec (by simp)).setReception (by simp)).inOrder
  | startDelimiterBeforeHeader | cutShortByStart => exact hs.same (s.countGlobal_sameBut _) (by decide)
  | startDelimiterReceiving _ hrec hd => exact (hs.abortFrame hrec hd _ (by simp)).inOrder
  | cutShortByEnd hrec =>
    exact ((((awaits hrec (by simp)).setReception (by simp)).same (State.countGlobal_sameBut _ _) (by decide)).same
      (State.raise_sameBut _ _) (by decide)).inOrder
  | cutShort hrec =>
    exact (((awaits hrec (by simp)).setReception (by simp)).same (State.countGlobal_sameBut _ _) (by decide)).inOrder
  | skipEnd hrec => exact ((awaits hrec (by simp)).setReception (afterSymbol_ne_receiving _)).inOrder
  | headerArrival hrec hu => exact (awaits hrec (by simp)).headerArrived hu
  | abort hrec hd => exact (hs.abortFrame hrec hd _ (afterSymbol_ne_receiving _)).inOrder
  | frameEndAborted hrec hd => exact (hs.abortFrame hrec hd _ (by simp)).inOrder
  | frameEnd _ hrec hd _ hv => exact hs.frameEnded hrec hd (hdepth _ _ hd) hv
  | pickup he hqueue _ hd =>
    exact hs.keepSlot (s.pickedUp_sameBut _ _) (by decide) fun _ ha => ha.pickedUp he hqueue hd
  | completionWithList he hd =>
    exact hs.keepSlot ((s.advanceTo_sameBut _).trans (State.completeWithList_sameBut _ _ _ _ _)) (by decide)
      fun _ ha => ha.completedWithList he hd
  | @completionFailed e r fr he hd =>
    exact hs.keepSlot ((s.failureRaised_sameBut e r fr).trans (State.handBack_sameBut _ _ _ _)) (by decide)
      fun _ ha => ha.completedFailed he hd
  | deadlineExpiry hd hdue =>
    exact (advanced _).keepSlot (State.expireFrame_sameBut _ _ _) (by decide)
      fun _ ha => ha.expireFrame hd (by simp [hdue])
  | startToken hidle => exact starts hidle s.startToken_sameBut (by decide) fun _ h => by cases h
  | startResponse hidle => exact starts hidle (s.startResponse_sameBut _) (by decide) fun _ h => by cases h
  | startNotice hidle => exact starts hidle (s.startNotice_sameBut _) (by decide) fun _ h => by cases h
  | startForward hidle hqueue hd =>
    exact hs.keepSlot (s.startForward_sameBut _ _) (by decide) fun _ ha => ha.startForward hidle hqueue hd
  | completeToken htx hsource => exact completed htx (.token hsource)
  | completeResponse htx hsource => exact completed htx (.response hsource)
  | completeNotice htx hsource => exact completed htx (.notice hsource)
  | completeForward htx hsource hd => exact completed htx (.forward hsource hd)
  | cadenceExpiry => exact (advanced _).same (State.cadenceExpired_sameBut (s.advanceTo _)) (by decide)
  | cadenceSlip =>
    exact (((advanced _).same (State.cadenceExpired_sameBut (s.advanceTo _)) (by decide)).same
      (State.countGlobal_sameBut _ _) (by decide)).same (State.raise_sameBut _ _) (by decide)
  | holdWaitExpiry =>
    exact (((advanced _).same (State.grantPermission_sameBut _) (by decide)).same
      (State.countGlobal_sameBut _ _) (by decide)).same (State.raise_sameBut _ _) (by decide)
  | leaseExpiry =>
    exact ((advanced _).same (State.dropClaim_sameBut _) (by decide)).same (State.raise_sameBut _ _) (by decide)
  | retryResent => exact (advanced _).same (State.resendNotice_sameBut _ _ _ _ _) (by decide)
  | retryExhausted => exact (advanced _).same (State.putEntry_sameBut _ _ _) (by decide)
  | copyCompletion => exact hs.same (s.table_sameBut _) (by decide)

end Sys2Proof.Machine
end

section
/-! The turn of the engines, the link, the management unit and the transmitter: what every command keeps. -/

namespace Sys2Proof.Machine

variable {s t u v : State} {d x : DescId} {fr fr' : Descriptor} {f : Byte} {h : HeaderBytes}
  {tx : Transmission} {rest : List DescId} {l : List Piece} {c : Instr} {e : EngineId}

/-! ### The turn of the engines (R73, R79) -/

theorem State.turnInv_iff (s : State) : s.TurnInv ↔
    (s.locator.firstFreed ≠ none → s.locator.queue ≠ [] ∧ ∀ e, s.engineRun e = none) := by
  refine forall_congr' fun _ => and_congr_right fun _ => ⟨?_, fun he => ⟨he .engine0, he .engine1⟩⟩
  rintro ⟨h0, h1⟩ e
  cases e <;> assumption

theorem State.turnInv_of_none (h : s.locator.firstFreed = none) : s.TurnInv := fun hne => absurd h hne

theorem State.TurnInv.of_locator (h : s.TurnInv) (hl : t.locator = s.locator) : t.TurnInv := by
  rwa [State.TurnInv, hl]

/-- While an engine is busy no engine waits for its turn. -/
theorem State.TurnInv.firstFreed_none {r : Run} (h : s.TurnInv) (he : s.engineRun e = some r) :
    s.locator.firstFreed = none := by
  by_contra hne
  simp [((s.turnInv_iff).mp h hne).2 e] at he

/-- A frame is appended to the correction queue, or the locator is as it was. -/
theorem State.TurnInv.of_enqueued (h : s.TurnInv) {added : List DescId}
    (ht : t.locator = { s.locator with queue := s.locator.queue ++ added }) : t.TurnInv := by
  rw [State.TurnInv, ht]
  exact fun hne => ⟨fun hnil => (h hne).1 (List.append_eq_nil_iff.mp hnil).1, (h hne).2⟩

theorem State.RoutedLocate.locator {syndromes : List Byte} (hu : s.RoutedLocate d fr syndromes u) :
    ∃ added, u.locator = { s.locator with queue := s.locator.queue ++ added } := by
  cases hu with
  | free | ordered => exact ⟨[d], rfl⟩
  | overflow => exact ⟨[], by rw [(s.dropOverflow_sameBut d).locator_eq (by decide), List.append_nil]⟩

theorem State.DataEnded.locator (hu : s.DataEnded d fr u) :
    ∃ added, u.locator = { s.locator with queue := s.locator.queue ++ added } := by
  have same {v : State} {l : List Piece} (hv : s.SameBut v l) (hl : .locator ∉ l) :
      ∃ added, v.locator = { s.locator with queue := s.locator.queue ++ added } :=
    ⟨[], by rw [hv.locator_eq hl, List.append_nil]⟩
  cases hu with
  | ready _ hu => exact same ((s.countFlow_sameBut _ _ _).trans hu.sameBut) (by decide)
  | encoded _ hu =>
    exact same (((s.putMemory_sameBut _).trans (State.countFlow_sameBut _ _ _ _)).trans hu.sameBut) (by decide)
  | toLocate _ _ _ hu => exact hu.locator
  | dropped =>
    exact same (((s.countFlow_sameBut _ _ _).trans (State.raise_sameBut _ _)).trans
      (State.releaseDropped_sameBut_counted _ d)) (by decide)
  | marked _ _ hu =>
    exact same ((((s.countFlow_sameBut _ _ _).trans (State.raise_sameBut _ _)).trans
      (State.setDamaged_sameBut _ d)).trans hu.sameBut) (by decide)

theorem State.Dispatched.locator {payload : List Byte} (hu : s.Dispatched d fr payload u) :
    ∃ added, u.locator = { s.locator with queue := s.locator.queue ++ added } := by
  have same {v : State} {l : List Piece} (hv : s.SameBut v l) (hl : .locator ∉ l) :
      ∃ added, v.locator = { s.locator with queue := s.locator.queue ++ added } :=
    ⟨[], by rw [hv.locator_eq hl, List.append_nil]⟩
  cases hu with
  | data => exact (s.endData_ended d fr).locator
  | forwarded => exact same (s.toForward_sameBut d) (by decide)
  | enumeration => exact same ((s.enumerate_sameBut fr payload).trans (State.toForward_sameBut _ d)) (by decide)
  | checkFault => exact same (s.dropCheckFault_sameBut d) (by decide)
  | request _ _ hv =>
    split
    · exact same (hv.sameBut.trans (State.toForward_sameBut _ d)) (by decide)
    · exact same (hv.sameBut.trans (State.releaseDropped_sameBut_counted _ d)) (by decide)

/-- If the frames of a list free two engines, they free every engine. -/
theorem State.mem_freedEngines_of_both (s : State) {l : List DescId} (hl : l.Nodup)
    (hboth : (s.freedEngines l).length = 2) (e : EngineId) : e ∈ s.freedEngines l := by
  have hnodup := s.freedEngines_nodup hl
  obtain ⟨a, b, hab⟩ := List.length_eq_two.mp hboth
  rw [hab] at hnodup ⊢
  cases a <;> cases b <;> cases e <;> simp at hnodup ⊢

/-- An expiry that leaves an engine its turn has freed both engines, or has found them IDLE (R79). -/
theorem State.Inv.expire_turnInv {due : Nat} (hinv : s.Inv) (hd : s.desc? d = some fr) (hdue : fr.deadline = some due) :
    ((s.advanceTo due).expireFrame d fr).TurnInv := by
  refine (State.turnInv_iff _).mpr fun hne => ?_
  by_cases hmem : d ∈ s.chain fr.flow
  · have hresolved := hinv.resolved_afterChain hmem due
    have hafter := (s.afterChain due d fr.flow).raise_sameBut .deadlineExpired
    rw [s.expireFrame_chained due d fr hmem] at hne ⊢
    rw [hafter.locator_eq (by decide), hinv.afterChain_firstFreed hmem due] at hne
    rw [hafter.locator_eq (by decide)]
    refine ⟨fun hnil => hne (if_pos hnil), fun e => ?_⟩
    have hrun := hresolved.engines e
    simp only [hinv.engineDesc_abandonedOf] at hrun
    rw [hafter.engineRun_eq (by decide), hrun]
    split
    · rfl
    · next hkept =>
      rw [if_neg fun hnil => hne (if_pos hnil)] at hne
      split at hne
      · next hboth =>
        obtain ⟨x, hx, hex⟩ := List.mem_flatMap.mp (s.mem_freedEngines_of_both (hinv.upTo_nodup hmem) hboth e)
        exact absurd ⟨x, hx, by simpa using (List.mem_filter.mp hex).2⟩ hkept
      · exact ((State.turnInv_iff s).mp hinv.turn hne).2 e
  · have hwaits : fr.waits = true := (hinv.deadlines d fr hd).mp (by simp [hdue])
    have hresolved := hinv.resolved_alone due hd hwaits
    have hafter := (s.afterAlone due d).raise_sameBut .deadlineExpired
    rw [s.expireFrame_alone due d fr hmem] at hne ⊢
    rw [hafter.locator_eq (by decide), s.afterAlone_firstFreed due d] at hne
    rw [hafter.locator_eq (by decide)]
    refine ⟨fun hnil => hne (if_pos hnil), fun e => ?_⟩
    rw [if_neg fun hnil => hne (if_pos hnil)] at hne
    rw [hafter.engineRun_eq (by decide), hresolved.engines e, ((State.turnInv_iff s).mp hinv.turn hne).2 e]
    exact ite_self none

theorem State.Handled.turnInv (hu : s.Handled c u) (hinv : s.Inv) : u.TurnInv := by
  by_cases hcompletion : ∃ received, c = .transmissionCompletion received
  · obtain ⟨received, rfl⟩ := hcompletion
    obtain ⟨tx, v, -, hv, rfl⟩ := hu.completed
    obtain heq | ⟨p, -, -, heq⟩ := v.resetIfDue_cases received
    · rw [heq]
      exact hinv.turn.of_locator (hv.sameBut.locator_eq (by decide))
    · rw [heq]
      exact State.turnInv_of_none (by cases p.scope <;> rfl)
  · have hc (received) : c ≠ .transmissionCompletion received := fun h => hcompletion ⟨received, h⟩
    have untouched (h : (coursePieces c).contains .locator = false) : u.TurnInv :=
      hinv.turn.of_locator (hu.samePiece (p := .locator) hc h)
    cases hu with
    | frameEnd _ _ _ _ hv =>
      obtain ⟨added, hadded⟩ := hv.locator
      exact hinv.turn.of_enqueued (added := added) hadded
    | frameEndAborted => exact hinv.turn.of_locator ((s.abortFrame_sameBut _ _ _ _).locator_eq (by decide))
    | @pickup e d rest fr =>
      exact State.turnInv_of_none (State.setEngine_firstFreed _ e _)
    | @completionWithList e r fr entries he =>
      have happlied : (s.listApplied e r fr entries).locator.firstFreed = s.locator.firstFreed := by
        rw [State.listApplied, State.setEngine_firstFreed]
        simp
      exact State.turnInv_of_none ((congrArg Locator.firstFreed
        ((State.handBack_sameBut _ r.desc fr false).locator_eq (by decide))).trans
        (happlied.trans (hinv.turn.firstFreed_none he)))
    | @completionFailed e r fr he =>
      have hfailed : (s.failureRaised e r fr).locator.firstFreed = s.locator.firstFreed := by
        rw [State.failureRaised, State.setEngine_firstFreed]
        simp
      exact State.turnInv_of_none ((congrArg Locator.firstFreed
        ((State.handBack_sameBut _ r.desc fr true).locator_eq (by decide))).trans
        (hfailed.trans (hinv.turn.firstFreed_none he)))
    | deadlineExpiry hd hdue => exact hinv.expire_turnInv hd hdue
    | completeToken | completeResponse | completeNotice | completeForward => exact absurd rfl (hc _)
    | _ => exact untouched rfl

end Sys2Proof.Machine
end

section
/-! The link, the management unit and the transmitter: what every command keeps. -/

namespace Sys2Proof.Machine

variable {s t u v : State} {d x : DescId} {fr fr' : Descriptor} {f : Byte} {h : HeaderBytes}
  {tx : Transmission} {rest : List DescId} {l : List Piece} {c : Instr} {e : EngineId} {payload : List Byte}

/-! ### The link (R2, R3) -/

/-- Nothing is received in LINK_DOWN. -/
def State.DownIsQuiet (s : State) : Prop := s.receiver.link = .linkDown → s.receiver.reception = .between

theorem State.downIsQuiet_of_up (hlink : s.receiver.link = .linkUp) : s.DownIsQuiet := fun h => by
  rw [hlink] at h
  cases h

theorem State.DownIsQuiet.up (hs : s.DownIsQuiet) (hrec : s.receiver.reception ≠ .between) :
    s.receiver.link = .linkUp := by
  cases hlink : s.receiver.link with
  | linkUp => rfl
  | linkDown => exact absurd (hs hlink) hrec

theorem State.HeaderArrived.link (hu : s.HeaderArrived h u) : u.receiver.link = s.receiver.link := by
  cases hu with
  | refused role => cases role <;> simp [State.refuseFrame, State.countArrival, State.setReception]
  | kept role => cases role <;> rfl
  | fault => simp [State.setReception]
  | stripped | token | discarded => rfl

theorem State.loseLink_downIsQuiet (s : State) : s.loseLink.DownIsQuiet := fun _ => by
  simp [State.loseLink, State.setReception]

theorem State.resetIfDue_downIsQuiet (hs : s.DownIsQuiet) (received : List Byte) :
    (s.resetIfDue received).DownIsQuiet := by
  obtain heq | ⟨p, -, -, heq⟩ := s.resetIfDue_cases received
  · rwa [heq]
  · have hreceiver : (s.applyReset p.scope received).receiver = s.receiver.flushed := by
      obtain ⟨k, hk⟩ := s.flush_eq received
      cases p.scope <;> simp [State.applyReset, State.restart, hk]
    rw [heq, State.DownIsQuiet, hreceiver]
    exact fun hdown => by simp [Receiver.flushed, hs hdown]

theorem State.Handled.downIsQuiet (hu : s.Handled c u) (hs : s.DownIsQuiet) : u.DownIsQuiet := by
  by_cases hcompletion : ∃ received, c = .transmissionCompletion received
  · obtain ⟨received, rfl⟩ := hcompletion
    obtain ⟨tx, v, -, hv, rfl⟩ := hu.completed
    have hreceiver : v.receiver = s.receiver := hv.sameBut.2 .receiver (by decide)
    exact State.resetIfDue_downIsQuiet (by rwa [State.DownIsQuiet, hreceiver]) received
  · have hc (received) : c ≠ .transmissionCompletion received := fun h => hcompletion ⟨received, h⟩
    have untouched (h : (coursePieces c).contains .receiver = false) : u.DownIsQuiet := by
      have hreceiver : u.receiver = s.receiver := hu.samePiece (p := .receiver) hc h
      rwa [State.DownIsQuiet, hreceiver]
    have up (hlink : s.receiver.link = .linkUp) (hkept : u.receiver.link = s.receiver.link) : u.DownIsQuiet :=
      State.downIsQuiet_of_up (hkept.trans hlink)
    cases hu with
    | acquisition => exact State.downIsQuiet_of_up (by simp)
    | lossIdle | lossBeforeHeader | lossReceiving => exact State.loseLink_downIsQuiet _
    | startDelimiterIdle hlink | startDelimiterBeforeHeader hlink => exact up hlink rfl
    | startDelimiterReceiving hlink => exact up hlink (State.abortFrame_link _ _ _ _ _)
    | cutShortByEnd hrec => exact up (hs.up (by simp [hrec])) (by simp [State.setReception])
    | cutShort hrec | cutShortByStart hrec => exact up (hs.up (by simp [hrec])) rfl
    | skipEnd hrec => exact up (hs.up (by simp [hrec])) rfl
    | headerArrival hrec hu => exact up (hs.up (by simp [hrec])) hu.link
    | abort hrec | frameEndAborted hrec => exact up (hs.up (by simp [hrec])) (State.abortFrame_link _ _ _ _ _)
    | frameEnd _ hrec _ _ hv =>
      have hkept := congrArg Receiver.link (hv.sameBut.2 .receiver (by decide))
      exact up (hs.up (by simp [hrec])) hkept
    | completeToken | completeResponse | completeNotice | completeForward => exact absurd rfl (hc _)
    | _ => exact untouched rfl

/-! ### The management unit (R128, R136, R147) -/

/-- What a command but a completion does to the response queue, the claim, the pending reset and the debt:
one response may be queued, the claim given to a node address or ended, a reset begun. -/
structure State.Replies (s t : State) : Prop where
  responses : t.management.responses = s.management.responses ∨
    s.management.responses.length < 4 ∧ ∃ q, t.management.responses = s.management.responses ++ [q]
  claim : ∀ k, t.management.claim = some k → s.management.claim = some k ∨ isNodeAddress k.holder = true
  pending : ∀ p, t.management.pendingReset = some p → s.management.pendingReset = some p ∨ p.isDue = false
  debt : t.egress.debt = s.egress.debt

theorem State.Replies.of_sameBut (h : s.SameBut t l)
    (hl : ∀ p ∈ [Piece.responses, .claim, .pendingReset, .cadence], p ∉ l) : s.Replies t where
  responses := .inl (h.2 .responses (hl _ (by decide)))
  claim k hk := .inl (by
    have hclaim : t.management.claim = s.management.claim := h.2 .claim (hl _ (by decide))
    rwa [hclaim] at hk)
  pending p hp := .inl (by
    have hpending : t.management.pendingReset = s.management.pendingReset := h.2 .pendingReset (hl _ (by decide))
    rwa [hpending] at hp)
  debt := (h.2 .cadence (hl _ (by decide))).2.1

/-- An answer after a course that queues none. -/
theorem State.Replies.trans (h : s.Replies t) (hsame : t.management.responses = s.management.responses)
    (h' : t.Replies u) : s.Replies u where
  responses := by
    rw [← hsame]
    exact h'.responses
  claim k hk := (h'.claim k hk).elim (h.claim k) .inr
  pending p hp := (h'.pending p hp).elim (h.pending p) .inr
  debt := h'.debt.trans h.debt

theorem State.Replies.then_sameBut (h : s.Replies t) (hu : t.SameBut u l)
    (hl : ∀ p ∈ [Piece.responses, .claim, .pendingReset, .cadence], p ∉ l) : s.Replies u := by
  have h' := State.Replies.of_sameBut hu hl
  have hsame : u.management.responses = t.management.responses := hu.2 .responses (hl _ (by decide))
  refine ⟨by rw [hsame]; exact h.responses, fun k hk => (h'.claim k hk).elim (h.claim k) .inr,
    fun p hp => (h'.pending p hp).elim (h.pending p) .inr, h'.debt.trans h.debt⟩

theorem State.Executed.replies {rq : Requester} {kind : Byte} {args : List Byte} (hv : s.Executed rq kind args v) :
    s.Replies v ∧ v.management.responses = s.management.responses := by
  have same {l : List Piece} (h : s.SameBut v l) (hl : ∀ p ∈ [Piece.responses, .claim, .pendingReset, .cadence], p ∉ l) :
      s.Replies v ∧ v.management.responses = s.management.responses :=
    ⟨.of_sameBut h hl, h.2 .responses (hl _ (by decide))⟩
  cases hv with
  | claim haddress =>
    refine ⟨⟨.inl rfl, fun k hk => .inr ?_, fun p hp => .inl hp, rfl⟩, rfl⟩
    obtain rfl := Option.some.inj hk
    exact haddress
  | release => exact ⟨⟨.inl rfl, fun k hk => (by cases hk), fun p hp => .inl hp, rfl⟩, rfl⟩
  | resetPart scope =>
    refine ⟨⟨.inl rfl, fun k hk => .inl hk, fun p hp => .inr ?_, rfl⟩, rfl⟩
    obtain rfl := Option.some.inj hp
    rfl
  | setEvents set => exact same (s.setEnables_sameBut set) (by decide)
  | ackNotice e => exact same (s.acknowledge_sameBut e) (by decide)
  | _ => exact ⟨⟨.inl rfl, fun k hk => .inl hk, fun p hp => .inl hp, rfl⟩, rfl⟩

theorem State.replies_of_appended (hroom : s.management.responses.length < 4) {q : QueuedResponse}
    (hresponses : t.management.responses = s.management.responses ++ [q])
    (hclaim : t.management.claim = s.management.claim)
    (hpending : t.management.pendingReset = s.management.pendingReset) (hdebt : t.egress.debt = s.egress.debt) :
    s.Replies t :=
  ⟨.inr ⟨hroom, q, hresponses⟩, fun _ hk => .inl (hclaim ▸ hk), fun _ hp => .inl (hpending ▸ hp), hdebt⟩

theorem State.Managed.replies {rq : Requester} (hv : s.Managed rq payload v) : s.Replies v := by
  cases hv with
  | tooShort => exact .of_sameBut (s.countGlobal_sameBut _) (by decide)
  | shed => exact .of_sameBut ((s.countGlobal_sameBut _).trans (State.raise_sameBut _ _)) (by decide)
  | replied q hroom => exact State.replies_of_appended hroom rfl rfl rfl rfl
  | taken a _ htakes hv =>
    obtain ⟨hreplies, hsame⟩ := hv.replies
    exact hreplies.trans hsame (State.replies_of_appended (hsame ▸ htakes.room) rfl rfl rfl rfl)

theorem State.Dispatched.replies (hu : s.Dispatched d fr payload u) : s.Replies u := by
  cases hu with
  | data => exact .of_sameBut (s.endData_ended d fr).sameBut (by decide)
  | forwarded => exact .of_sameBut (s.toForward_sameBut d) (by decide)
  | enumeration => exact .of_sameBut ((s.enumerate_sameBut fr payload).trans (State.toForward_sameBut _ d)) (by decide)
  | checkFault => exact .of_sameBut (s.dropCheckFault_sameBut d) (by decide)
  | request _ _ hv =>
    split
    · exact hv.replies.then_sameBut (State.toForward_sameBut _ d) (by decide)
    · exact hv.replies.then_sameBut (State.releaseDropped_sameBut_counted _ d) (by decide)

theorem State.Handled.replies (hu : s.Handled c u) (hc : ∀ received, c ≠ .transmissionCompletion received)
    (hcadence : c ≠ .cadenceExpiry) : s.Replies u := by
  have hsame := hu.sameBut hc
  cases hu with
  | @frameEnd _ payload d fr _ _ _ _ _ hv =>
    have harrived := State.Replies.of_sameBut (s.arrivePayload_sameBut d fr payload) (by decide)
    exact (harrived.trans rfl hv.replies).then_sameBut (State.endReception_sameBut _ _) (by decide)
  | frameEndAborted => exact .of_sameBut (s.abortFrame_sameBut _ _ _ _) (by decide)
  | @leaseExpiry k =>
    have hdropped : s.Replies ((s.advanceTo k.leaseEnds).dropClaim) :=
      ⟨.inl rfl, fun k hk => (by cases hk), fun p hp => .inl hp, rfl⟩
    exact hdropped.then_sameBut (State.raise_sameBut _ _) (by decide)
  | cadenceExpiry | cadenceSlip => exact absurd rfl hcadence
  | completeToken | completeResponse | completeNotice | completeForward => exact absurd rfl (hc _)
  | _ => exact .of_sameBut hsame (by dsimp only [coursePieces]; decide)

theorem State.Replies.managementInv (h : s.Replies t) (hs : s.ManagementInv) : t.ManagementInv where
  responses := by
    obtain heq | ⟨hroom, q, heq⟩ := h.responses
    · exact heq ▸ hs.responses
    · rw [heq, List.length_append]
      exact hroom
  holder k hk := (h.claim k hk).elim (hs.holder k) id
  pending p hp := (h.pending p hp).elim (hs.pending p) id

theorem State.Completed.responses_length (hv : s.Completed tx v) :
    v.management.responses.length ≤ s.management.responses.length := by
  have same {l : List Piece} (hsource : s.SameBut v l) (hl : .responses ∉ l) :
      v.management.responses.length ≤ s.management.responses.length :=
    (congrArg List.length (hsource.2 .responses hl)).le
  have hidle := (s.advanceTo_sameBut tx.endsAt).trans (State.idleTransmitter_sameBut _)
  cases hv with
  | token => exact same (hidle.trans (State.completeToken_sameBut _)) (by decide)
  | notice => exact same (hidle.trans (State.completeNotice_sameBut _ _ _)) (by decide)
  | forward => exact same (hidle.trans (State.completeForward_sameBut _ _ _)) (by decide)
  | response =>
    rw [State.completeResponse_idle]
    unfold State.completeResponse
    split
    · exact le_rfl
    · next hq =>
      dsimp only
      split <;> simp [State.updatePending, hq]

theorem State.Handled.managementInv (hu : s.Handled c u) (hs : s.ManagementInv) : u.ManagementInv := by
  by_cases hcompletion : ∃ received, c = .transmissionCompletion received
  · obtain ⟨received, rfl⟩ := hcompletion
    obtain ⟨tx, v, -, hv, rfl⟩ := hu.completed
    have hclaim : v.management.claim = s.management.claim := hv.sameBut.2 .claim (by decide)
    by_cases hdue : ∃ scope, v.DueNow scope
    · obtain ⟨scope, hdue⟩ := hdue
      rw [State.resetIfDue_of_due received hdue]
      obtain ⟨k, hk⟩ := v.flush_eq received
      cases scope with
      | flush =>
        refine ⟨Nat.zero_le _, fun k' hk' => hs.holder k' (hclaim ▸ ?_), fun p hp => by cases hp⟩
        simpa [State.applyReset, hk] using hk'
      | restart => exact ⟨Nat.zero_le _, fun k' hk' => (by cases hk'), fun p hp => (by cases hp)⟩
    · rw [State.resetIfDue_of_not_due received (not_exists.mp hdue)]
      refine ⟨hv.responses_length.trans hs.responses, fun k hk => hs.holder k (hclaim ▸ hk), fun p hp => ?_⟩
      exact Bool.eq_false_iff.mpr fun h => hdue ⟨p.scope, p, hp, h, rfl⟩
  · have hc (received) : c ≠ .transmissionCompletion received := fun h => hcompletion ⟨received, h⟩
    by_cases hcadence : c = .cadenceExpiry
    · subst hcadence
      have hsame := hu.sameBut hc
      have hresponses : u.management.responses = s.management.responses := hsame.2 .responses (by decide)
      have hclaim : u.management.claim = s.management.claim := hsame.2 .claim (by decide)
      have hpending : u.management.pendingReset = s.management.pendingReset := hsame.2 .pendingReset (by decide)
      exact ⟨hresponses ▸ hs.responses, fun k hk => hs.holder k (hclaim ▸ hk),
        fun p hp => hs.pending p (hpending ▸ hp)⟩
    · exact (hu.replies hc hcadence).managementInv hs

/-! ### The transmitter (R113, R128) -/

theorem State.transmitterInv_of_idle (h : s.egress.transmitter = none) : s.TransmitterInv := by
  have hsending : s.sending = none := by simp [State.sending, h]
  exact ⟨by simp [hsending], by simp [hsending]⟩

theorem State.TransmitterInv.of_sending (hs : s.TransmitterInv) (hsending : t.sending = s.sending)
    (hdebt : 1 ≤ s.egress.debt → 1 ≤ t.egress.debt)
    (hresponses : s.management.responses ≠ [] → t.management.responses ≠ []) : t.TransmitterInv :=
  ⟨fun h => hdebt (hs.token (hsending ▸ h)), fun h => hresponses (hs.response (hsending ▸ h))⟩

theorem State.Replies.responses_ne (h : s.Replies t) (hs : s.management.responses ≠ []) :
    t.management.responses ≠ [] := by
  obtain heq | ⟨-, q, heq⟩ := h.responses
  · rwa [heq]
  · simp [heq]

/-- A start takes up a token that is owed, or a response that is queued. -/
theorem State.Handled.started_transmitterInv (hu : s.Handled .transmissionStart u) : u.TransmitterInv := by
  cases hu with
  | startToken _ hdebt => exact ⟨fun _ => hdebt, fun h => (by cases h)⟩
  | @startResponse q rest _ hqueue =>
    have hresponses : (s.startResponse q).management.responses = s.management.responses :=
      (s.startResponse_sameBut q).2 .responses (by decide)
    exact ⟨fun h => (by cases h), fun _ => by simp [hresponses, hqueue]⟩
  | startNotice => exact ⟨fun h => (by cases h), fun h => (by cases h)⟩
  | startForward => exact ⟨fun h => (by cases h), fun h => (by cases h)⟩
  | frameEnd hends =>
    obtain h | ⟨_, _, h, -⟩ := hends
    · cases h
    · cases h

/-- A debt is still owed after a cadence expiry. -/
theorem State.Handled.cadenceExpiry_debt (hu : s.Handled .cadenceExpiry u) (h : 1 ≤ s.egress.debt) :
    1 ≤ u.egress.debt := by
  have hrise : 1 ≤ s.egress.cadenceExpired.debt := by
    simp only [Egress.cadenceExpired, Config.debtLimit]
    omega
  cases hu with
  | cadenceExpiry => exact hrise
  | cadenceSlip => simpa using hrise
  | frameEnd hends =>
    obtain h | ⟨_, _, h, -⟩ := hends
    · cases h
    · cases h

theorem State.Handled.transmitterInv (hu : s.Handled c u) (hs : s.TransmitterInv) : u.TransmitterInv := by
  by_cases hcompletion : ∃ received, c = .transmissionCompletion received
  · obtain ⟨received, rfl⟩ := hcompletion
    obtain ⟨tx, v, -, hv, rfl⟩ := hu.completed
    refine State.transmitterInv_of_idle ?_
    obtain heq | ⟨p, -, -, heq⟩ := v.resetIfDue_cases received
    · rw [heq, hv.transmitter]
    · obtain ⟨k, hk⟩ := v.flush_eq received
      rw [heq, ← hv.transmitter]
      cases p.scope <;> simp [State.applyReset, State.restart, hk, Egress.flushed]
  · have hc (received) : c ≠ .transmissionCompletion received := fun h => hcompletion ⟨received, h⟩
    have sending (h : (coursePieces c).contains .transmitter = false) : u.sending = s.sending :=
      congrArg (Option.map Transmission.source) (hu.samePiece (p := .transmitter) hc h)
    by_cases hstart : c = .transmissionStart
    · subst hstart
      exact hu.started_transmitterInv
    by_cases hcadence : c = .cadenceExpiry
    · subst hcadence
      have hresponses : u.management.responses = s.management.responses := hu.samePiece (p := .responses) hc rfl
      exact hs.of_sending (sending rfl) hu.cadenceExpiry_debt (by rw [hresponses]; exact id)
    · have hreplies := hu.replies hc hcadence
      refine hs.of_sending (sending ?_) (fun h => by rwa [hreplies.debt]) hreplies.responses_ne
      cases c with
      | transmissionStart => exact absurd rfl hstart
      | transmissionCompletion => exact absurd rfl (hc _)
      | _ => rfl

end Sys2Proof.Machine
end

section
/-! The consistent part and the arrangement of its frames, and the invariants that every step keeps. -/

namespace Sys2Proof.Machine

variable {s t u : State} {d : DescId} {fr : Descriptor} {b : Bool} {slot : Option (DescId × Descriptor)} {c : Instr}

/-! ### From the consistent part to the arrangement -/

/-- The frame in the receive slot. -/
def State.slotFrame (s : State) : Option (DescId × Descriptor) :=
  match s.receiver.reception with
  | .between => none
  | .beforeHeader => none
  | .skipping => none
  | .receiving d => (s.desc? d).map (d, ·)

theorem State.slotFrame_iff (s : State) (d : DescId) (fr : Descriptor) :
    s.slotFrame = some (d, fr) ↔ s.receiver.reception = .receiving d ∧ s.desc? d = some fr := by
  unfold State.slotFrame
  cases hrec : s.receiver.reception with
  | receiving x =>
    simp only [Option.map_eq_some_iff, Prod.mk.injEq, Reception.receiving.injEq]
    constructor
    · rintro ⟨y, hy, rfl, rfl⟩
      exact ⟨rfl, hy⟩
    · rintro ⟨rfl, hd⟩
      exact ⟨fr, hd, rfl, rfl⟩
  | _ => simp

theorem State.Inv.slotFrame_receives (h : s.Inv) : s.Receives s.slotFrame := by
  have idle (hrec : ∀ d, s.receiver.reception ≠ .receiving d) (hnone : s.slotFrame = none) :
      s.Receives s.slotFrame := by
    rw [hnone]
    refine ⟨hrec, ?_, ?_⟩
    · by_contra hne
      obtain ⟨d, hd⟩ := h.receiver.header.mp (Option.isSome_iff_ne_none.mpr hne)
      exact hrec d hd
    · by_contra hne
      obtain ⟨d, hd⟩ := h.receiver.codeUnit.mp hne
      exact hrec d hd
  cases hrec : s.receiver.reception with
  | receiving d =>
    obtain ⟨fr, hd⟩ := h.slot_desc hrec
    rw [(s.slotFrame_iff d fr).mpr ⟨hrec, hd⟩]
    exact ⟨hrec, h.slot d fr hrec hd⟩
  | _ => exact idle (by simp [hrec]) (by simp [State.slotFrame, hrec])

theorem State.Inv.slotFrame_stands (h : s.Inv) (d : DescId) {p : Place} (hp : p ≠ .held) :
    s.Stands s.slotFrame d p ↔ s.InPlace d p := by
  cases p with
  | held => exact absurd rfl hp
  | receiving =>
    rw [← h.places.receiving]
    simp only [State.Stands, Option.map_eq_some_iff, Prod.exists, exists_and_right, exists_eq_right, s.slotFrame_iff]
    exact ⟨fun ⟨_, hrec, _⟩ => hrec, fun hrec => (h.slot_desc hrec).imp fun _ hd => ⟨hrec, hd⟩⟩
  | queued => exact h.places.queued d
  | locating => exact h.places.locating d
  | forward => exact h.places.forward d
  | sending => exact h.places.sending d

theorem State.Inv.fits (h : s.Inv) (hd : s.desc? d = some fr) : fr.Fits s.order.nextStamp where
  stampless := (h.chains.stamps d fr hd).1
  stamp := (h.chains.stamps d fr hd).2
  deadline := h.deadlines d fr hd
  held := h.chains.heldOrdered d fr hd
  data := h.chains.dataOnly d fr hd
  syndromes := h.runs.syndromes d fr hd


theorem State.Inv.inOrder (h : s.Inv) (ho : b = true → s.OrderInv) : s.InOrder b := by
  refine ⟨s.slotFrame, h.slotFrame_receives, ?_⟩
  exact {
    store := h.store
    frames := h.frames
    slot := fun d fr hd => ((s.slotFrame_iff d fr).mp hd).2
    fits := fun d fr _ hd => h.fits hd
    located := fun d p _ hp => h.slotFrame_stands d hp
    runs := fun e r fr _ he hd => by
      obtain ⟨hsyndromes, hstrength, hlength⟩ := h.runs.runs e r fr he hd
      exact ⟨hsyndromes, hstrength, hlength⟩
    chained := fun f d _ => (h.chains.members f d).trans ⟨fun hd => ⟨List.not_mem_nil, hd⟩, And.right⟩
    loose := fun d hd => absurd hd List.not_mem_nil
    looseNodup := List.nodup_nil
    head := fun f d _ hd => h.chains.head f d hd
    lines := {
      queueNodup := h.places.queueNodup
      engines := h.places.engines
      forwardNodup := h.places.forwardNodup
      length := h.chains.length
      chainInOrder := h.chains.inOrder
      queueInOrder := h.chains.queueInOrder
      line := fun hb f => ho hb f } }

/-! ### From the arrangement to the consistent part -/

theorem codeUnitFor_ne_idle (role : Role) (h : HeaderBytes) : codeUnitFor role h ≠ .idle := by
  unfold codeUnitFor
  split
  · dsimp only
    split
    · simp
    · split <;> simp
  all_goals simp

theorem State.Receives.receiving_iff (h : s.Receives slot) (d : DescId) :
    s.receiver.reception = .receiving d ↔ slot.map Prod.fst = some d := by
  cases slot with
  | none => exact iff_of_false (h.1 d) (by simp)
  | some p => rw [h.1]; simp

theorem State.Receives.receiverInv (h : s.Receives slot) (hdown : s.DownIsQuiet) : s.ReceiverInv := by
  refine ⟨hdown, ?_, ?_⟩
  · cases slot with
    | none =>
      obtain ⟨hrec, hheader, -⟩ := h
      exact iff_of_false (by simp [hheader]) (by simpa using hrec)
    | some p =>
      obtain ⟨hrec, hheader, -⟩ := h
      exact iff_of_true (by simp [hheader]) ⟨_, hrec⟩
  · cases slot with
    | none =>
      obtain ⟨hrec, -, hunit⟩ := h
      exact iff_of_false (by simp [hunit]) (by simpa using hrec)
    | some p =>
      obtain ⟨hrec, -, hunit⟩ := h
      exact iff_of_true (hunit ▸ codeUnitFor_ne_idle _ _) ⟨_, hrec⟩

theorem State.InOrder.slotInv (h : s.InOrder b) : s.SlotInv := fun _ _ hrec hd => (h.occupied hrec hd).1.2

theorem State.Arranged.placeInv (h : s.Arranged (.rest slot b)) (hslot : s.Receives slot) : s.PlaceInv where
  receiving d := (hslot.receiving_iff d).trans (h.located d .receiving (by simp [Stage.rest]) (by simp))
  queued d := h.located d .queued (by simp [Stage.rest]) (by simp)
  queueNodup := h.lines.queueNodup
  locating d := h.located d .locating (by simp [Stage.rest]) (by simp)
  engines := h.lines.engines
  forward d := h.located d .forward (by simp [Stage.rest]) (by simp)
  forwardNodup := h.lines.forwardNodup
  sending d := h.located d .sending (by simp [Stage.rest]) (by simp)

theorem State.Arranged.runInv (h : s.Arranged (.rest slot b)) : s.RunInv where
  runs e r fr he hd := by
    obtain ⟨hsyndromes, hstrength, hlength⟩ := h.runs e r fr (by simp [Stage.rest]) he hd
    exact ⟨hsyndromes, hstrength, hlength⟩
  syndromes d fr hd := (h.fits d fr (by simp [Stage.rest]) hd).syndromes

theorem State.Arranged.chainInv (h : s.Arranged (.rest slot b)) : s.ChainInv where
  length := h.lines.length
  members f d := (h.chained f d (by simp [Stage.rest])).trans ⟨And.right, fun hd => ⟨List.not_mem_nil, hd⟩⟩
  inOrder := h.lines.chainInOrder
  head f d hd := h.head f d (by simp [Stage.rest]) hd
  queueInOrder := h.lines.queueInOrder
  stamps d fr hd :=
    have hfits := h.fits d fr (by simp [Stage.rest]) hd
    ⟨hfits.stampless, hfits.stamp⟩
  heldOrdered d fr hd := (h.fits d fr (by simp [Stage.rest]) hd).held
  dataOnly d fr hd := (h.fits d fr (by simp [Stage.rest]) hd).data

theorem State.Arranged.deadlineInv (h : s.Arranged (.rest slot b)) : s.DeadlineInv := fun d fr hd =>
  (h.fits d fr (by simp [Stage.rest]) hd).deadline

theorem State.InOrder.orderInv (h : s.InOrder true) : s.OrderInv := by
  obtain ⟨slot, -, ha⟩ := h
  exact fun f => ha.lines.line rfl f

/-! ### The steps -/

/-- The clock is no part of what is consistent. -/
theorem State.Inv.advanceTo (h : s.Inv) (n : Nat) : (s.advanceTo n).Inv :=
  { h with
    store := { h.store with }
    table := { h.table with }
    receiver := { h.receiver with }
    frames := { h.frames with }
    places := { h.places with }
    runs := { h.runs with }
    chains := { h.chains with }
    cadence := { h.cadence with }
    transmitter := { h.transmitter with }
    management := { h.management with }
    counters := { h.counters with } }

theorem State.TableInv.holdDepth (h : s.TableInv) (hd : s.desc? d = some fr) : fr.entry.holdDepth ≤ 16 := by
  obtain ⟨-, -, hdepth, -⟩ := of_decide_eq_true (h.snapshots d fr hd)
  exact hdepth

theorem State.Handled.inv (hu : s.Handled c u) (h : s.Inv) : u.settle.Inv := by
  have horder := hu.inOrder (h.inOrder (b := false) (by simp)) fun d fr => h.table.holdDepth
  obtain ⟨slot, hslot, ha⟩ := horder.same u.settle_sameBut (by decide)
  exact {
    store := ha.store
    memory := hu.written.wf h.memory
    table := { hu.tableInv h.table with }
    receiver := hslot.receiverInv (hu.downIsQuiet h.receiver.linkDown)
    slot := State.InOrder.slotInv ⟨slot, hslot, ha⟩
    frames := ha.frames
    places := ha.placeInv hslot
    runs := ha.runInv
    turn := hu.turnInv h
    chains := ha.chainInv
    deadlines := ha.deadlineInv
    cadence := { hu.cadenceInv h.cadence with }
    holdWait := u.settle_holdWaitInv
    transmitter := { hu.transmitterInv h.transmitter with }
    management := { hu.managementInv h.management with }
    events := hu.eventInv h.events
    counters := { hu.counterInv h.counters with } }

end Sys2Proof.Machine

section
open Sys2Proof Sys2Proof.Machine

/-- Settles O10: the courses keep the arrangement of the frames (`State.Handled.inOrder`), and the conditions of
the single blocks beside it. -/
theorem everyStepKeepsThePartConsistent : Obligations.EveryStepKeepsThePartConsistent := by
  unfold Obligations.EveryStepKeepsThePartConsistent
  intro s t hinv h
  cases hpending : s.pending with
  | nil =>
    obtain rfl : s.tick = t := by simpa [step, hpending] using h
    exact hinv.advanceTo _
  | cons c rest =>
    have hexec : exec c { s with pending := rest } = .next t := by simpa [step, hpending] using h
    have hinv' := hinv.withPending rest
    obtain ⟨b, -, rfl⟩ | rfl | ⟨u, hu, rfl⟩ := exec_cases hexec
    · exact powerOnState_inv b rest
    · exact hinv'
    · exact hu.inv hinv'

/-- Settles O12: the line of each flow is part of the arrangement that the courses keep. -/
theorem everyStepKeepsOrderedFlowsInOrder : Obligations.EveryStepKeepsOrderedFlowsInOrder := by
  unfold Obligations.EveryStepKeepsOrderedFlowsInOrder
  intro s t hinv hs h
  cases hpending : s.pending with
  | nil =>
    obtain rfl : s.tick = t := by simpa [step, hpending] using h
    exact hs
  | cons c rest =>
    have hexec : exec c { s with pending := rest } = .next t := by simpa [step, hpending] using h
    have hinv' := hinv.withPending rest
    obtain ⟨b, -, rfl⟩ | rfl | ⟨u, hu, rfl⟩ := exec_cases hexec
    · exact State.orderInv_of_chains (powerOnState_inv b rest) rfl
    · exact hs
    · have horder := hu.inOrder (hinv'.inOrder (b := true) fun _ => hs) fun d fr => hinv'.table.holdDepth
      exact (horder.same u.settle_sameBut (by decide)).orderInv

end
end
